-- ==== Sys2Proof/Word.lean ====
section
/-! DEFINITION. The words of the HTB-2: bytes and addresses as they appear on a line. -/

namespace Sys2Proof

/-- One byte of a frame. -/
abbrev Byte := BitVec 8

/-- A 48-bit line address, most significant byte first on the line (00_scope.md, Conventions). -/
abbrev Address := BitVec 48

/-- A 64-bit sender id: a line address followed by two bytes (00_scope.md, Conventions). -/
abbrev SenderId := BitVec 64

end Sys2Proof
end

