-- ==== Sys2Proof/Syntax.lean ====
section
/-! DEFINITION. The commands of the HTB-2: one constructor for each row of spec/opcode_table.json.

Operands. An event whose instant comes from outside the part carries `dt`, the local-oscillator time since the step
before it, in fine units (2^-16 ns; log entries 1 and 2). An expiry of the part's own timers carries none: its instant
is the part's own. A management row carries only `dt`: what it does stands in the request at the head of the request
queue, which came to the part as a frame (R167). -/

namespace Sys2Proof

/-- The two lines of the line pair (00_scope.md, Directions). -/
inductive Line where
  /-- Line N, facing the core. -/
  | north
  /-- Line S, facing the racks. -/
  | south
  deriving DecidableEq, Repr

/-- The line a passing frame leaves by, given the line it entered by. -/
def Line.other : Line → Line
  | .north => .south
  | .south => .north

/-- The commands, in the order of spec/opcode_table.json. -/
inductive Instr where
  /-- `POWER_ON` (R172): Application of power begins a POWER reset; every block takes its POWER values and the line pair enters boot BYPASS. -/
  | powerOn
  /-- `POWER_GOOD` (R172): The supply becomes good with the reset pin not asserted, ending the POWER reset; the straps are read and the run counter starts from 0. -/
  | powerGood (dt : Nat) (straps : BitVec 6)
  /-- `RESET_PIN_ASSERT` (R172): The reset pin, held asserted long enough to qualify, starts a FULL reset with all FULL values. -/
  | resetPinAssert (dt : Nat) (heldNs : Nat)
  /-- `RESET_PIN_RELEASE` (R172): Release of the reset pin ends a pin FULL reset; the straps are read, the run counter starts from 0 and the boot window begins. -/
  | resetPinRelease (dt : Nat) (straps : BitVec 6)
  /-- `RUN_COUNTER_TICK` (R8): Each millisecond of oscillator time the run counter increases by one, modulo 2^32, and the run-time measures kept on it advance. -/
  | runCounterTick
  /-- `BOOT_WINDOW_END` (R20): When the run counter reaches 2 ms after a POWER or FULL reset, the line pair leaves boot BYPASS for ACTIVE. -/
  | bootWindowEnd
  /-- `BOUNDARY_REACHED` (R6): Running carries the timescale onto a whole second k, and a boundary-reached event goes to the pulse lines and the classifier. -/
  | boundaryReached
  /-- `PULSE_LEADING_EDGE` (R12): A leading edge on the pulse input in WAITING holds a tentative capture and puts the qualifier in TIMING. -/
  | pulseLeadingEdge (dt : Nat)
  /-- `PULSE_INPUT_INACTIVE` (R12): The pulse input becomes inactive, rejecting a pulse in TIMING or returning the qualifier from RELEASING to WAITING. -/
  | pulseInputInactive (dt : Nat)
  /-- `DEBOUNCE_EXPIRY` (R12): The debounce width elapses with the input still active, so the pulse is qualified and the qualifier enters RELEASING. -/
  | debounceExpiry
  /-- `FRAME_FIRST_BYTE` (R26): A frame's first byte arrives on a line, and it is admitted or dropped, stamped and given a passage record. -/
  | frameFirstByte (dt : Nat) (line : Line) (bytes : List Byte)
  /-- `BYPASS_PAYLOAD_START` (R28): The payload start of a commanded-BYPASS frame arrives; the frame becomes ready, and management frames addressed to the part are recognized. -/
  | bypassPayloadStart (dt : Nat) (line : Line)
  /-- `CLASSIFICATION_COMPLETE` (R24): Payload byte 127 arrives, or the frame ends, and an ACTIVE frame goes to fixed recognition and the classifier. -/
  | classificationComplete (dt : Nat) (line : Line)
  /-- `FRAME_END` (R24): A frame's last byte arrives, its status is settled, and the frame-end event reaches the blocks that received hand-offs. -/
  | frameEnd (dt : Nat) (line : Line)
  /-- `FRAME_OVERLENGTH` (R26): A frame reaching its 9,217th byte is counted as a length error and made bad; its transmission is stomped or it is dropped. -/
  | frameOverlength (dt : Nat) (line : Line)
  /-- `FRAME_DEPARTURE` (R23): A frame's first byte passes the egress stamp point, its departure stamp is taken, and it is transmitted with its edits. -/
  | frameDeparture (line : Line)
  /-- `TRANSMIT_END` (R33): A line finishes sending a frame, and its transmit arbiter makes a pick. -/
  | transmitEnd (dt : Nat) (line : Line)
  /-- `QUERY_TIMER_EXPIRY` (R56): The query timer expires, and the outstanding Query record builds a Query, counts a miss or closes an open window. -/
  | queryTimerExpiry
  /-- `REPLY_WINDOW_EXPIRY` (R59): An open Query's reply window expires without a matching Reply; a miss is counted and the record empties. -/
  | replyWindowExpiry
  /-- `PULSE_LIVENESS_EXPIRY` (R66): Three seconds pass with no REGULAR capture; PULSE becomes LOST and the servo is given a LOST event. -/
  | pulseLivenessExpiry
  /-- `HOLDOVER_LIMIT_EXPIRY` (R97): t_h reaches the holdover limit, ending holdover by state: to FREE, or to ACQUIRE without memory. -/
  | holdoverLimitExpiry
  /-- `U_CEILING` (R85): The holdover form of U reaches 4,294,967,294, and a ceiling event ends holdover. -/
  | uCeiling
  /-- `REVERT_EXPIRY` (R98): The primary's live-since mark reaches the revert time, and the revert test is made. -/
  | revertExpiry
  /-- `GRADE_TIMER_EXPIRY` (R116): The grade timer expires, and a Grade is built and placed southward. -/
  | gradeTimerExpiry
  /-- `EVALUATION` (R143): The evaluation timer expires, and each enabled rack is evaluated in index order. -/
  | evaluation
  /-- `SUMMARY_TIMER_EXPIRY` (R158): The summary timer expires, and a periodic Summary is held waiting to join the collector line. -/
  | summaryTimerExpiry
  /-- `REPORT_LATENCY_EXPIRY` (R131): The oldest date record reaches the report latency, making the date queue ready to drain. -/
  | reportLatencyExpiry
  /-- `NOTICE_HOLDOFF_EXPIRY` (R156): The oldest notice-set entry reaches the holdoff, making the set ready to send. -/
  | noticeHoldoffExpiry
  /-- `PULSE_LINE_START` (R161): A scheduled start falls on a SECOND-mode line, which asserts or extends its pulse. -/
  | pulseLineStart (number : Nat)
  /-- `PULSE_LINE_END` (R161): The pulse end is reached, and the line ceases to be asserted. -/
  | pulseLineEnd (number : Nat)
  /-- `RESET_HOLD_EXPIRY` (R171): The hold of a RESET command ends after 10 ms, or when its response begins to leave, and the reset is started. -/
  | resetHoldExpiry (straps : BitVec 6)
  /-- `REQUEST_BAD_COMMAND` (R168): A handled request whose command is unknown is answered BAD_COMMAND with nothing done. -/
  | requestBadCommand (dt : Nat)
  /-- `REQUEST_BAD_ITEMS` (R179): A handled request whose item count or item lengths do not suit its command or frame is answered BAD_VALUE with nothing done. -/
  | requestBadItems (dt : Nat)
  /-- `READ_SETTINGS` (R169): A READ item returns the stored values of up to 16 settings. -/
  | readSettings (dt : Nat)
  /-- `READ_CLASS_TABLE` (R39): A READ item returns entries of the ACTIVE or SHADOW bank. -/
  | readClassTable (dt : Nat)
  /-- `READ_MATCH_COUNTS` (R39): A READ item returns and clears a range of match counts. -/
  | readMatchCounts (dt : Nat)
  /-- `READ_ORIGIN_TABLE` (R152): A READ item returns origin entries and clears their per-kind sample counts. -/
  | readOriginTable (dt : Nat)
  /-- `READ_RACK_TABLE` (R152): A READ item returns rack entries with their effective levels and learned fields. -/
  | readRackTable (dt : Nat)
  /-- `READ_MANAGER_LIST` (R166): A READ item returns the four places of the manager list. -/
  | readManagerList (dt : Nat)
  /-- `READ_STREAM_TABLE` (R133): A READ item returns the stream states of a range of streams. -/
  | readStreamTable (dt : Nat)
  /-- `READ_COUNT_GROUP` (R178): A READ item returns and clears a block's clear-on-read counts. -/
  | readCountGroup (dt : Nat)
  /-- `READ_BLOCK_STATUS` (R178): A READ item returns a block's status items. -/
  | readBlockStatus (dt : Nat)
  /-- `WRITE_SETTING` (R169): A WRITE item stores a setting that has no step of its own, clamped or refused by its owner's rule. -/
  | writeSetting (dt : Nat)
  /-- `WRITE_PULSE_POLARITY` (R11): A write of the pulse polarity discards any tentative capture and resets the qualifier state. -/
  | writePulsePolarity (dt : Nat)
  /-- `WRITE_LEADER_ADDRESS` (R54): A write of the leader address voids an outstanding Query and may change whether NORTH is configured. -/
  | writeLeaderAddress (dt : Nat)
  /-- `WRITE_REFERENCE` (R91): A write of the primary or secondary reference changes the configured set, with loss, offer and revert handling. -/
  | writeReference (dt : Nat)
  /-- `WRITE_A_MAX` (R71): A write of A_max clamps I and A at once to the new limit. -/
  | writeAMax (dt : Nat)
  /-- `WRITE_HOLDOVER_BOUND` (R71): A write of H applies at once to the holdover form of U and may reach the ceiling. -/
  | writeHoldoverBound (dt : Nat)
  /-- `WRITE_HOLDOVER_LIMIT` (R97): A write of the holdover limit at or below t_h ends holdover at the write. -/
  | writeHoldoverLimit (dt : Nat)
  /-- `WRITE_WINDOW_SIZE` (R64): A write of W shortens longer windows at once, and the selection is made again. -/
  | writeWindowSize (dt : Nat)
  /-- `WRITE_REVERT_SETTING` (R98): A write of revert enable or the revert time reschedules the revert expiry and makes the revert test. -/
  | writeRevertSetting (dt : Nat)
  /-- `WRITE_EVALUATION_INTERVAL` (R143): A write of E respaces the evaluation timer and invalidates every rack's R_prev. -/
  | writeEvaluationInterval (dt : Nat)
  /-- `WRITE_SETTLE_COUNT` (R142): A write of n_s moves entries between SETTLING and TRACKING or STRAY at once. -/
  | writeSettleCount (dt : Nat)
  /-- `WRITE_COLLECTOR_ADDRESS` (R157): A write of the collector address changes readiness, and zero withdraws waiting reports. -/
  | writeCollectorAddress (dt : Nat)
  /-- `WRITE_COLLECTOR_LINE` (R157): A write of the collector line moves waiting reports to the new line's origin queue. -/
  | writeCollectorLine (dt : Nat)
  /-- `WRITE_SUMMARY_INTERVAL` (R158): A write of the summary interval reschedules, starts or cancels the summary timer. -/
  | writeSummaryInterval (dt : Nat)
  /-- `WRITE_PULSE_LINE_MODE` (R160): A write of a pulse line's mode or polarity ends its pulse, discards its starts, and sets its level. -/
  | writePulseLineMode (dt : Nat)
  /-- `WRITE_DRAIN_SETTING` (R131): A write of the batch threshold or report latency is applied to the date queue as it stands. -/
  | writeDrainSetting (dt : Nat)
  /-- `WRITE_CLASS_ENTRY` (R38): A WRITE item tests a class-table entry and stores it into the shadow bank. -/
  | writeClassEntry (dt : Nat)
  /-- `WRITE_ORIGIN_ENTRY` (R137): A WRITE item tests and stores an origin entry, returning it to UNSEEN. -/
  | writeOriginEntry (dt : Nat)
  /-- `WRITE_RACK_ENTRY` (R139): A WRITE item stores a rack entry, with its effect set by the enabled field before and after. -/
  | writeRackEntry (dt : Nat)
  /-- `WRITE_MANAGER_PLACE` (R166): A WRITE item replaces a place of the manager list. -/
  | writeManagerPlace (dt : Nat)
  /-- `COPY` (R46): The active bank is copied into the shadow unless a swap is pending. -/
  | copy (dt : Nat)
  /-- `SWAP` (R47): The swap-pending flag is set, or the command is answered ALREADY_PENDING. -/
  | swap (dt : Nat)
  /-- `SERVO_AUTO` (R99): The servo leaves HELD for AUTO, chooses an active reference and enters ACQUIRE. -/
  | servoAuto (dt : Nat)
  /-- `SERVO_HELD` (R99): The servo stops steering and moves to HOLDOVER or FREE in HELD mode. -/
  | servoHeld (dt : Nat)
  /-- `SERVO_ALIGN` (R100): In HELD mode the ALIGN-pending flag is set; in AUTO the command is refused. -/
  | servoAlign (dt : Nat)
  /-- `SERVO_SET_RATE` (R101): In HELD mode, I and A are set to the given rate, clamped. -/
  | servoSetRate (dt : Nat)
  /-- `SET_TIME` (R102): An accepted target is applied as a step, and held holdover goes to FREE. -/
  | setTime (dt : Nat)
  /-- `CAPTURE_READ` (R15): The capture queue, OVERRUN mark and rejected-pulse count are returned and cleared. -/
  | captureRead (dt : Nat)
  /-- `CAPTURE_NOW` (R16): A SOFT capture record of the present timescale is made and returned. -/
  | captureNow (dt : Nat)
  /-- `CLEAR` (R163): The named latched conditions are cleared. -/
  | clear (dt : Nat)
  /-- `SUMMARY` (R159): A requested Summary is built and returned as the response. -/
  | summary (dt : Nat)
  /-- `BYPASS_ON` (R21): The line pair enters commanded BYPASS, and frames in passage are converted. -/
  | bypassOn (dt : Nat)
  /-- `BYPASS_OFF` (R21): The line pair returns to ACTIVE, and the held own frames may leave. -/
  | bypassOff (dt : Nat)
  /-- `RESET_WARM` (R171): A RESET WARM command is answered OK, and the reset is held until its response leaves. -/
  | resetWarm (dt : Nat)
  /-- `RESET_FULL` (R171): A RESET FULL command is answered OK, and the reset is held until its response leaves. -/
  | resetFull (dt : Nat)
  deriving DecidableEq, Repr

end Sys2Proof
end

