-- ==== Sys2Proof/Decode.lean ====
section
/-! DEFINITION. The command that a word spells. spec/opcode_table.json gives no row any bits (its rows are steps of a
block, not encoded instructions), so no word spells a command (log entry 29). -/

namespace Sys2Proof

/-- The command spelled by the `nbits` bits `w`: none, since the table gives no row any bits. -/
def decodeTableWord (_nbits _w : Nat) : Option Instr := none

end Sys2Proof
end

