-- ==== Sys2Proof/Config.lean ====
section
/-! DEFINITION. What an implementation fixes and the spec leaves open: the free values. Nothing in Lean can evaluate
them, so a claim that holds of the model holds whatever they are. -/

namespace Sys2Proof

/-- Whether the `n`th reset-pin assertion of between 1 µs and 10 µs starts the reset. R172 lets the part do either
(log entry 11). -/
opaque Config.pinStartsReset (n : Nat) : Bool

/-- The 12 bytes in which a stamp that lies outside the timescale's range is sent (log entry 12). A held stamp can
leave the range only when a backward step moves it below zero; R174 lays out no such stamp. -/
opaque Config.stampOutsideRange (value : Int) : BitVec 96

/-- The 4 bytes in which a rack's rate that no signed 32-bit word holds is sent (R183, log entry 13). -/
opaque Config.wideRateCode (rate : Int) : BitVec 32

/-- The 8-byte value in which a run time kept at full resolution is read (R117, R133). The spec names no unit for it
(log entry 14). The argument is the run time in fine units of the oscillator. -/
opaque Config.runTimeCode (fineUnits : Nat) : BitVec 64

end Sys2Proof
end

