-- ==== Sys2Proof/Machine/State.lean ====
section
/-! DEFINITION. The state of the HTB-2 as plain data, block by block in the order of the manual's chapters, and the
state right after a POWER reset. Every field cites the rule of spec/ that names it; a field that is the model's own
says so and names its log entry. -/

namespace Sys2Proof.Machine

/-! ## Stops -/

/-- Why the part would stop with a fault. The manual gives the part no fault that stops it, and no meaning of the model
answers with one. -/
inductive Fault where
  /-- Raised by no meaning: the manual names no event that stops the part. Safe: it is never answered. -/
  | never
  deriving DecidableEq, Repr

/-- Why the model would refuse a command. No meaning of the model answers with a refusal. -/
inductive Refusal where
  /-- Raised by an arm of `exec` that has no meaning yet, with the row's mnemonic. Safe: the model claims nothing. -/
  | notModelled (mnemonic : String)
  deriving DecidableEq, Repr

/-! ## Chapter 1: the timescale unit -/

/-- What the part is doing about resets (R172). -/
inductive Phase where
  /-- No reset is in progress. -/
  | running
  /-- A POWER reset: power is applied and the reset has not ended. -/
  | powerReset
  /-- A FULL reset that the reset pin holds. -/
  | pinReset
  deriving DecidableEq, Repr

/-- The timescale, its rate and the run counter (R1 to R8). -/
structure Clock where
  /-- The timescale value, as a count of fine units since 0 s 0 ns 0 fu (R1). -/
  value : Nat
  /-- The part of the advance below one fine unit, in 10^-12 fu (R1). -/
  remainder : Nat
  /-- The rate adjustment A, in ppt (R3). -/
  rateA : Int
  /-- The servo's integral term I, in ppt (R3). -/
  integI : Int
  /-- The run counter (R8). -/
  runCounter : BitVec 32
  /-- Local-oscillator time since power, at full resolution (R9), in fine units (log entries 2 and 28). -/
  osc : Nat
  /-- The oscillator instant at which the run counter next adds one (R8). -/
  tickAt : Nat
  deriving DecidableEq, Repr

/-- The states of the pulse input's qualifier (R12). -/
inductive Qualifier where
  | waiting
  | timing
  | releasing
  deriving DecidableEq, Repr

/-- The tentative capture of a pulse being timed (R12). -/
structure Tentative where
  /-- The timescale value held at the leading edge, moved by the steps applied since (R13). -/
  value : Int
  /-- The run-counter reading at the leading edge. -/
  runCounter : BitVec 32
  /-- The oscillator instant at which the debounce width in force at the edge has elapsed (R11). -/
  endsAt : Nat
  deriving DecidableEq, Repr

/-- A capture record (R13, R16). -/
structure CaptureRecord where
  value : Int
  runCounter : BitVec 32
  regular : Bool
  soft : Bool
  deriving DecidableEq, Repr

/-- The pulse input and its capture queue (R11 to R18). -/
structure PulseInput where
  /-- The level of the pulse input pin. -/
  pinHigh : Bool
  /-- Pulse polarity: active high, or active low (R11). -/
  activeHigh : Bool
  /-- Debounce width, in ns (R11). -/
  debounce : Nat
  qualifier : Qualifier
  tentative : Option Tentative
  /-- The previous capture mark (R14). -/
  previousMark : Option (BitVec 32)
  /-- The rejected-pulse count (R12). -/
  rejected : Nat
  /-- The capture queue, oldest first (R15). -/
  queue : List CaptureRecord
  /-- The OVERRUN mark (R15). -/
  overrun : Bool
  deriving DecidableEq, Repr

/-! ## Chapter 2: the line pair -/

/-- The states of the line pair, and so the treatments of a frame (R19). -/
inductive LineMode where
  | active
  | commanded
  | boot
  deriving DecidableEq, Repr

/-- The two class-table banks (R37). -/
inductive Bank where
  | bank0
  | bank1
  deriving DecidableEq, Repr

/-- A passage record's classification status (R24). -/
inductive ClassStatus where
  | pending
  | complete
  deriving DecidableEq, Repr

/-- Who takes a consumed frame at its last byte (R28, R29). -/
inductive Consumer where
  | agent
  | exchange
  | south
  /-- Consumed and dropped: MISDIRECTED (R28), or consumed before a FULL reset began (R22). -/
  | nobody
  deriving DecidableEq, Repr

/-- A passage record's frame status (R24). -/
inductive FrameStatus where
  | arriving
  | good
  | bad
  deriving DecidableEq, Repr

/-- An edit to apply as a frame leaves (R24). -/
inductive Edit where
  /-- Add the frame's residence to its passage correction (R30). -/
  | correctionAdd
  /-- Write a date, in whole ns, into the stamp field at an offset from payload start (R123). -/
  | stampField (offset : Nat) (date : Nat)
  deriving DecidableEq, Repr

/-- The passage record of one frame (R24). Its ingress line is the line whose `buffer` holds it. -/
structure Passage where
  /-- The frame's bytes, destination address to check sequence. Only those that have arrived are used (log entry 5). -/
  bytes : List Byte
  treatment : LineMode
  /-- The held arrival stamp, present in ACTIVE treatment (R23). -/
  arrival : Option Int
  /-- The oscillator instant of the first byte, for the byte counts of R26 (log entry 6). -/
  firstAt : Nat
  /-- The bank active at the frame's arrival (R40). -/
  notedBank : Option Bank
  /-- The payload start of a commanded-BYPASS frame has arrived (R25). -/
  payloadStarted : Bool
  /-- Absent in BYPASS treatment. -/
  classification : Option ClassStatus
  consumer : Option Consumer
  edits : List Edit
  status : FrameStatus
  /-- The oscillator instant at which the frame began to leave. -/
  departedAt : Option Nat
  /-- The residence, formed at the departure stamp (R23). -/
  residence : Option Int
  /-- Where the transmission of an over-long frame was ended (R26, log entry 9). -/
  cutAt : Option Nat
  deriving DecidableEq, Repr

/-- The kinds of own frame, in their priority order (R33). -/
inductive OwnKind where
  | reply
  | query
  | grade
  | response
  | notice
  | dateReport
  | summary
  deriving DecidableEq, Repr

/-- An own frame as its block built it: no padding, no check sequence, marked fields zero (R31, R174). -/
structure OwnFrame where
  kind : OwnKind
  bytes : List Byte
  /-- The place of the payload start in `bytes`. -/
  start : Nat
  /-- The MODEL's own field: which Query of the exchange's building this is, by which its departure is told from that of a
  voided one (R57, R58, log entry 58); absent from every other frame. -/
  queryNumber : Option Nat
  /-- The frame is the response of the RESET command in hold (R171). -/
  resetResponse : Bool
  deriving DecidableEq, Repr

/-- What a line's arbiter and egress are doing (R33). -/
inductive Transmit where
  | idle
  /-- The own frame at a place of the origin queue has been picked and has not begun to leave. -/
  | pickedOwn (place : Nat)
  /-- The oldest passing frame has been picked and has not begun to leave. -/
  | pickedPassing
  /-- An own frame is leaving with these bytes, its check sequence still to come. -/
  | sendingOwn (bytes : List Byte)
  /-- The oldest passing frame is leaving. -/
  | sendingPassing
  deriving DecidableEq, Repr

/-- What the part holds for one line. -/
structure LineState where
  /-- The elastic buffer of the frames that entered by this line, oldest first (R24, R26). -/
  buffer : List Passage
  /-- The origin queue of the own frames that leave by this line, in the order they joined (R32). -/
  origin : List OwnFrame
  transmit : Transmit
  /-- The MODEL's own field: the frame this line has last wholly sent (log entry 26). -/
  egress : Option (List Byte)
  /-- The line fault counts and the MISDIRECTED count of what arrives on this line (R34). -/
  badCheck : Nat
  lengthErrors : Nat
  overruns : Nat
  misdirected : Nat
  deriving DecidableEq, Repr

/-- The line pair (R19 to R36). -/
structure LinePair where
  mode : LineMode
  /-- Injection limit, in bytes (R33). -/
  injectionLimit : Nat
  /-- Transit correction on (R30). -/
  transitCorrection : Bool
  timingType : BitVec 16
  managementType : BitVec 16
  north : LineState
  south : LineState
  deriving DecidableEq, Repr

/-! ## Chapter 3: the classifier -/

/-- The line of a class-table entry (R37). -/
inductive EntryLine where
  | north
  | south
  | either
  deriving DecidableEq, Repr

/-- A byte term: offset, value and mask (R37). -/
structure ByteTerm where
  offset : Nat
  value : Byte
  mask : Byte
  deriving DecidableEq, Repr

/-- A class-table entry (R37). -/
structure ClassEntry where
  enabled : Bool
  line : EntryLine
  typeValue : Option (BitVec 16)
  source : Option Address
  /-- The four byte-term places. -/
  terms : List (Option ByteTerm)
  /-- The actions: DATE. -/
  date : Bool
  /-- The actions: SAMPLE. -/
  sample : Bool
  stampOffset : Option Nat
  issueOffset : Option Nat
  /-- Dating offset, in ns. -/
  datingOffset : Int
  newStream : Bool
  deriving DecidableEq, Repr

/-- The classifier (R37). -/
structure Classifier where
  bank0 : List ClassEntry
  bank1 : List ClassEntry
  active : Bank
  swapPending : Bool
  matchCounts : List Nat
  deriving DecidableEq, Repr

/-! ## Chapter 4: the north exchange -/

/-- The references of the servo; `none` is a value of the reference settings and of the active reference (R90). -/
inductive Ref where
  | north
  | pulse
  | none
  deriving DecidableEq, Repr

/-- A sample of an Exchange Window (R64). -/
structure Sample where
  /-- θ, in fine units. -/
  theta : Int
  /-- d, in fine units. -/
  delay : Nat
  leaderClass : Nat
  leaderU : Nat
  runCounter : BitVec 32
  deriving DecidableEq, Repr

/-- The outstanding Query record (R56). -/
inductive QueryRecord where
  | empty
  | waiting (seq : BitVec 16)
  | opened (seq : BitVec 16) (t1 : Int) (expiry : BitVec 32)
  deriving DecidableEq, Repr

/-- The north exchange (R53 to R70). -/
structure Exchange where
  leader : Address
  northDomain : Nat
  /-- The Query interval exponent q. -/
  queryExp : Int
  replyWindow : Nat
  /-- The missed limit K. -/
  missedLimit : Nat
  /-- The window size W. -/
  windowSize : Nat
  pulseClass : Nat
  pulseU : Nat
  record : QueryRecord
  /-- A Query waiting in the exchange for a place (R57). -/
  waitingQuery : Option OwnFrame
  /-- The MODEL's own count of the Queries built, the number of the last one (log entry 58). -/
  built : Nat
  nextSeq : BitVec 16
  issued : Nat
  /-- The query timer: run-counter milliseconds to its next expiry, or stopped (R55). -/
  queryIn : Option Nat
  missed : Nat
  /-- NORTH is LIVE. -/
  liveN : Bool
  /-- PULSE is LIVE. -/
  liveP : Bool
  pulseExpiry : Option (BitVec 32)
  lastRegular : Option (BitVec 32)
  windowN : List Sample
  windowP : List Sample
  late : Nat
  strayReply : Nat
  badDelay : Nat
  deriving DecidableEq, Repr

/-! ## Chapters 5 and 6: the servo -/

/-- The servo's states (R89), in the order in which a Grade codes them (R175). -/
inductive ServoState where
  | free
  | acquire
  | locked
  | holdover
  deriving DecidableEq, Repr

/-- The outcomes of the step test, in the order of R77. -/
inductive StepOutcome where
  | step
  | hold
  | steer
  deriving DecidableEq, Repr

/-- Where a step comes from (R104). -/
inductive StepSource where
  | acquire
  | align
  | setTime
  deriving DecidableEq, Repr

/-- A live-since mark and its age in run-time milliseconds, a count of 48 bits (R89, R98). -/
structure LiveMark where
  since : BitVec 32
  age : BitVec 48
  deriving DecidableEq, Repr

/-- The figures of a PI update (R87). -/
structure PiFigures where
  thetaPs : Int
  prop : Int
  incr : Int
  deriving DecidableEq, Repr

/-- The servo (R71 to R107). -/
structure Servo where
  /-- Asymmetry α, in ns. -/
  alpha : Int
  propExp : Nat
  integExp : Nat
  /-- Rate limit A_max, in ppt. -/
  aMax : Nat
  /-- Step limit, in ns. -/
  stepLimit : Nat
  /-- Holdover bound H, in ppt. -/
  holdBound : Nat
  primary : Ref
  secondary : Ref
  revertEnable : Bool
  /-- Revert time, in s. -/
  revertTime : Nat
  lockLimit : Nat
  unlockLimit : Nat
  /-- Holdover limit, in s. -/
  holdoverLimit : Nat
  state : ServoState
  /-- The mode is HELD; AUTO otherwise. -/
  held : Bool
  memory : Bool
  active : Ref
  lockCounter : Nat
  unlockCounter : Nat
  alignPending : Bool
  markN : Option LiveMark
  markP : Option LiveMark
  /-- Run time to the revert expiry, in ms, or none scheduled (R98, R106, log entry 24). -/
  revertIn : Option Nat
  /-- The leader class of the selection. -/
  leaderClass : Option Nat
  lastPi : Option PiFigures
  stepOutcome : Option StepOutcome
  stepPending : Bool
  /-- The locked form of U last computed (R83). -/
  lockedU : Nat
  /-- U_entry, while the holdover form is in use (R84). -/
  entryU : Option Nat
  /-- t_h, while the holdover form is in use (R84). -/
  holdTime : Option (BitVec 48)
  stepCount : Nat
  /-- The applied amount of the most recent step (R87). -/
  lastStep : Option Int
  /-- The run-counter reading of the last change of condition (R106). -/
  lastChange : Option (BitVec 32)
  deriving DecidableEq, Repr

/-- The servo's condition (R105). -/
structure Condition where
  state : ServoState
  held : Bool
  memory : Bool
  active : Ref
  deriving DecidableEq, Repr

/-! ## Chapter 7: the south server -/

/-- An entry of the reply queue (R110). -/
structure ReplyEntry where
  requester : Address
  /-- The Query's VLAN tag: its priority and identifier, the drop flag zero (R174). -/
  tag : Option (BitVec 16)
  domain : Nat
  senderId : SenderId
  seq : BitVec 16
  t2 : Int
  cFwd : Int
  takenAt : BitVec 32
  deriving DecidableEq, Repr

/-- The south server (R108 to R118). -/
structure SouthServer where
  domain : Nat
  /-- The Grade interval exponent g. -/
  gradeExp : Int
  group : Address
  queue : List ReplyEntry
  waitingGrade : Option OwnFrame
  /-- The oscillator instant of the next grade timer expiry (R115). -/
  gradeAt : Nat
  gradeSeq : BitVec 16
  badQuery : Nat
  droppedQuery : Nat
  unknownOrigin : Nat
  badReport : Nat
  gradeSuperseded : Nat
  deriving DecidableEq, Repr

/-! ## Chapter 8: the dater -/

/-- The state of one stream (R119). -/
structure StreamState where
  /-- The last date, in whole ns. -/
  lastDate : Option Nat
  nextSeq : BitVec 32
  gap : BitVec 32
  armed : Bool
  /-- Which beginning of the stream this is, by which an open date knows its own (R126). -/
  beginning : Nat
  deriving DecidableEq, Repr

/-- An open date (R119). -/
structure OpenDate where
  stream : Nat
  beginning : Nat
  date : Nat
  held : Bool
  uncertainty : Nat
  state : ServoState
  origin : Option Nat
  issueOffset : Option Int
  stampOffset : Option Nat
  payloadStart : Nat
  deriving DecidableEq, Repr

/-- A date record (R127). Its UNLOCKED flag is read from `state`. -/
structure DateRecord where
  stream : Nat
  /-- The beginning of the stream the record belongs to: the model's own field, not sent (log entry 38). -/
  beginning : Nat
  seq : BitVec 32
  date : Nat
  uncertainty : Nat
  state : ServoState
  held : Bool
  short : Bool
  /-- The gap count; present when above 0. -/
  gap : BitVec 32
  origin : Option Nat
  issueOffset : Option Int
  createdAt : Nat
  deriving DecidableEq, Repr

/-- The dater (R119 to R134). -/
structure Dater where
  streams : List StreamState
  queue : List DateRecord
  /-- The open date of the frame arriving on line N, and on line S (R119). -/
  openN : Option OpenDate
  openS : Option OpenDate
  lostRecord : Nat
  orphaned : Nat
  /-- Batch threshold, in records. -/
  batch : Nat
  /-- Report latency, in µs. -/
  latency : Nat
  deriving DecidableEq, Repr

/-! ## Chapter 9: the drift monitor -/

/-- The states of a server, in the order of R136. -/
inductive ServerState where
  | unseen
  | settling
  | tracking
  | stray
  | silent
  deriving DecidableEq, Repr

/-- An origin-table entry (R136). -/
structure OriginEntry where
  enabled : Bool
  source : Address
  rack : Nat
  state : ServerState
  /-- The filtered offset F, in ns. -/
  filtered : Option Int
  lastSample : Option Int
  lastAt : Option (BitVec 32)
  sampleCount : Nat
  queryCount : Nat
  storageCount : Nat
  deriving DecidableEq, Repr

/-- The states of a rack, in the order of R138. -/
inductive RackState where
  | quiet
  | unjudged
  | inStep
  | watch
  | drifting
  deriving DecidableEq, Repr

/-- The levels a rack's judgement can take, in the order of R138's pending candidate. -/
inductive Level where
  | inStep
  | watch
  | drifting
  deriving DecidableEq, Repr

/-- The configured fields of a rack-table entry (R138). -/
structure RackConfig where
  enabled : Bool
  watchOn : Int
  watchOff : Int
  driftOn : Int
  driftOff : Int
  rateOn : Int
  spreadLimit : Int
  strayLimit : Int
  confirm : Int
  nominalDelay : Int
  drillOffset : Int
  storageSamples : Bool
  deriving DecidableEq, Repr

/-- A rack-table entry (R138). -/
structure Rack where
  config : RackConfig
  state : RackState
  /-- R, in ns. -/
  mean : Option Int
  prevMean : Int
  prevValid : Bool
  /-- The rate, in ppb. -/
  rate : Option Int
  /-- S, in ns. -/
  spread : Option Int
  /-- m. -/
  members : Nat
  split : Bool
  drill : Bool
  pending : Option Level
  pendingCount : Nat
  lastTransition : Option (BitVec 32)
  deriving DecidableEq, Repr

/-- A storage sample held for its frame's end (R141). -/
structure HeldSample where
  index : Nat
  source : Address
  /-- The issue stamp less the held arrival stamp, in fine units: what a nominal delay is added to (R139, R141). -/
  residual : Int
  /-- s as formed at the hand-off, which the dater is given (R122, R141). -/
  sample : Int
  deriving DecidableEq, Repr

/-- The drift monitor (R135 to R153). -/
structure Monitor where
  /-- The filter exponent w. -/
  filterExp : Nat
  /-- The settle count n_s. -/
  settleCount : Nat
  /-- Silence time, in s. -/
  silence : Nat
  /-- The evaluation interval E, in s. -/
  interval : Nat
  /-- Judge limit, in ns. -/
  judgeLimit : Nat
  /-- The settle period N. -/
  settlePeriod : Nat
  origins : List OriginEntry
  racks : List Rack
  heldN : Option HeldSample
  heldS : Option HeldSample
  /-- The evaluation timer: run-counter milliseconds to its next expiry (R143). -/
  evalIn : Nat
  settleCounter : Nat
  unknownStorage : Nat
  ignoredSample : Nat
  discardedByReset : Nat
  deriving DecidableEq, Repr

/-! ## Chapter 10: the report engine -/

/-- The subjects of the notice set (R154). -/
inductive Subject where
  | rack (index : Nat)
  | server (index : Nat)
  | servo
  | streamGap (index : Nat)
  | swap
  deriving DecidableEq, Repr

/-- The old or new state of a transition, in the form its owner gives (R50, R105, R130, R151). -/
inductive SubjectState where
  | rack (state : RackState)
  | server (state : ServerState)
  | servo (condition : Condition)
  /-- DELIVERING, or LOSING. -/
  | gap (losing : Bool)
  | bank (bank : Bank)
  deriving DecidableEq, Repr

/-- A transition's value snapshot (R154). -/
inductive Snapshot where
  | rack (mean rate spread : Option Int) (members : Nat) (split drill : Bool)
  | server (filtered : Option Int) (rack : Nat)
  | condition (uncertainty ownClass : Nat)
  | step (applied : Int) (source : StepSource) (uncertainty : Nat)
  | gap (lost : BitVec 32) (pending : BitVec 32)
  | swap (second : Nat)
  deriving DecidableEq, Repr

/-- An entry of the notice set (R154). -/
structure NoticeEntry where
  subject : Subject
  firstOld : SubjectState
  latestNew : SubjectState
  snapshot : Snapshot
  count : Nat
  createdAt : Nat
  deriving DecidableEq, Repr

/-- The modes of a pulse line (R160). -/
inductive PulseMode where
  | off
  | second
  | alarm
  deriving DecidableEq, Repr

/-- A pulse line (R160, R161). -/
structure PulseLine where
  mode : PulseMode
  activeHigh : Bool
  /-- Phase, in ns. -/
  phase : Nat
  /-- Width, in ns, 0 meaning 500,000,000. -/
  width : Nat
  /-- Subscriptions, bits 0 to 7 in the order of R162's table. -/
  subscriptions : BitVec 8
  /-- Scheduled starts: the timescale's running still to be added, in fine units. -/
  starts : List Nat
  /-- The oscillator instant at which the pulse in progress ends. -/
  pulseEnd : Option Nat
  deriving DecidableEq, Repr

/-- The report engine (R154 to R164). -/
structure ReportEngine where
  /-- The notice set, oldest entry first. -/
  notices : List NoticeEntry
  noticeWaiting : Bool
  dateReportWaiting : Bool
  summaryWaiting : Bool
  /-- The latches (R163). -/
  dateGap : Bool
  noticeOverflow : Bool
  noticeDropped : Nat
  noticeSeq : BitVec 16
  dateReportSeq : BitVec 16
  summarySeq : BitVec 16
  collector : Address
  collectorLine : Line
  /-- Collector VLAN: the tag's priority and identifier (R157). -/
  collectorTag : Option (BitVec 16)
  /-- Notice holdoff, in ms. -/
  holdoff : Nat
  /-- Summary interval, in s, 0 turning periodic Summaries off. -/
  summaryInterval : Nat
  /-- The summary timer: run-counter milliseconds to its next expiry, or off (R158). -/
  summaryIn : Option Nat
  pulseLines : List PulseLine
  deriving DecidableEq, Repr

/-! ## Chapter 11: the management agent -/

/-- A request in the request queue (R165, R167). -/
structure Request where
  line : Line
  source : Address
  /-- The request's VLAN tag: its priority and identifier, the drop flag zero (R170, R174). -/
  tag : Option (BitVec 16)
  /-- The payload, from the version byte to the byte before the check sequence. -/
  body : List Byte
  deriving DecidableEq, Repr

/-- The statuses of a request and of an item, in the order of their codes (R180). -/
inductive Status where
  | ok
  | clamped
  | badCommand
  | badIndex
  | badValue
  | duplicate
  | pending
  | alreadyPending
  | badState
  deriving DecidableEq, Repr

/-- What one item has come to: its status and its content in the response (R180). -/
structure ItemResult where
  status : Status
  content : List Byte
  deriving DecidableEq, Repr

/-- The hold of a RESET command (R171). -/
structure ResetHold where
  /-- FULL, or WARM. -/
  full : Bool
  offeredAt : BitVec 32
  /-- The response has begun to leave, or was dropped. -/
  released : Bool
  deriving DecidableEq, Repr

/-- The management agent (R165 to R173). -/
structure Agent where
  address : Address
  southManagement : Bool
  /-- The four places of the manager list (R166). -/
  managers : List (Option Address)
  queue : List Request
  /-- The items carried out of the request in handling, in order (R167). -/
  results : List ItemResult
  /-- A READ item of the request in handling has not fitted in the response (R168). -/
  overflowed : Bool
  hold : Option ResetHold
  malformed : Nat
  disallowed : Nat
  queueFull : Nat
  responseDropped : Nat
  deriving DecidableEq, Repr

/-! ## The whole part -/

/-- The state of the part. -/
structure State where
  /-- The commands waiting, first in, first out. -/
  pending : List Instr
  phase : Phase
  /-- The supply is good (R172). -/
  supplyGood : Bool
  /-- The reset pin is asserted (R172). -/
  resetPin : Bool
  /-- The six address straps as last read (R172). -/
  straps : BitVec 6
  /-- The MODEL's own counter behind the free value of log entry 11 (log entry 27). -/
  free : Nat
  clock : Clock
  pulse : PulseInput
  lines : LinePair
  cls : Classifier
  exch : Exchange
  servo : Servo
  south : SouthServer
  dater : Dater
  mon : Monitor
  rep : ReportEngine
  agent : Agent
  deriving DecidableEq, Repr

/-! ## Reset values -/

/-- Fine units in a nanosecond (00_scope.md, The timescale value). -/
def fuPerNs : Nat := 65536

/-- Fine units in a microsecond. -/
def fuPerUs : Nat := 1000 * fuPerNs

/-- Fine units in a millisecond. -/
def fuPerMs : Nat := 1000000 * fuPerNs

/-- Fine units in a second. -/
def fuPerSecond : Nat := 1000000000 * fuPerNs

/-- The value after the timescale's largest, in fine units (R1, R4). -/
def timescaleRange : Nat := 2 ^ 48 * fuPerSecond

/-- The part line address with the straps as its low byte (R169). -/
def strapAddress (straps : BitVec 6) : Address := 0x02C51A000000#48 ||| straps.setWidth 48

/-- A class-table entry after a POWER or FULL reset (R51). -/
def ClassEntry.blank : ClassEntry where
  enabled := false
  line := .either
  typeValue := none
  source := none
  terms := List.replicate 4 none
  date := false
  sample := false
  stampOffset := none
  issueOffset := none
  datingOffset := 0
  newStream := false

/-- The classifier after a POWER or FULL reset (R51). -/
def Classifier.initial : Classifier where
  bank0 := List.replicate 64 .blank
  bank1 := List.replicate 64 .blank
  active := .bank0
  swapPending := false
  matchCounts := List.replicate 64 0

/-- A line after a POWER reset (R35). -/
def LineState.initial : LineState where
  buffer := []
  origin := []
  transmit := .idle
  egress := none
  badCheck := 0
  lengthErrors := 0
  overruns := 0
  misdirected := 0

/-- The line pair after a POWER reset (R20, R35, R169). -/
def LinePair.initial : LinePair where
  mode := .boot
  injectionLimit := 16384
  transitCorrection := true
  timingType := 0x9C41
  managementType := 0x9C42
  north := .initial
  south := .initial

/-- The pulse input after a POWER or FULL reset that ends with the pin at this level (R17). -/
def PulseInput.initial (pinHigh : Bool) : PulseInput where
  pinHigh := pinHigh
  activeHigh := true
  debounce := 1000
  qualifier := if pinHigh then .releasing else .waiting
  tentative := none
  previousMark := none
  rejected := 0
  queue := []
  overrun := false

/-- The north exchange after a POWER or FULL reset (R53, R70). The leader address is zero, so NORTH is not configured
and the query timer is stopped (R54). -/
def Exchange.initial : Exchange where
  leader := 0
  northDomain := 0
  queryExp := 0
  replyWindow := 100
  missedLimit := 4
  windowSize := 8
  pulseClass := 1
  pulseU := 100
  record := .empty
  waitingQuery := none
  built := 0
  nextSeq := 0
  issued := 0
  queryIn := none
  missed := 0
  liveN := false
  liveP := false
  pulseExpiry := none
  lastRegular := none
  windowN := []
  windowP := []
  late := 0
  strayReply := 0
  badDelay := 0

/-- The servo after a POWER or FULL reset (R71, R88, R90, R107). -/
def Servo.initial : Servo where
  alpha := 0
  propExp := 3
  integExp := 6
  aMax := 100000000
  stepLimit := 50000
  holdBound := 50000
  primary := .north
  secondary := .none
  revertEnable := true
  revertTime := 60
  lockLimit := 1000
  unlockLimit := 10000
  holdoverLimit := 86400
  state := .free
  held := false
  memory := false
  active := .none
  lockCounter := 0
  unlockCounter := 0
  alignPending := false
  markN := none
  markP := none
  revertIn := none
  leaderClass := none
  lastPi := none
  stepOutcome := none
  stepPending := false
  lockedU := 0
  entryU := none
  holdTime := none
  stepCount := 0
  lastStep := none
  lastChange := none

/-- The south server after a POWER or FULL reset that ends at this oscillator instant (R108, R115, R118). -/
def SouthServer.initial (osc : Nat) : SouthServer where
  domain := 0
  gradeExp := 0
  group := 0x01C51A000100
  queue := []
  waitingGrade := none
  gradeAt := osc + 2 * fuPerMs
  gradeSeq := 0
  badQuery := 0
  droppedQuery := 0
  unknownOrigin := 0
  badReport := 0
  gradeSuperseded := 0

/-- A stream at a beginning (R119). -/
def StreamState.fresh (beginning : Nat) : StreamState where
  lastDate := none
  nextSeq := 0
  gap := 0
  armed := true
  beginning := beginning

/-- The dater after a POWER reset (R131, R134). -/
def Dater.initial : Dater where
  streams := List.replicate 64 (.fresh 0)
  queue := []
  openN := none
  openS := none
  lostRecord := 0
  orphaned := 0
  batch := 32
  latency := 1000

/-- An origin-table entry after a POWER or FULL reset (R153). -/
def OriginEntry.initial : OriginEntry where
  enabled := false
  source := 0
  rack := 0
  state := .unseen
  filtered := none
  lastSample := none
  lastAt := none
  sampleCount := 0
  queryCount := 0
  storageCount := 0

/-- The configured fields of a rack-table entry after a POWER or FULL reset (R138, R153). -/
def RackConfig.initial : RackConfig where
  enabled := false
  watchOn := 20000
  watchOff := 15000
  driftOn := 100000
  driftOff := 80000
  rateOn := 500
  spreadLimit := 50000
  strayLimit := 30000
  confirm := 3
  nominalDelay := 0
  drillOffset := 0
  storageSamples := false

/-- A rack with these configured fields and every learned field cleared (R139, R153). The value of an invalid R_prev is 0
(DESIGN CHOICE, log entry 54). -/
def Rack.cleared (config : RackConfig) : Rack where
  config := config
  state := .quiet
  mean := none
  prevMean := 0
  prevValid := false
  rate := none
  spread := none
  members := 0
  split := false
  drill := false
  pending := none
  pendingCount := 0
  lastTransition := none

/-- The drift monitor after a POWER or FULL reset (R135, R153). -/
def Monitor.initial : Monitor where
  filterExp := 2
  settleCount := 4
  silence := 8
  interval := 4
  judgeLimit := 10000
  settlePeriod := 4
  origins := List.replicate 512 .initial
  racks := List.replicate 32 (.cleared .initial)
  heldN := none
  heldS := none
  evalIn := 4000
  settleCounter := 0
  unknownStorage := 0
  ignoredSample := 0
  discardedByReset := 0

/-- A pulse line after a POWER or FULL reset (R160, R164). -/
def PulseLine.initial : PulseLine where
  mode := .off
  activeHigh := true
  phase := 0
  width := 0
  subscriptions := 0
  starts := []
  pulseEnd := none

/-- The report engine after a POWER or FULL reset (R156, R157, R158, R164). -/
def ReportEngine.initial : ReportEngine where
  notices := []
  noticeWaiting := false
  dateReportWaiting := false
  summaryWaiting := false
  dateGap := false
  noticeOverflow := false
  noticeDropped := 0
  noticeSeq := 0
  dateReportSeq := 0
  summarySeq := 0
  collector := 0
  collectorLine := .north
  collectorTag := none
  holdoff := 10
  summaryInterval := 10
  summaryIn := some 10000
  pulseLines := List.replicate 4 .initial

/-- The management agent after a POWER or FULL reset that ends with these straps (R166, R169, R173). -/
def Agent.initial (straps : BitVec 6) : Agent where
  address := strapAddress straps
  southManagement := false
  managers := List.replicate 4 none
  queue := []
  results := []
  overflowed := false
  hold := none
  malformed := 0
  disallowed := 0
  queueFull := 0
  responseDropped := 0

/-- The timescale unit's timing state right after a POWER reset that ends at this oscillator instant (R10). -/
def Clock.initial (osc : Nat) : Clock where
  value := 0
  remainder := 0
  rateA := 0
  integI := 0
  runCounter := 0
  osc := osc
  tickAt := osc + fuPerMs

/-- The part right after a POWER reset: every record at the value its chapter's reset table gives (R10, R17, R35, R51,
R70, R88, R107, R118, R134, R153, R164, R173). The pins' levels are the model's choice (log entry 25). -/
def State.reset : State where
  pending := []
  phase := .running
  supplyGood := true
  resetPin := false
  straps := 0
  free := 0
  clock := .initial 0
  pulse := .initial false
  lines := .initial
  cls := .initial
  exch := .initial
  servo := .initial
  south := .initial 0
  dater := .initial
  mon := .initial
  rep := .initial
  agent := .initial 0

/-! ## Updates of one block -/

/-- The state with its `phase` replaced. -/
def State.setPhase (s : State) (x : Phase) : State := { s with phase := x }

/-- The state with its `clock` replaced. -/
def State.setClock (s : State) (x : Clock) : State := { s with clock := x }

/-- The state with its `pulse` replaced. -/
def State.setPulse (s : State) (x : PulseInput) : State := { s with pulse := x }

/-- The state with its `lines` replaced. -/
def State.setLines (s : State) (x : LinePair) : State := { s with lines := x }

/-- The state with its `cls` replaced. -/
def State.setCls (s : State) (x : Classifier) : State := { s with cls := x }

/-- The state with its `exch` replaced. -/
def State.setExch (s : State) (x : Exchange) : State := { s with exch := x }

/-- The state with its `servo` replaced. -/
def State.setServo (s : State) (x : Servo) : State := { s with servo := x }

/-- The state with its `south` replaced. -/
def State.setSouth (s : State) (x : SouthServer) : State := { s with south := x }

/-- The state with its `dater` replaced. -/
def State.setDater (s : State) (x : Dater) : State := { s with dater := x }

/-- The state with its `mon` replaced. -/
def State.setMon (s : State) (x : Monitor) : State := { s with mon := x }

/-- The state with its `rep` replaced. -/
def State.setRep (s : State) (x : ReportEngine) : State := { s with rep := x }

/-- The state with its `agent` replaced. -/
def State.setAgent (s : State) (x : Agent) : State := { s with agent := x }

/-- What the part holds for a line. -/
def LinePair.at (lp : LinePair) : Line → LineState
  | .north => lp.north
  | .south => lp.south

/-- The line pair with one line replaced. -/
def LinePair.setAt (lp : LinePair) (line : Line) (x : LineState) : LinePair :=
  match line with
  | .north => { lp with north := x }
  | .south => { lp with south := x }

/-- What the part holds for a line. -/
def State.lineAt (s : State) (line : Line) : LineState := s.lines.at line

/-- The state with one line replaced. -/
def State.setLine (s : State) (line : Line) (x : LineState) : State := s.setLines (s.lines.setAt line x)

end Sys2Proof.Machine
end

