-- ==== Sys2Proof/Machine/Arith.lean ====
section
/-! DEFINITION. The arithmetic every chapter shares: roundings and saturation (00_scope.md, Rounding and saturation),
saturating counts, bytes in their order on the line and the check sequence (R174). -/

namespace Sys2Proof.Machine

/-! ## Roundings and limits -/

/-- `n / d` rounded to the nearest integer, ties away from zero (00_scope.md, Rounding and saturation). -/
def roundDiv (n : Int) (d : Nat) : Int :=
  let q : Int := (n.natAbs / d + (if d ≤ 2 * (n.natAbs % d) then 1 else 0) : Nat)
  if n < 0 then -q else q

/-- `n / d` rounded upward. -/
def ceilDiv (n d : Nat) : Nat := n / d + (if n % d = 0 then 0 else 1)

/-- A fine-unit quantity in whole nanoseconds, rounded to the nearest. -/
def fuToNs (x : Int) : Int := roundDiv x fuPerNs

/-- A value brought to the nearer limit of a range. -/
def clampInt (lo hi v : Int) : Int := max lo (min hi v)

/-- A saturating count increased by one. -/
def satIncr (limit n : Nat) : Nat := min limit (n + 1)

/-- A 16-bit saturating count increased by one. -/
def count16 (n : Nat) : Nat := satIncr 65535 n

/-- A 32-bit saturating count increased by one. -/
def count32 (n : Nat) : Nat := satIncr 4294967295 n

/-- The largest computed value of U (00_scope.md, The uncertainty bound). -/
def uCeiling : Nat := 4294967294

/-- The value of U that means unbounded. -/
def uUnbounded : Nat := 4294967295

/-- A run-counter reading has come, the difference formed modulo 2^32 (R8). -/
def readingReached (now reading : BitVec 32) : Bool := (now - reading).toNat < 2 ^ 31

/-! ## Bytes -/

/-- A number in `width` bytes, most significant first (R174). -/
def beBytes : Nat → Nat → List Byte
  | 0, _ => []
  | w + 1, n => beBytes w (n / 256) ++ [BitVec.ofNat 8 n]

/-- A signed number in `width` bytes, in two's complement (R174). -/
def signedBytes (width : Nat) (x : Int) : List Byte := beBytes width (x % (2 ^ (8 * width) : Nat)).toNat

/-- The number that bytes spell, most significant first. -/
def beNat (bytes : List Byte) : Nat := bytes.foldl (fun n b => n * 256 + b.toNat) 0

/-- The signed number that a count of bytes spells. -/
def beInt (bytes : List Byte) : Int :=
  let n := beNat bytes
  if n < 2 ^ (8 * bytes.length) / 2 then n else (n : Int) - (2 ^ (8 * bytes.length) : Nat)

/-- The `width` bytes at an offset, where all of them are there. -/
def bytesAt (bytes : List Byte) (offset width : Nat) : Option (List Byte) :=
  let f := (bytes.drop offset).take width
  if f.length = width then some f else none

/-- The unsigned field of `width` bytes at an offset. -/
def natAt (bytes : List Byte) (offset width : Nat) : Option Nat := (bytesAt bytes offset width).map beNat

/-- The signed field of `width` bytes at an offset. -/
def intAt (bytes : List Byte) (offset width : Nat) : Option Int := (bytesAt bytes offset width).map beInt

/-- `bytes` with `field` written over it at an offset; bytes past its end are not written. -/
def overwrite (bytes : List Byte) (offset : Nat) (field : List Byte) : List Byte :=
  (bytes.take offset ++ field ++ bytes.drop (offset + field.length)).take bytes.length

/-! ## Timing stamps -/

/-- A stamp as read from a frame: it may not describe an instant (R72, R113). -/
structure RawStamp where
  seconds : Nat
  nanos : Nat
  fraction : Nat
  deriving DecidableEq, Repr

/-- The stamp describes an instant. -/
def RawStamp.isInstant (r : RawStamp) : Bool := r.nanos < 1000000000

/-- The stamp as a count of fine units. -/
def RawStamp.fineUnits (r : RawStamp) : Int := ((r.seconds * 1000000000 + r.nanos) * fuPerNs + r.fraction : Nat)

/-- The 12-byte timing stamp at an offset (R174). -/
def stampAt (bytes : List Byte) (offset : Nat) : Option RawStamp := do
  let seconds ← natAt bytes offset 6
  let nanos ← natAt bytes (offset + 6) 4
  let fraction ← natAt bytes (offset + 10) 2
  return { seconds, nanos, fraction }

/-- The 10-byte stamp, without a fraction, at an offset (R37, R174). -/
def shortStampAt (bytes : List Byte) (offset : Nat) : Option RawStamp := do
  let seconds ← natAt bytes offset 6
  let nanos ← natAt bytes (offset + 6) 4
  return { seconds, nanos, fraction := 0 }

/-- A timescale value as a 12-byte timing stamp (R174). A value outside the timescale's range has no layout in the
spec and is sent as a free value (log entry 12). -/
def stampBytes (value : Int) : List Byte :=
  if 0 ≤ value ∧ value < timescaleRange then
    let v := value.toNat
    beBytes 6 (v / fuPerSecond) ++ beBytes 4 (v % fuPerSecond / fuPerNs) ++ beBytes 2 (v % fuPerNs)
  else beBytes 12 (Config.stampOutsideRange value).toNat

/-- A date in whole ns as 6 bytes of seconds and 4 bytes of nanoseconds (R123, R182). -/
def dateBytes (date : Nat) : List Byte := beBytes 6 (date / 1000000000) ++ beBytes 4 (date % 1000000000)

/-! ## The check sequence -/

/-- One bit of the division of R174, least significant bit first: the polynomial is held reflected. -/
def crcBit (r : BitVec 32) : BitVec 32 :=
  if r.getLsbD 0 then (r >>> 1) ^^^ 0xEDB88320#32 else r >>> 1

/-- One byte of the division. -/
def crcByte (r : BitVec 32) (b : Byte) : BitVec 32 :=
  crcBit (crcBit (crcBit (crcBit (crcBit (crcBit (crcBit (crcBit (r ^^^ b.setWidth 32))))))))

/-- The remainder of the division over some bytes, before the final inversion. -/
def crcRegister (bytes : List Byte) : BitVec 32 := bytes.foldl crcByte 0xFFFFFFFF#32

/-- A 32-bit value in the order of R174: the coefficient of x^31 in the least significant bit of the first byte. -/
def checkBytes (c : BitVec 32) : List Byte :=
  [c.setWidth 8, (c >>> 8).setWidth 8, (c >>> 16).setWidth 8, (c >>> 24).setWidth 8]

/-- The correct check sequence over some bytes (R174). -/
def checkSequence (bytes : List Byte) : List Byte := checkBytes (~~~ crcRegister bytes)

/-- The stomped check sequence over some bytes: the correct one with every bit inverted (R27). -/
def stompedSequence (bytes : List Byte) : List Byte := checkBytes (crcRegister bytes)

/-- All of a frame but its check sequence. -/
def withoutCheck (bytes : List Byte) : List Byte := bytes.take (bytes.length - 4)

/-- A frame's check sequence is correct (R26). -/
def checkGood (bytes : List Byte) : Bool := bytes.drop (bytes.length - 4) == checkSequence (withoutCheck bytes)

end Sys2Proof.Machine
end

