-- ==== Sys2Proof/Machine/Operands.lean ====
section
/-! DEFINITION. Reading frames: where their fields lie (R41, R174, R175, R177) and what an entry of the class table
fits (R42). -/

namespace Sys2Proof.Machine

/-! ## The header -/

/-- The type of a VLAN tag. -/
def vlanType : Nat := 0x8100

/-- A frame carries a VLAN tag after its source address (R41). -/
def hasTag (bytes : List Byte) : Bool := natAt bytes 12 2 == some vlanType

/-- The place of payload start, one tag skipped (R41). -/
def payloadStart (bytes : List Byte) : Nat := if hasTag bytes then 18 else 14

/-- The destination address. -/
def destinationOf (bytes : List Byte) : Option Address := (natAt bytes 0 6).map (BitVec.ofNat 48)

/-- The source address. -/
def sourceOf (bytes : List Byte) : Option Address := (natAt bytes 6 6).map (BitVec.ofNat 48)

/-- The frame's type, one tag skipped (R41). -/
def typeOf (bytes : List Byte) : Option (BitVec 16) :=
  (natAt bytes (payloadStart bytes - 2) 2).map (BitVec.ofNat 16)

/-- The frame's VLAN tag as it is copied into an answer: priority and identifier, the drop flag zero (R174). -/
def tagOf (bytes : List Byte) : Option (BitVec 16) :=
  if hasTag bytes then (natAt bytes 14 2).map fun n => BitVec.ofNat 16 n &&& 0xEFFF#16 else none

/-- An address is a group address: the lowest bit of its first byte is set. -/
def isGroup (a : Address) : Bool := a.getLsbD 40

/-- The payload up to the check sequence. -/
def payloadOf (bytes : List Byte) : List Byte := (withoutCheck bytes).drop (payloadStart bytes)

/-- Payload byte `n`, of all the bytes the frame delivers (R41). -/
def payloadByte (bytes : List Byte) (n : Nat) : Option Byte := bytes[payloadStart bytes + n]?

/-- A field of `width` bytes at a payload offset lies inside the frame: its last byte comes at least four bytes before
the frame's last (R123, R176). -/
def fieldInside (bytes : List Byte) (offset width : Nat) : Bool :=
  payloadStart bytes + offset + width + 4 ≤ bytes.length

/-! ## Timing frames (R175) -/

/-- The version of the timing frames the part reads and writes (R176). -/
def timingVersion : Byte := 2

/-- The kinds of timing frame. -/
def kindQuery : Byte := 1
def kindReply : Byte := 2
def kindGrade : Byte := 3

/-- The fields of a Query that the south server reads. -/
structure QueryFields where
  seq : BitVec 16
  senderId : SenderId
  correction : Int
  t1 : RawStamp
  /-- d_rep, where the flag says it is present. -/
  reported : Option Nat
  deriving DecidableEq, Repr

/-- A readable Query (R109, R176): version 2, long enough for every field up to t1. -/
def readQuery (bytes : List Byte) : Option QueryFields := do
  let p := payloadOf bytes
  let version ← p[0]?
  guard (version = timingVersion)
  let flags ← p[3]?
  let seq ← natAt p 4 2
  let senderId ← natAt p 6 8
  let correction ← intAt p 14 8
  let t1 ← stampAt p 22
  return { seq := BitVec.ofNat 16 seq, senderId := BitVec.ofNat 64 senderId, correction, t1,
           reported := if flags.getLsbD 0 then natAt p 34 4 else none }

/-- The fields of a Reply that the north exchange reads. -/
structure ReplyFields where
  seq : BitVec 16
  correction : Int
  requester : SenderId
  t2 : RawStamp
  t3 : RawStamp
  cFwd : Int
  leaderClass : Nat
  leaderU : Nat
  deriving DecidableEq, Repr

/-- A readable Reply (R60, R176): version 2, long enough for every Reply field. -/
def readReply (bytes : List Byte) : Option ReplyFields := do
  let p := payloadOf bytes
  let version ← p[0]?
  guard (version = timingVersion)
  let seq ← natAt p 4 2
  let correction ← intAt p 14 8
  let requester ← natAt p 22 8
  let t2 ← stampAt p 30
  let t3 ← stampAt p 42
  let cFwd ← intAt p 54 8
  let leaderClass ← natAt p 62 1
  let leaderU ← natAt p 63 4
  return { seq := BitVec.ofNat 16 seq, correction, requester := BitVec.ofNat 64 requester, t2, t3, cFwd,
           leaderClass, leaderU }

/-! ## The class table (R42) -/

/-- An entry's line condition. -/
def EntryLine.fits (e : EntryLine) (line : Line) : Bool :=
  match e with
  | .north => line == .north
  | .south => line == .south
  | .either => true

/-- A present byte term holds: its byte has arrived and agrees under the mask. -/
def ByteTerm.fits (t : ByteTerm) (bytes : List Byte) : Bool :=
  match payloadByte bytes t.offset with
  | some b => b &&& t.mask == t.value &&& t.mask
  | none => false

/-- An entry fits a frame that arrived on a line (R42). -/
def ClassEntry.fits (e : ClassEntry) (line : Line) (bytes : List Byte) : Bool :=
  e.enabled && e.line.fits line
    && (match e.typeValue with
        | some t => typeOf bytes == some t
        | none => true)
    && (match e.source with
        | some a => sourceOf bytes == some a
        | none => true)
    && e.terms.all fun t =>
        match t with
        | some t => t.fits bytes
        | none => true

end Sys2Proof.Machine
end

