-- ==== Sys2Proof/Machine/Flags.lean ====
section
/-! DEFINITION. What is read from the state and stored nowhere: references, the selection, U, the own class, the alarm
conditions, the levels of the pulse lines, occupancy and the effective levels of a rack. -/

namespace Sys2Proof.Machine

/-! ## References (R54, R90, R91) -/

/-- The effective secondary: a secondary equal to the primary acts as NONE (R90). -/
def Servo.effectiveSecondary (v : Servo) : Ref := if v.secondary = v.primary then .none else v.secondary

/-- A setting names a reference. -/
def Servo.names (v : Servo) (r : Ref) : Bool := v.primary == r || v.effectiveSecondary == r

/-- A reference is configured (R54, R91). -/
def State.configured (s : State) : Ref → Bool
  | .north => s.servo.names .north && s.exch.leader != 0
  | .pulse => s.servo.names .pulse
  | .none => false

/-- A reference is LIVE (R63, R66). -/
def State.live (s : State) : Ref → Bool
  | .north => s.exch.liveN
  | .pulse => s.exch.liveP
  | .none => false

/-- A reference is available: configured and LIVE (R91). -/
def State.available (s : State) (r : Ref) : Bool := s.configured r && s.live r

/-- The one reference other than this one (R95). -/
def Ref.other : Ref → Ref
  | .north => .pulse
  | .pulse => .north
  | .none => .none

/-- A reference's Exchange Window (R64). -/
def Exchange.window (e : Exchange) : Ref → List Sample
  | .north => e.windowN
  | .pulse => e.windowP
  | .none => []

/-- The Exchange with a reference's window replaced. -/
def Exchange.setWindow (e : Exchange) (r : Ref) (w : List Sample) : Exchange :=
  match r with
  | .north => { e with windowN := w }
  | .pulse => { e with windowP := w }
  | .none => e

/-- The live-since mark of a reference (R89). -/
def Servo.mark (v : Servo) : Ref → Option LiveMark
  | .north => v.markN
  | .pulse => v.markP
  | .none => none

/-- The servo with a reference's live-since mark replaced. -/
def Servo.setMark (v : Servo) (r : Ref) (m : Option LiveMark) : Servo :=
  match r with
  | .north => { v with markN := m }
  | .pulse => { v with markP := m }
  | .none => v

/-! ## The selection (R76) -/

/-- The better of the best sample so far and a newer one: the newer, unless its d is larger. -/
def betterSample (best : Option Sample) (x : Sample) : Option Sample :=
  match best with
  | none => some x
  | some b => if x.delay ≤ b.delay then some x else some b

/-- The sample of least d, the newest of those that share it (R76). -/
def selectSample (w : List Sample) : Option Sample := w.foldl betterSample none

/-- The window the selection works on. -/
def State.activeWindow (s : State) : List Sample := s.exch.window s.servo.active

/-- The selected sample; its θ and d are θ_sel and d_sel (R76). -/
def State.selected (s : State) : Option Sample := selectSample s.activeWindow

/-! ## The uncertainty bound (R82 to R84) -/

/-- The holdover form is in use (R82). -/
def Servo.holdForm (v : Servo) : Bool :=
  v.state == .holdover || (v.state == .acquire && v.memory)

/-- The holdover form of U (R84). -/
def Servo.heldU (v : Servo) : Nat :=
  min uCeiling (v.entryU.getD 0 + ceilDiv (v.holdBound * (v.holdTime.getD 0).toNat) 1000000)

/-- The locked form of U over a selected sample (R83). -/
def lockedForm (x : Sample) : Nat :=
  min uCeiling (x.leaderU + ceilDiv x.theta.natAbs fuPerNs + ceilDiv x.delay (8 * fuPerNs) + 4)

/-- U, at the instant it is read (R82, R86). -/
def Servo.uncertainty (v : Servo) : Nat :=
  match v.state with
  | .locked => v.lockedU
  | .holdover => v.heldU
  | .acquire => if v.memory then v.heldU else uUnbounded
  | .free => uUnbounded

/-- The servo's condition (R105). -/
def Servo.condition (v : Servo) : Condition :=
  { state := v.state, held := v.held, memory := v.memory, active := v.active }

/-- The part's own class (R103). -/
def State.ownClass (s : State) : Nat :=
  match s.servo.state with
  | .locked =>
    match s.servo.active with
    | .pulse => min 12 s.exch.pulseClass
    | _ => min 12 (s.servo.leaderClass.getD 14 + 1)
  | .holdover => 13
  | .acquire => if s.servo.memory then 13 else 14
  | .free => 15

/-- The effective unlock limit, in ns (R90). -/
def Servo.effectiveUnlock (v : Servo) : Nat := max v.unlockLimit v.lockLimit

/-! ## Intervals -/

/-- The Query interval in ms (R53). -/
def Exchange.interval (e : Exchange) : Nat := 125 * 2 ^ (e.queryExp + 3).toNat

/-- The effective reply window in ms (R53). -/
def Exchange.effectiveWindow (e : Exchange) : Nat := min e.replyWindow e.interval

/-- The grade interval in fine units of the oscillator: 62.5 ms times a power of two (R108). -/
def SouthServer.interval (g : SouthServer) : Nat := 62500000 * fuPerNs * 2 ^ (g.gradeExp + 4).toNat

/-! ## The line pair -/

/-- Bytes that pass a point at 25 Gb/s in some fine units of time (R25, log entry 6). -/
def bytesIn (fineUnits : Nat) : Nat := fineUnits * 25 / 524288

/-- The bytes of a frame that have arrived (R26, log entry 6). -/
def Passage.arrived (p : Passage) (osc : Nat) : Nat :=
  if p.status = .arriving then min p.bytes.length (bytesIn (osc - p.firstAt)) else p.bytes.length

/-- The bytes of a frame that have been sent. -/
def Passage.sent (p : Passage) (osc : Nat) : Nat :=
  match p.departedAt with
  | some t => min (p.arrived osc) (bytesIn (osc - t))
  | none => 0

/-- The bytes of a frame that are held and not yet sent; of an over-long frame whose transmission has been ended, none
(R26). -/
def Passage.unsent (p : Passage) (osc : Nat) : Nat := if p.cutAt.isSome then 0 else p.arrived osc - p.sent osc

/-- The occupancy of an elastic buffer: the bytes it holds that have not yet been sent (R26). -/
def occupancy (buffer : List Passage) (osc : Nat) : Nat := (buffer.map (·.unsent osc)).sum

/-- A passing frame is ready (R25). An ACTIVE frame of fewer than 64 bytes completes its classification at its last
byte and is dropped there (R26), so it is never ready. -/
def Passage.ready (p : Passage) : Bool :=
  p.consumer.isNone && p.departedAt.isNone &&
    match p.treatment with
    | .active => p.classification == some .complete && 64 ≤ p.bytes.length
    | .commanded => p.payloadStarted
    | .boot => true

/-- The place of the own-frame kind in the priority order of R33, 0 first. -/
def OwnKind.rank : OwnKind → Nat
  | .reply => 0
  | .query => 1
  | .grade => 2
  | .response => 3
  | .notice => 4
  | .dateReport => 5
  | .summary => 6

/-- The better of the best place so far and a later one: the later, only if its kind stands before (R33). -/
def betterPlace (best : Option (OwnKind × Nat)) (x : OwnFrame × Nat) : Option (OwnKind × Nat) :=
  match best with
  | none => some (x.1.kind, x.2)
  | some b => if x.1.kind.rank < b.1.rank then some (x.1.kind, x.2) else some b

/-- The place of the own frame of highest priority, the first joined among those of one kind (R33). -/
def bestPlace (queue : List OwnFrame) : Option Nat := (queue.zipIdx.foldl betterPlace none).map (·.2)

/-- The LINE_FAULT condition's counts of one line (R34). -/
def LineState.faulty (l : LineState) : Bool := 0 < l.badCheck || 0 < l.lengthErrors || 0 < l.overruns

/-! ## The drift monitor -/

/-- W_off' (R138). -/
def RackConfig.effWatchOff (c : RackConfig) : Int := min c.watchOff c.watchOn

/-- D_on' (R138). -/
def RackConfig.effDriftOn (c : RackConfig) : Int := max c.driftOn c.watchOn

/-- D_off' (R138). -/
def RackConfig.effDriftOff (c : RackConfig) : Int := min c.driftOff c.effDriftOn

/-- Rt_off (R138). -/
def RackConfig.rateOff (c : RackConfig) : Int := c.rateOn / 2

/-- The enabled origin-table entry that holds an address (R113, R122, R136). -/
def Monitor.lookup (m : Monitor) (a : Address) : Option Nat :=
  m.origins.findIdx? fun e => e.enabled && e.source == a

/-- The entry at an index of the origin table. -/
def Monitor.origin (m : Monitor) (i : Nat) : OriginEntry := m.origins.getD i .initial

/-- The entry at an index of the rack table. -/
def Monitor.rack (m : Monitor) (k : Nat) : Rack := m.racks.getD k (.cleared .initial)

/-- The storage sample held for the frame arriving on a line (R141). -/
def Monitor.heldSample (m : Monitor) : Line → Option HeldSample
  | .north => m.heldN
  | .south => m.heldS

/-- The drift monitor with the held sample of a line replaced. -/
def Monitor.setHeldSample (m : Monitor) (line : Line) (x : Option HeldSample) : Monitor :=
  match line with
  | .north => { m with heldN := x }
  | .south => { m with heldS := x }

/-- The open date of the frame arriving on a line (R119). -/
def Dater.openDate (d : Dater) : Line → Option OpenDate
  | .north => d.openN
  | .south => d.openS

/-- The dater with the open date of a line replaced. -/
def Dater.setOpenDate (d : Dater) (line : Line) (x : Option OpenDate) : Dater :=
  match line with
  | .north => { d with openN := x }
  | .south => { d with openS := x }

/-- The stream state at an index. -/
def Dater.stream (d : Dater) (k : Nat) : StreamState := d.streams.getD k (.fresh 0)

/-! ## Alarm conditions and pulse lines (R160 to R162) -/

/-- Some rack is in WATCH or DRIFTING. -/
def Monitor.anyWatch (m : Monitor) : Bool := m.racks.any fun r => r.state == .watch || r.state == .drifting

/-- Some rack is in DRIFTING. -/
def Monitor.anyDrifting (m : Monitor) : Bool := m.racks.any fun r => r.state == .drifting

/-- Some rack has its SPLIT flag set. -/
def Monitor.anySplit (m : Monitor) : Bool := m.racks.any (·.split)

/-- LINE_FAULT (R34). -/
def LinePair.faulty (l : LinePair) : Bool := l.north.faulty || l.south.faulty

/-- The eight alarm conditions, in the order of R162's table. -/
def State.conditions (s : State) : List Bool :=
  [s.mon.anyWatch, s.mon.anyDrifting, s.mon.anySplit, s.servo.state != .locked, s.servo.state == .holdover,
   s.rep.dateGap, s.rep.noticeOverflow, s.lines.faulty]

/-- The conditions as one byte, bits in the order of R162's table (R183). -/
def State.conditionByte (s : State) : Byte :=
  s.conditions.zipIdx.foldl (fun b c => if c.1 then b ||| (1#8 <<< c.2) else b) 0

/-- A pulse line is asserted (R160 to R162). -/
def State.asserted (s : State) (p : PulseLine) : Bool :=
  match p.mode with
  | .off => false
  | .second => p.pulseEnd.isSome
  | .alarm => s.conditionByte &&& p.subscriptions != 0

/-- The level a pulse line is driven to (R160). -/
def State.levelHigh (s : State) (p : PulseLine) : Bool := s.asserted p == p.activeHigh

/-- The width of a pulse in fine units of the oscillator (R160). -/
def PulseLine.widthFu (p : PulseLine) : Nat := (if p.width = 0 then 500000000 else p.width) * fuPerNs

/-- The pulse input is active under the polarity (R11). -/
def PulseInput.isActive (p : PulseInput) : Bool := p.pinHigh == p.activeHigh

/-! ## The classifier -/

/-- A bank's entries. -/
def Classifier.entries (c : Classifier) : Bank → List ClassEntry
  | .bank0 => c.bank0
  | .bank1 => c.bank1

/-- The classifier with a bank's entries replaced. -/
def Classifier.setEntries (c : Classifier) (b : Bank) (e : List ClassEntry) : Classifier :=
  match b with
  | .bank0 => { c with bank0 := e }
  | .bank1 => { c with bank1 := e }

/-- The other bank. -/
def Bank.other : Bank → Bank
  | .bank0 => .bank1
  | .bank1 => .bank0

/-- A bank's number. -/
def Bank.number : Bank → Nat
  | .bank0 => 0
  | .bank1 => 1

end Sys2Proof.Machine
end

