-- ==== Sys2Proof/Machine/Build.lean ====
section
/-! DEFINITION. The own frames the part builds (R57, R112, R116, R170, R174 to R183) and the finishing of a frame as it
leaves (R27, R30, R31, R123). -/

namespace Sys2Proof.Machine

/-! ## Headers -/

/-- The bytes before the payload of an own frame, tagged when a tag is given (R174). -/
def ownHeader (destination source : Address) (tag : Option (BitVec 16)) (type : BitVec 16) : List Byte :=
  beBytes 6 destination.toNat ++ beBytes 6 source.toNat ++
    (match tag with
     | some t => beBytes 2 vlanType ++ beBytes 2 t.toNat
     | none => []) ++ beBytes 2 type.toNat

/-- The place of an own frame's payload start. -/
def ownStart (tag : Option (BitVec 16)) : Nat := if tag.isSome then 18 else 14

/-- The part's sender id: its line address followed by 00-01 (R169). -/
def State.senderId (s : State) : Nat := s.agent.address.toNat * 65536 + 1

/-- An own frame from the part's line address. -/
def State.ownFrame (s : State) (kind : OwnKind) (destination : Address) (tag : Option (BitVec 16)) (type : BitVec 16)
    (payload : List Byte) : OwnFrame where
  kind := kind
  bytes := ownHeader destination s.agent.address tag type ++ payload
  start := ownStart tag
  queryNumber := none
  resetResponse := false

/-! ## Timing frames (R175) -/

/-- A timing header. -/
def State.timingHeader (s : State) (kind : Byte) (domain : Nat) (seq : BitVec 16) : List Byte :=
  [timingVersion, kind] ++ beBytes 1 domain ++ [0] ++ beBytes 2 seq.toNat ++ beBytes 8 s.senderId ++ beBytes 8 0

/-- The next Query of R57, its t1 still to be written. -/
def State.buildQuery (s : State) : OwnFrame :=
  { s.ownFrame .query s.exch.leader none s.lines.timingType
      (s.timingHeader kindQuery s.exch.northDomain s.exch.nextSeq ++ beBytes 12 0) with
    queryNumber := some (s.exch.built + 1) }

/-- The Reply of R112, its t3, class and U still to be written. -/
def State.buildReply (s : State) (e : ReplyEntry) : OwnFrame :=
  s.ownFrame .reply e.requester e.tag s.lines.timingType
    (s.timingHeader kindReply e.domain e.seq ++ beBytes 8 e.senderId.toNat ++ stampBytes e.t2 ++ beBytes 12 0
      ++ signedBytes 8 e.cFwd ++ [0] ++ beBytes 4 0)

/-- A servo state's code in a Grade (R175). -/
def ServoState.code : ServoState → Byte
  | .free => 0
  | .acquire => 1
  | .locked => 2
  | .holdover => 3

/-- The Grade of R116. -/
def State.buildGrade (s : State) : OwnFrame :=
  s.ownFrame .grade s.south.group none s.lines.timingType
    (s.timingHeader kindGrade s.south.domain s.south.gradeSeq ++ beBytes 1 s.ownClass ++ [s.servo.state.code]
      ++ signedBytes 1 s.south.gradeExp ++ beBytes 4 s.servo.uncertainty)

/-! ## Frames to the collector (R181 to R183) -/

/-- The 13-byte report header (R181). -/
def State.reportHeader (s : State) (kind : Byte) (seq : BitVec 16) (count : Nat) : List Byte :=
  [1, kind] ++ beBytes 2 seq.toNat ++ beBytes 8 s.senderId ++ beBytes 1 count

/-- Some flags as a byte, the first in bit 0. -/
def flagByte (flags : List Bool) : Byte :=
  flags.zipIdx.foldl (fun b c => if c.1 then b ||| (1#8 <<< c.2) else b) 0

/-- A date record as it is sent (R182). -/
def DateRecord.sentBytes (r : DateRecord) : List Byte :=
  beBytes 1 r.stream
    ++ [flagByte [r.held, r.short, r.state != .locked, r.gap != 0, r.origin.isSome, r.issueOffset.isSome]]
    ++ [r.state.code] ++ beBytes 4 r.seq.toNat ++ dateBytes r.date ++ beBytes 4 r.uncertainty
    ++ (if r.gap != 0 then beBytes 4 r.gap.toNat else [])
    ++ (match r.origin with
        | some i => beBytes 2 i
        | none => [])
    ++ (match r.issueOffset with
        | some x => signedBytes 4 x
        | none => [])

/-- A rack state's code (R183). -/
def RackState.code : RackState → Byte
  | .quiet => 0
  | .unjudged => 1
  | .inStep => 2
  | .watch => 3
  | .drifting => 4

/-- A server state's code (R183). -/
def ServerState.code : ServerState → Byte
  | .unseen => 0
  | .settling => 1
  | .tracking => 2
  | .stray => 3
  | .silent => 4

/-- A reference's code (R177, R183). -/
def Ref.code : Ref → Byte
  | .north => 0
  | .pulse => 1
  | .none => 2

/-- The servo's condition byte (R183). -/
def Condition.code (c : Condition) : Byte :=
  c.state.code ||| (if c.held then 4#8 else 0) ||| (if c.memory then 8#8 else 0) ||| (c.active.code <<< 4)

/-- The code of a transition's state (R183). -/
def SubjectState.code : SubjectState → Byte
  | .rack r => r.code
  | .server r => r.code
  | .servo c => c.code
  | .gap losing => if losing then 1 else 0
  | .bank b => BitVec.ofNat 8 b.number

/-- A subject's kind and index (R183). -/
def Subject.code : Subject → Byte × Nat
  | .rack k => (1, k)
  | .server j => (2, j)
  | .servo => (3, 0)
  | .streamGap k => (4, k)
  | .swap => (5, 0)

/-- A step source's code (R183). -/
def StepSource.code : StepSource → Byte
  | .acquire => 0
  | .align => 1
  | .setTime => 2

/-- A rack's rate in 4 signed bytes. A rate that they cannot hold has no layout in the spec (log entry 13). -/
def rateBytes (x : Int) : List Byte :=
  if -(2 ^ 31 : Int) ≤ x ∧ x < 2 ^ 31 then signedBytes 4 x else beBytes 4 (Config.wideRateCode x).toNat

/-- A field with its presence bit clear is written as zero (R183). -/
def optBytes (width : Nat) (f : Int → List Byte) : Option Int → List Byte
  | some x => f x
  | none => beBytes width 0

/-- A value snapshot's fields (R183). The source byte of the condition form is sent as 0 (DESIGN CHOICE, log entry 57). The
flags of the rack's byte stand in the order of R183's list, the first in bit 0 (DESIGN CHOICE, log entry 63). -/
def Snapshot.fields : Snapshot → List Byte
  | .rack mean rate spread members split drill =>
    [flagByte [mean.isSome, rate.isSome, spread.isSome, split, drill]] ++ optBytes 4 (signedBytes 4) mean
      ++ optBytes 4 rateBytes rate ++ optBytes 4 (signedBytes 4) spread ++ beBytes 2 members
  | .server filtered k =>
    [flagByte [filtered.isSome]] ++ optBytes 4 (signedBytes 4) filtered ++ beBytes 1 k
  | .condition u c => [0] ++ beBytes 4 u ++ beBytes 1 c ++ beBytes 12 0 ++ [0]
  | .step applied source u => [1] ++ beBytes 4 u ++ [0] ++ signedBytes 12 applied ++ [source.code]
  | .gap lost pending => beBytes 4 lost.toNat ++ beBytes 4 pending.toNat
  | .swap second => beBytes 6 second

/-- Bytes followed by zeros to a width. -/
def padTo (width : Nat) (bytes : List Byte) : List Byte := bytes ++ List.replicate (width - bytes.length) 0

/-- A Notice's 26-byte entry (R183). -/
def NoticeEntry.sentBytes (e : NoticeEntry) : List Byte :=
  [e.subject.code.1] ++ beBytes 2 e.subject.code.2 ++ [e.firstOld.code, e.latestNew.code] ++ beBytes 1 e.count
    ++ padTo 20 e.snapshot.fields

/-- A Summary's 12-byte rack record (R183), its flags in the order of R183's list, the first in bit 0 (DESIGN CHOICE, log
entry 63). -/
def Rack.summaryBytes (r : Rack) : List Byte :=
  [r.state.code, flagByte [r.mean.isSome, r.rate.isSome, r.split, r.drill]] ++ optBytes 4 (signedBytes 4) r.mean
    ++ optBytes 4 rateBytes r.rate ++ beBytes 2 r.members

/-- A Summary from its version byte on, read at its building (R159, R183). -/
def State.summaryBytes (s : State) : List Byte :=
  s.reportHeader 19 s.rep.summarySeq 32 ++ [s.servo.condition.code] ++ beBytes 1 s.ownClass
    ++ beBytes 4 s.servo.uncertainty ++ signedBytes 4 s.clock.rateA ++ beBytes 2 s.dater.queue.length
    ++ [s.conditionByte] ++ (s.mon.racks.map Rack.summaryBytes).flatten

/-- A frame to the collector (R157). -/
def State.collectorFrame (s : State) (kind : OwnKind) (payload : List Byte) : OwnFrame :=
  s.ownFrame kind s.rep.collector s.rep.collectorTag s.lines.managementType payload

/-- The Date Report of some records (R182). -/
def State.buildDateReport (s : State) (records : List DateRecord) : OwnFrame :=
  s.collectorFrame .dateReport
    (s.reportHeader 17 s.rep.dateReportSeq records.length ++ (records.map DateRecord.sentBytes).flatten)

/-- The Notice of some entries (R183). -/
def State.buildNotice (s : State) (entries : List NoticeEntry) : OwnFrame :=
  s.collectorFrame .notice
    (s.reportHeader 18 s.rep.noticeSeq entries.length ++ (entries.map NoticeEntry.sentBytes).flatten)

/-! ## As a frame leaves -/

/-- An own frame's bytes with its marked fields written at departure (R31, R112) and padded to 60 (R174). -/
def OwnFrame.departing (f : OwnFrame) (stamp : Int) (ownClass uncertainty : Nat) : List Byte :=
  padTo 60 <|
    match f.kind with
    | .query => overwrite f.bytes (f.start + 22) (stampBytes stamp)
    | .reply =>
      overwrite f.bytes (f.start + 42) (stampBytes stamp)
        |> (overwrite · (f.start + 62) (beBytes 1 ownClass)) |> (overwrite · (f.start + 63) (beBytes 4 uncertainty))
    | _ => f.bytes

/-- The largest passage correction (R30). -/
def correctionLimit : Int := 2 ^ 63 - 1

/-- One edit applied to a frame's bytes, and whether anything was written (R30, R123). -/
def Passage.applyEdit (p : Passage) (acc : List Byte × Bool) (e : Edit) : List Byte × Bool :=
  let start := payloadStart p.bytes
  match e with
  | .correctionAdd =>
    match intAt acc.1 (start + 14) 8, p.residence with
    | some c, some r =>
      if fieldInside p.bytes 14 8 then
        (overwrite acc.1 (start + 14) (signedBytes 8 (clampInt (-correctionLimit) correctionLimit (c + r))), true)
      else acc
    | _, _ => acc
  | .stampField offset date =>
    if fieldInside p.bytes offset 10 then (overwrite acc.1 (start + offset) (dateBytes date), true) else acc

/-- A passing frame as it has wholly left: its edits applied, ended by the check sequence R27 chooses, or cut and
stomped where it was over-long (R26). -/
def Passage.sentBytes (p : Passage) : List Byte :=
  let edited := p.edits.foldl p.applyEdit (p.bytes, false)
  match p.cutAt with
  | some n => edited.1.take n ++ stompedSequence (edited.1.take n)
  | none =>
    if edited.2 then
      if p.status = .good then withoutCheck edited.1 ++ checkSequence (withoutCheck edited.1)
      else withoutCheck edited.1 ++ stompedSequence (withoutCheck edited.1)
    else p.bytes

end Sys2Proof.Machine
end

