-- ==== Sys2Proof/Machine/Ops.lean ====
section
/-! DEFINITION. The operations the blocks share: running time and its deadlines (R2, R6, R8, R9), the notice set (R154,
R155), the transmit arbiter (R33) and the origin queues' places (R32). -/

namespace Sys2Proof.Machine

/-! ## Running (R1, R2) -/

/-- A second of oscillator time gains one second plus A picoseconds: the gain, in 10^-12 fu, of one fine unit of
oscillator time (R2). -/
def Clock.rateFactor (c : Clock) : Nat := (1000000000000 + c.rateA).toNat

/-- The remainder and the running of some oscillator time together, in 10^-12 fu. -/
def Clock.total (c : Clock) (dt : Nat) : Nat := c.remainder + dt * c.rateFactor

/-- The whole fine units the timescale gains in some oscillator time. -/
def Clock.gain (c : Clock) (dt : Nat) : Nat := c.total dt / 1000000000000

/-- The clock after running for some oscillator time; past its largest value it carries to zero (R1, R2, R7). -/
def Clock.advance (c : Clock) (dt : Nat) : Clock :=
  { c with
    value := (c.value + c.gain dt) % timescaleRange
    remainder := c.total dt % 1000000000000
    osc := c.osc + dt }

/-- The oscillator time in which the timescale gains at least some fine units. -/
def Clock.timeFor (c : Clock) (need : Nat) : Nat := ceilDiv (need * 1000000000000 - c.remainder) c.rateFactor

/-- The oscillator time to the next second boundary, at least one fine unit (R6). -/
def Clock.boundaryIn (c : Clock) : Nat := c.timeFor (fuPerSecond - c.value % fuPerSecond)

/-- A pulse line while the timescale gains some fine units: its scheduled starts come nearer by as much (R161). -/
def PulseLine.advance (p : PulseLine) (gain : Nat) : PulseLine := { p with starts := p.starts.map (· - gain) }

/-- The part after running for some oscillator time (R2, R161). -/
def State.runFor (s : State) (dt : Nat) : State :=
  (s.setClock (s.clock.advance dt)).setRep
    { s.rep with pulseLines := s.rep.pulseLines.map (·.advance (s.clock.gain dt)) }

/-! ## Deadlines: the instants of the part's own expiries

Each is a row of the table. An expiry that is due is a deadline of 0, and time does not run past a deadline, so no
expiry is passed over (log entry 1). -/

/-- The run counter has reached 2 ms in boot BYPASS (R20). -/
def State.bootWindowDue (s : State) : Bool := s.lines.mode == .boot && 2 ≤ s.clock.runCounter.toNat

/-- The query timer expires (R55). -/
def State.queryTimerDue (s : State) : Bool := s.exch.queryIn == some 0

/-- The window of the OPEN record expires (R58, R59). -/
def State.replyWindowDue (s : State) : Bool :=
  match s.exch.record with
  | .opened _ _ expiry => readingReached s.clock.runCounter expiry
  | _ => false

/-- The pulse liveness expiry comes (R66). -/
def State.pulseLivenessDue (s : State) : Bool :=
  s.exch.liveP &&
    match s.exch.pulseExpiry with
    | some e => readingReached s.clock.runCounter e
    | none => false

/-- t_h has reached the holdover limit (R97). -/
def State.holdoverLimitDue (s : State) : Bool :=
  s.servo.holdForm && s.servo.holdoverLimit * 1000 ≤ (s.servo.holdTime.getD 0).toNat

/-- The holdover form of U has reached the ceiling (R85). -/
def State.ceilingDue (s : State) : Bool := s.servo.holdForm && s.servo.heldU == uCeiling

/-- The revert expiry comes (R98). -/
def State.revertDue (s : State) : Bool := s.servo.revertIn == some 0

/-- The evaluation timer expires (R143). -/
def State.evaluationDue (s : State) : Bool := s.mon.evalIn == 0

/-- The summary timer expires (R158). -/
def State.summaryDue (s : State) : Bool := s.rep.summaryIn == some 0

/-- The hold of a RESET command ends (R171). -/
def State.resetHoldDue (s : State) : Bool :=
  match s.agent.hold with
  | some h => h.released || 10 ≤ (s.clock.runCounter - h.offeredAt).toNat
  | none => false

/-- The time to the next tick of the run counter (R8). -/
def State.tickIn (s : State) : Nat := s.clock.tickAt - s.clock.osc

/-- The time to the end of the debounce width, while a pulse is timed (R12). -/
def State.debounceIn (s : State) : Option Nat :=
  match s.pulse.qualifier, s.pulse.tentative with
  | .timing, some t => some (t.endsAt - s.clock.osc)
  | _, _ => none

/-- The time to the next grade timer expiry (R115). -/
def State.gradeIn (s : State) : Nat := s.south.gradeAt - s.clock.osc

/-- The time until the oldest date record reaches the report latency, while no Date Report waits (R131). -/
def State.latencyIn (s : State) : Option Nat :=
  match s.dater.queue with
  | r :: _ =>
    if s.rep.collector = 0 ∨ s.rep.dateReportWaiting then none
    else some (r.createdAt + fuPerUs * s.dater.latency - s.clock.osc)
  | [] => none

/-- The time until the oldest notice-set entry reaches the holdoff, while no Notice waits (R156). -/
def State.holdoffIn (s : State) : Option Nat :=
  match s.rep.notices with
  | e :: _ =>
    if s.rep.collector = 0 ∨ s.rep.noticeWaiting then none
    else some (e.createdAt + fuPerMs * s.rep.holdoff - s.clock.osc)
  | [] => none

/-- The oscillator times to a pulse line's scheduled starts (R161). -/
def State.startTimes (s : State) (p : PulseLine) : List Nat := p.starts.map s.clock.timeFor

/-- The time to the end of a pulse line's pulse (R161). -/
def State.pulseEndIn (s : State) (p : PulseLine) : Option Nat := p.pulseEnd.map (· - s.clock.osc)

/-- A frame has been picked by a line's arbiter and begins to leave at this instant (R33). -/
def LineState.departing (l : LineState) : Bool :=
  match l.transmit with
  | .pickedOwn _ => true
  | .pickedPassing => true
  | _ => false

/-- A deadline of 0 for what is due. -/
def dueNow (due : Bool) : List Nat := if due then [0] else []

/-- The deadlines of the timers, which run while no reset is in progress. -/
def State.timerDeadlines (s : State) : List Nat :=
  dueNow s.bootWindowDue ++ dueNow s.queryTimerDue ++ dueNow s.replyWindowDue ++ dueNow s.pulseLivenessDue
    ++ dueNow s.holdoverLimitDue ++ dueNow s.ceilingDue ++ dueNow s.revertDue ++ dueNow s.evaluationDue
    ++ dueNow s.summaryDue ++ dueNow s.resetHoldDue
    ++ [s.tickIn, s.gradeIn] ++ s.debounceIn.toList ++ s.latencyIn.toList ++ s.holdoffIn.toList
    ++ (s.rep.pulseLines.map fun p => s.startTimes p ++ (s.pulseEndIn p).toList).flatten

/-- Every deadline but the second boundary. -/
def State.deadlines (s : State) : List Nat :=
  dueNow s.lines.north.departing ++ dueNow s.lines.south.departing
    ++ (if s.phase = .running then s.timerDeadlines else [])

/-- How far time may run before some expiry must be taken. A second boundary is reached only by its own row, so other
commands come before it (log entry 7). -/
def State.slack (s : State) : Nat := s.deadlines.foldl min (s.clock.boundaryIn - 1)

/-- An event from outside comes some oscillator time after the step before it, and not past an expiry (log entry 1). -/
def State.runBy (s : State) (dt : Nat) : State := s.runFor (min dt s.slack)

/-- An expiry of the part's own, some time away, is taken: it is the next thing to happen, or nothing is done. -/
def State.takeAt (s : State) (distance : Nat) (effect : State → State) : State :=
  if distance ≤ s.slack then effect (s.runFor distance) else s

/-- An expiry of the part's own is taken if it is due. -/
def State.takeIf (s : State) (due : Bool) (effect : State → State) : State :=
  if s.phase = .running ∧ due then effect s else s

/-! ## The notice set (R154, R155) -/

/-- An entry takes a later transition for its subject (R154). -/
def NoticeEntry.coalesce (e : NoticeEntry) (newState : SubjectState) (snapshot : Snapshot) : NoticeEntry :=
  { e with latestNew := newState, snapshot := snapshot, count := satIncr 255 e.count }

/-- The report engine takes a transition at an oscillator instant (R154, R155). -/
def ReportEngine.transition (r : ReportEngine) (osc : Nat) (subject : Subject) (oldState newState : SubjectState)
    (snapshot : Snapshot) : ReportEngine :=
  if r.notices.any (·.subject == subject) then
    { r with notices := r.notices.map fun e => if e.subject = subject then e.coalesce newState snapshot else e }
  else if r.notices.length < 64 then
    { r with notices := r.notices ++
        [{ subject := subject, firstOld := oldState, latestNew := newState, snapshot := snapshot, count := 1,
           createdAt := osc }] }
  else { r with noticeOverflow := true, noticeDropped := count16 r.noticeDropped }

/-- A transition handed to the report engine now. -/
def State.transition (s : State) (subject : Subject) (oldState newState : SubjectState) (snapshot : Snapshot) : State :=
  s.setRep (s.rep.transition s.clock.osc subject oldState newState snapshot)

/-! ## The transmit arbiter (R33) -/

/-- The elastic buffer that feeds a line. -/
def State.feeding (s : State) (line : Line) : List Passage := (s.lineAt line.other).buffer

/-- The oldest passing frame of a buffer. -/
def oldestPassing (buffer : List Passage) : Option Passage := buffer.find? fun p => p.consumer.isNone

/-- What a line's arbiter picks (R33). -/
def State.pickFor (s : State) (line : Line) : Transmit :=
  let passing : Transmit :=
    match oldestPassing (s.feeding line) with
    | some p => if p.ready then .pickedPassing else .idle
    | none => .idle
  if s.lines.mode = .active ∧ occupancy (s.feeding line) s.clock.osc ≤ s.lines.injectionLimit then
    match bestPlace (s.lineAt line).origin with
    | some i => .pickedOwn i
    | none => passing
  else passing

/-- A line's arbiter makes a pick. -/
def State.pick (s : State) (line : Line) : State :=
  s.setLine line { s.lineAt line with transmit := s.pickFor line }

/-- A line's arbiter makes a pick if the line is idle. -/
def State.pickIfIdle (s : State) (line : Line) : State :=
  if (s.lineAt line).transmit = .idle then s.pick line else s

/-- A line's arbiter makes its pick again if the frame it picked has not begun to leave. -/
def State.repick (s : State) (line : Line) : State :=
  if (s.lineAt line).departing then s.pick line else s

/-! ## Places in the origin queues (R32) -/

/-- An origin queue has a free place. -/
def State.hasPlace (s : State) (line : Line) : Bool := (s.lineAt line).origin.length < 8

/-- A line's arbiter makes a pick as an own frame joins: where the line is idle, and where it has picked at this instant a
passing frame that has not begun to leave, over both candidates (R33, log entry 43). -/
def State.pickAtJoining (s : State) (line : Line) : State :=
  if (s.lineAt line).transmit = .idle ∨ (s.lineAt line).transmit = .pickedPassing then s.pick line else s

/-- An own frame joins an origin queue. -/
def State.join (s : State) (line : Line) (f : OwnFrame) : State :=
  (s.setLine line { s.lineAt line with origin := (s.lineAt line).origin ++ [f] }).pickAtJoining line

/-- The notice set is ready to send (R156). -/
def State.noticeReady (s : State) : Bool :=
  s.rep.collector != 0 &&
    match s.rep.notices with
    | e :: _ => e.createdAt + fuPerMs * s.rep.holdoff ≤ s.clock.osc
    | [] => false

/-- The date queue is ready to drain (R131). -/
def State.dateReady (s : State) : Bool :=
  s.rep.collector != 0 &&
    match s.dater.queue with
    | r :: _ =>
      s.dater.batch ≤ s.dater.queue.length || r.createdAt + fuPerUs * s.dater.latency ≤ s.clock.osc
    | [] => false

/-- The reply queue's head becomes a Reply (R111, R112). -/
def State.takeReply (s : State) : Option (OwnFrame × State) :=
  match s.south.queue with
  | e :: rest => some (s.buildReply e, s.setSouth { s.south with queue := rest })
  | [] => none

/-- The Query waiting in the exchange (R57). -/
def State.takeQuery (s : State) : Option (OwnFrame × State) :=
  s.exch.waitingQuery.map fun f => (f, s.setExch { s.exch with waitingQuery := none })

/-- The waiting Grade (R116). -/
def State.takeGrade (s : State) : Option (OwnFrame × State) :=
  s.south.waitingGrade.map fun f => (f, s.setSouth { s.south with waitingGrade := none })

/-- The Notice waiting to join is built from the oldest entries, up to 16 (R156). -/
def State.takeNotice (s : State) : Option (OwnFrame × State) :=
  if s.rep.noticeWaiting then
    let s' := s.setRep { s.rep with notices := s.rep.notices.drop 16, noticeSeq := s.rep.noticeSeq + 1 }
    some (s.buildNotice (s.rep.notices.take 16), s'.setRep { s'.rep with noticeWaiting := s'.noticeReady })
  else none

/-- The Date Report waiting to join is built from the oldest records, up to 32 (R131). -/
def State.takeDateReport (s : State) : Option (OwnFrame × State) :=
  if s.rep.dateReportWaiting then
    let s' := (s.setDater { s.dater with queue := s.dater.queue.drop 32 }).setRep
      { s.rep with dateReportSeq := s.rep.dateReportSeq + 1 }
    some (s.buildDateReport (s.dater.queue.take 32), s'.setRep { s'.rep with dateReportWaiting := s'.dateReady })
  else none

/-- The periodic Summary waiting to join is built (R158, R159). -/
def State.takeSummary (s : State) : Option (OwnFrame × State) :=
  if s.rep.summaryWaiting then
    some (s.collectorFrame .summary s.summaryBytes,
      s.setRep { s.rep with summaryWaiting := false, summarySeq := s.rep.summarySeq + 1 })
  else none

/-- The waiting frame that joins a line's origin queue next, in the priority order of R33, and the state of the block
that gave it up (R32). -/
def State.offer (s : State) (line : Line) : Option (OwnFrame × State) :=
  (match line with
   | .south => s.takeReply <|> s.takeGrade
   | .north => s.takeQuery) <|>
  (if s.rep.collectorLine = line then s.takeNotice <|> s.takeDateReport <|> s.takeSummary else none)

/-- The free places of a line's origin queue are offered, up to a number of them (R32). -/
def State.fillPlaces : Nat → Line → State → State
  | 0, _, s => s
  | n + 1, line, s =>
    if s.hasPlace line then
      match s.offer line with
      | some (f, s') => State.fillPlaces n line (s'.join line f)
      | none => s
    else s

/-- Every free place of a line's origin queue is offered. -/
def State.fill (s : State) (line : Line) : State := State.fillPlaces 8 line s

/-- The readiness of the date queue is applied as it stands (R131). -/
def State.refreshDateReport (s : State) : State :=
  (s.setRep { s.rep with dateReportWaiting := s.dateReady }).fill s.rep.collectorLine

/-- The readiness of the notice set is applied as it stands (R156). -/
def State.refreshNotice (s : State) : State :=
  (s.setRep { s.rep with noticeWaiting := s.noticeReady }).fill s.rep.collectorLine

end Sys2Proof.Machine
end

