-- ==== Sys2Proof/Machine/Steps.lean ====
section
/-! DEFINITION. Steps of the timescale and what each block does with one (R4, R6, R104), and the swap of the class-table
banks, which a boundary event carries out (R48 to R50). -/

namespace Sys2Proof.Machine

/-! ## Streams and swaps -/

/-- A stream begins afresh: last date absent, next sequence 0, pending gap count 0, gap notice armed (R49, R119). -/
def Dater.resetStream (d : Dater) (k : Nat) : Dater :=
  { d with streams := d.streams.modify k fun x => .fresh (x.beginning + 1) }

/-- The indexes of a bank's entries whose new-stream flag is set (R49). -/
def newStreams (entries : List ClassEntry) : List Nat :=
  (entries.zipIdx.filter fun e => e.1.newStream).map (·.2)

/-- The swap: the bank roles exchange, the flag clears, the new streams begin, and the SWAP transition is given with the
second of the boundary event (R48 to R50). -/
def State.swapBanks (s : State) (second : Nat) : State :=
  let former := s.cls.active
  let c := { s.cls with active := former.other, swapPending := false }
  let d := (newStreams (c.entries former.other)).foldl Dater.resetStream s.dater
  ((s.setCls c).setDater d).transition .swap (.bank former) (.bank former.other) (.swap second)

/-- A boundary event reaches the classifier (R48). -/
def State.boundaryEvent (s : State) (second : Nat) : State :=
  if s.cls.swapPending then s.swapBanks second else s

/-! ## The step itself (R4) -/

/-- The timescale value after a step of σ fine units, clamped to its range (R4). -/
def Clock.steppedValue (c : Clock) (sigma : Int) : Nat :=
  (clampInt 0 ((timescaleRange : Int) - 1) ((c.value : Int) + sigma)).toNat

/-- The applied amount of a step (R4). -/
def Clock.appliedAmount (c : Clock) (sigma : Int) : Int := (c.steppedValue sigma : Int) - c.value

/-- A held arrival stamp moves with the step (R23). -/
def Passage.shift (p : Passage) (applied : Int) : Passage := { p with arrival := p.arrival.map (· + applied) }

/-- The held arrival stamps of the frames in passage move with the step (R23). -/
def LineState.shift (l : LineState) (applied : Int) : LineState := { l with buffer := l.buffer.map (·.shift applied) }

/-- The line pair's held stamps move with the step (R23). -/
def LinePair.shift (l : LinePair) (applied : Int) : LinePair :=
  { l with north := l.north.shift applied, south := l.south.shift applied }

/-- The tentative capture moves with the step (R13). -/
def PulseInput.shift (p : PulseInput) (applied : Int) : PulseInput :=
  { p with tentative := p.tentative.map fun t => { t with value := t.value + applied } }

/-- The t2 of each reply-queue entry moves with the step (R110). -/
def SouthServer.shift (g : SouthServer) (applied : Int) : SouthServer :=
  { g with queue := g.queue.map fun e => { e with t2 := e.t2 + applied } }

/-- An outstanding Query record is voided, without a miss; a Query still waiting in the exchange is withdrawn (R57,
R67). -/
def Exchange.void (e : Exchange) : Exchange := { e with record := .empty, waitingQuery := none }

/-- What the exchange does with a step announcement (R67). -/
def Exchange.onStep (e : Exchange) : Exchange := { e.void with windowN := [], windowP := [] }

/-- What the emptying of the active window does to the servo (R77, R93). -/
def Servo.windowEmptied (v : Servo) : Servo := { v with stepPending := false, lockCounter := 0 }

/-- What the servo does with a step announcement (R87, R102, R104): the applied amount is the most recent step's, and
ACQUIRE and ALIGN steps are counted. -/
def Servo.onStep (v : Servo) (applied : Int) (source : StepSource) : Servo :=
  { v.windowEmptied with
    lastStep := some applied
    stepCount := if source = .setTime then v.stepCount else count16 v.stepCount }

/-- What the drift monitor does with a step announcement (R148). -/
def Monitor.onStep (m : Monitor) (applied : Int) : Monitor :=
  if fuPerNs * m.judgeLimit ≤ applied.natAbs then { m with settleCounter := m.settlePeriod } else m

/-- The records of the part that hold stamps, with the step applied to each (R4, R13, R23, R110). -/
def State.stepStamps (s : State) (sigma : Int) : State :=
  let applied := s.clock.appliedAmount sigma
  (((s.setClock { s.clock with value := s.clock.steppedValue sigma }).setLines (s.lines.shift applied)).setPulse
    (s.pulse.shift applied)).setSouth (s.south.shift applied)

/-- The boundaries a step has crossed reach the classifier as one event, carrying the first (R6, R48, R104). -/
def State.crossBoundaries (s : State) (before after : Nat) : State :=
  if before / fuPerSecond < after / fuPerSecond then s.boundaryEvent (before / fuPerSecond + 1) else s

/-- A step of σ fine units is applied and announced (R4, R104): the exchange, the classifier, the drift monitor, the
servo and the report engine each take it. The dater leaves its records as they stand (R128). A swap that the step carries
out gives its transition before the step's own (DESIGN CHOICE, log entry 51). -/
def State.applyStep (s : State) (sigma : Int) (source : StepSource) : State :=
  let applied := s.clock.appliedAmount sigma
  let stamped := s.stepStamps sigma
  let exchanged := stamped.setExch stamped.exch.onStep
  let crossed := exchanged.crossBoundaries s.clock.value stamped.clock.value
  let judged := crossed.setMon (crossed.mon.onStep applied)
  let served := judged.setServo (judged.servo.onStep applied source)
  served.transition .servo (.servo s.servo.condition) (.servo s.servo.condition)
    (.step applied source served.servo.uncertainty)

end Sys2Proof.Machine
end

