-- ==== Sys2Proof/Machine/Dating.lean ====
section
/-! DEFINITION. The dater: the settle (R120 to R122), the record (R123 to R127) and the date queue (R129, R130). -/

namespace Sys2Proof.Machine

/-- The largest date, in whole ns (R120). -/
def largestDate : Nat := 2 ^ 48 * 1000000000 - 1

/-- The candidate date of a held arrival stamp and a dating offset in ns (R120). -/
def candidateDate (arrival offset : Int) : Nat :=
  (clampInt 0 largestDate (fuToNs (arrival + offset * fuPerNs))).toNat

/-- A stream whose last date is the largest begins afresh before it settles (R121). -/
def Dater.renew (d : Dater) (k : Nat) : Dater :=
  if (d.stream k).lastDate = some largestDate then d.resetStream k else d

/-- The settled date and its HELD flag (R121). -/
def settleDate (lastDate : Option Nat) (candidate : Nat) : Nat × Bool :=
  match lastDate with
  | some l => if l < candidate then (candidate, false) else (l + 1, true)
  | none => (candidate, false)

/-- The dater with a stream changed. -/
def Dater.modifyStream (d : Dater) (k : Nat) (f : StreamState → StreamState) : Dater :=
  { d with streams := d.streams.modify k f }

/-- What a DATE hand-off carries (R44), with the s of the frame's storage sample (R122). -/
structure DateHandoff where
  stream : Nat
  arrival : Int
  offset : Int
  stampOffset : Option Nat
  source : Address
  line : Line
  payloadStart : Nat
  issue : Option Int
  deriving DecidableEq, Repr

/-- The date that a hand-off settles (R120, R121). -/
def Dater.settled (d : Dater) (h : DateHandoff) : Nat × Bool :=
  settleDate ((d.renew h.stream).stream h.stream).lastDate (candidateDate h.arrival h.offset)

/-- The open date of a settle (R119, R122). -/
def State.openDateOf (s : State) (h : DateHandoff) : OpenDate where
  stream := h.stream
  beginning := ((s.dater.renew h.stream).stream h.stream).beginning
  date := (s.dater.settled h).1
  held := (s.dater.settled h).2
  uncertainty := s.servo.uncertainty
  state := s.servo.state
  origin := s.mon.lookup h.source
  issueOffset := h.issue
  stampOffset := h.stampOffset
  payloadStart := h.payloadStart

/-- The settle of a DATE hand-off: the stream's last date advances and an open date is held (R120 to R122). -/
def State.settle (s : State) (h : DateHandoff) : State :=
  s.setDater
    (((s.dater.renew h.stream).modifyStream h.stream fun x => { x with lastDate := some (s.dater.settled h).1 }).setOpenDate
      h.line (some (s.openDateOf h)))

/-- The stamp field of an open date does not lie inside a frame of some length (R123). -/
def OpenDate.short (o : OpenDate) (length : Nat) : Bool :=
  match o.stampOffset with
  | some n => length < o.payloadStart + n + 14
  | none => false

/-- The date record of an open date, created at an oscillator instant (R124, R127). -/
def Dater.recordOf (d : Dater) (o : OpenDate) (length osc : Nat) : DateRecord where
  stream := o.stream
  beginning := o.beginning
  seq := (d.stream o.stream).nextSeq
  date := o.date
  uncertainty := o.uncertainty
  state := o.state
  held := o.held
  short := o.short length
  gap := (d.stream o.stream).gap
  origin := o.origin
  issueOffset := o.issueOffset
  createdAt := osc

/-- A record enters the date queue with its stream's pending gap count (R129). -/
def State.enterRecord (s : State) (r : DateRecord) : State :=
  (s.setDater
    { s.dater.modifyStream r.stream fun x => { x with nextSeq := x.nextSeq + 1, gap := 0, armed := true } with
      queue := s.dater.queue ++ [r] }).refreshDateReport

/-- A record is lost to a full queue (R129, R130). -/
def State.loseRecord (s : State) (r : DateRecord) : State :=
  let t := (s.setDater
    { s.dater.modifyStream r.stream fun x => { x with nextSeq := x.nextSeq + 1, gap := x.gap + 1, armed := false } with
      lostRecord := count16 s.dater.lostRecord }).setRep { s.rep with dateGap := true }
  if (s.dater.stream r.stream).armed then
    t.transition (.streamGap r.stream) (.gap false) (.gap true) (.gap r.seq (r.gap + 1))
  else t

/-- A created record is offered to the date queue (R129). -/
def State.offerRecord (s : State) (r : DateRecord) : State :=
  if s.dater.queue.length < 1024 then s.enterRecord r else s.loseRecord r

/-- A frame-end event reaches the dater (R124, R126). The records of a stream are made in the order of their frames' ends, as R124's
table gives it, also where each line holds an open date of the stream and the later date ends first (DESIGN CHOICE, log entry
69). -/
def State.closeDate (s : State) (line : Line) (good : Bool) (length : Nat) : State :=
  match s.dater.openDate line with
  | some o =>
    let t := s.setDater (s.dater.setOpenDate line none)
    if (s.dater.stream o.stream).beginning ≠ o.beginning then
      t.setDater { t.dater with orphaned := count16 t.dater.orphaned }
    else if good then t.offerRecord (t.dater.recordOf o length t.clock.osc)
    else t
  | none => s

end Sys2Proof.Machine
end

