-- ==== Sys2Proof/Machine/Servo.lean ====
section
/-! DEFINITION. The servo: its arithmetic (R72 to R84) and its state machine (R89 to R105). -/

namespace Sys2Proof.Machine

/-! ## Offset and delay (R72 to R74) -/

/-- What a round trip gives: θ and d. -/
structure RoundTrip where
  theta : Int
  delay : Nat
  deriving DecidableEq, Repr

/-- The largest d that is accepted, 10,000,000 ns in fine units (R74). -/
def delayLimit : Int := 655360000000

/-- θ and d of two legs and an asymmetry in ns, or a rejection as BAD_DELAY (R73, R74). -/
def offsetDelay (a b alpha : Int) : Option RoundTrip :=
  let d := roundDiv (a + b) 2
  if 0 ≤ d ∧ d ≤ delayLimit then some { theta := roundDiv (b - a - alpha * fuPerNs) 2, delay := d.toNat } else none

/-- The round trip of R72: a leader stamp that is not an instant is a rejection. -/
def roundTrip (t1 t4 alpha : Int) (f : ReplyFields) : Option RoundTrip :=
  if f.t2.isInstant && f.t3.isInstant then
    offsetDelay (f.t2.fineUnits - t1 - f.cFwd) (t4 - f.t3.fineUnits - f.correction) alpha
  else none

/-! ## The PI update (R79 to R81) -/

/-- θ_ps: θ_sel in picoseconds, saturated to ±1 s (R79). -/
def thetaPs (theta : Int) : Int := clampInt (-1000000000000) 1000000000000 (roundDiv (theta * 1000) 65536)

/-- The shift of the integral increment (R80). -/
def State.shift (s : State) : Nat :=
  ((s.servo.integExp : Int) + s.servo.propExp - (if s.servo.active = .north then s.exch.queryExp else 0)).toNat

/-- The figures of a PI update on a selected θ (R79, R80). -/
def State.piFigures (s : State) (theta : Int) : PiFigures where
  thetaPs := thetaPs theta
  prop := roundDiv (-thetaPs theta) (2 ^ s.servo.propExp)
  incr := roundDiv (-thetaPs theta) (2 ^ s.shift)

/-- A value clamped to ±A_max. -/
def Servo.limitRate (v : Servo) (x : Int) : Int := clampInt (-v.aMax) v.aMax x

/-- The clock after a PI update: I is clamped before A is formed (R81). -/
def Clock.steer (c : Clock) (v : Servo) (f : PiFigures) : Clock :=
  { c with
    integI := v.limitRate (c.integI + f.incr)
    rateA := v.limitRate (v.limitRate (c.integI + f.incr) + f.prop) }

/-- The PI update on the selected sample (R79 to R81). -/
def State.piUpdate (s : State) (x : Sample) : State :=
  (s.setClock (s.clock.steer s.servo (s.piFigures x.theta))).setServo
    { s.servo with lastPi := some (s.piFigures x.theta) }

/-! ## Conditions and their transitions (R105, R106) -/

/-- A servo event taken as a whole: where it changes the condition, one transition is given, and the run-counter reading
of the change is kept (R105, R106). -/
def State.tracked (s : State) (event : State → State) : State :=
  let t := event s
  if t.servo.condition = s.servo.condition then t
  else
    (t.setServo { t.servo with lastChange := some t.clock.runCounter }).transition .servo (.servo s.servo.condition)
      (.servo t.servo.condition) (.condition t.servo.uncertainty t.ownClass)

/-! ## Entries into states (R84, R92 to R95) -/

/-- The servo enters ACQUIRE on a reference: with memory, U_entry takes U and t_h starts from 0 (R84, R92). -/
def Servo.enterAcquire (v : Servo) (r : Ref) : Servo :=
  { v with
    state := .acquire
    active := r
    lockCounter := 0
    unlockCounter := 0
    stepPending := false
    entryU := if v.memory then some v.uncertainty else none
    holdTime := if v.memory then some 0 else none }

/-- The servo enters HOLDOVER: U_entry takes U and t_h starts from 0 (R84, R95, R99). -/
def Servo.enterHoldover (v : Servo) : Servo :=
  { v with state := .holdover, entryU := some v.uncertainty, holdTime := some 0 }

/-- The servo enters LOCKED on a selected sample (R93). -/
def Servo.enterLocked (v : Servo) (x : Sample) : Servo :=
  { v with
    state := .locked
    memory := true
    lockCounter := 0
    unlockCounter := 0
    stepPending := false
    lockedU := lockedForm x
    entryU := none
    holdTime := none }

/-- The servo enters ACQUIRE on a reference whose window it orders emptied (R68, R92, R95, R98). -/
def State.startAcquire (s : State) (r : Ref) : State :=
  (s.setServo (s.servo.enterAcquire r)).setExch (s.exch.setWindow r [])

/-- The end of holdover (R97). -/
def Servo.endHoldover (v : Servo) : Servo :=
  match v.state with
  | .holdover =>
    { v with state := .free, memory := false, active := if v.held then v.active else .none,
             entryU := none, holdTime := none }
  | .acquire => { v with memory := false, entryU := none, holdTime := none }
  | _ => v

/-- The end of holdover as an event (R97). -/
def State.endHoldover (s : State) : State := s.tracked fun t => t.setServo t.servo.endHoldover

/-! ## The revert (R98) -/

/-- The run time to the instant at which the primary's live-since mark reaches the revert time, where it is still to come
(R98). -/
def Servo.revertDistance (v : Servo) : Option Nat :=
  match v.mark v.primary with
  | some m => if m.age.toNat < v.revertTime * 1000 then some (v.revertTime * 1000 - m.age.toNat) else none
  | none => none

/-- The revert expiry after a change of the servo: it is scheduled anew where the primary's mark or the revert time has
changed, and an expiry that is due stands where neither has (R98, log entry 24). -/
def Servo.reschedule (v old : Servo) : Servo :=
  if v.mark v.primary = old.mark old.primary ∧ v.revertTime = old.revertTime then v
  else { v with revertIn := v.revertDistance }

/-- The revert test passes (R98). -/
def State.revertPasses (s : State) : Bool :=
  !s.servo.held && s.servo.state == .locked && s.servo.active == s.servo.effectiveSecondary && s.servo.revertEnable
    && s.available s.servo.primary &&
    match s.servo.mark s.servo.primary with
    | some m => s.servo.revertTime * 1000 ≤ m.age.toNat
    | none => false

/-- The revert test, and the revert where it passes (R98). -/
def State.revertTest (s : State) : State := if s.revertPasses then s.startAcquire s.servo.primary else s

/-! ## Losses and offers (R95, R96) -/

/-- A loss of the active reference in AUTO mode (R95, R96). -/
def State.lose (s : State) : State :=
  match s.servo.state with
  | .locked =>
    if s.available s.servo.active.other then s.startAcquire s.servo.active.other
    else s.setServo s.servo.enterHoldover
  | .acquire =>
    if s.available s.servo.active.other then s.startAcquire s.servo.active.other else s
  | _ => s

/-- An offer of a reference in AUTO mode (R95, R96). -/
def State.acceptOffer (s : State) (r : Ref) : State :=
  match s.servo.state with
  | .locked => s.revertTest
  | .acquire => if s.servo.active = r ∨ s.live s.servo.active then s else s.startAcquire r
  | _ => s

/-- The servo takes a LIVE event (R89, R95, R99). -/
def State.liveEvent (s : State) (r : Ref) : State :=
  s.tracked fun s =>
    let t := s.setServo ((s.servo.setMark r (some { since := s.clock.runCounter, age := 0 })).reschedule s.servo)
    if t.servo.held then t else if t.configured r then t.acceptOffer r else t

/-- The servo takes a LOST event (R89, R95, R99). -/
def State.lostEvent (s : State) (r : Ref) : State :=
  s.tracked fun s =>
    let t := s.setServo ((s.servo.setMark r none).reschedule s.servo)
    if t.servo.held then t else if t.servo.active = r then t.lose else t

/-! ## Samples (R75 to R78, R92 to R94, R100) -/

/-- A selection is made over the active window: the leader class of the selection follows it (R76, R89). -/
def State.select (s : State) : State :=
  match s.selected with
  | some x => s.setServo { s.servo with leaderClass := some x.leaderClass }
  | none => s

/-- The outcome of the step test on a window, with a step limit in fine units (R77). -/
def stepTest (w : List Sample) (limit : Nat) : StepOutcome :=
  match w.reverse with
  | x :: y :: _ =>
    if x.theta.natAbs ≤ limit then .steer
    else if limit < y.theta.natAbs ∧ (x.theta - y.theta).natAbs ≤ limit then .step
    else .hold
  | [x] => if x.theta.natAbs ≤ limit then .steer else .hold
  | [] => .steer

/-- The θ of the sample that has just entered the active window. -/
def State.newestTheta (s : State) : Int :=
  match s.activeWindow.getLast? with
  | some x => x.theta
  | none => 0

/-- The lock test's conditions after the counter has moved (R93). -/
def State.lockPasses (s : State) : Bool :=
  s.activeWindow.length == s.exch.windowSize && 4 ≤ s.servo.lockCounter && !s.servo.stepPending

/-- The lock counter after a STEER outcome (R93). -/
def Servo.movedLockCounter (v : Servo) (x : Sample) : Nat :=
  if x.theta.natAbs ≤ fuPerNs * v.lockLimit then satIncr 255 v.lockCounter else 0

/-- A STEER outcome: the PI update, the lock test, and after an entry into LOCKED the revert test (R77, R93). -/
def State.steer (s : State) (x : Sample) : State :=
  let p := s.piUpdate x
  let t := p.setServo
    { p.servo with stepOutcome := some .steer, stepPending := false, lockCounter := p.servo.movedLockCounter x }
  if t.lockPasses then (t.setServo (t.servo.enterLocked x)).revertTest else t

/-- A steering sample in ACQUIRE (R77, R78, R93). -/
def State.acquireSample (s : State) : State :=
  match stepTest s.activeWindow (fuPerNs * s.servo.stepLimit) with
  | .step =>
    (s.setServo { s.servo with stepOutcome := some .step, lockCounter := 0 }).applyStep (-s.newestTheta) .acquire
  | .hold => s.setServo { s.servo with stepOutcome := some .hold, stepPending := true, lockCounter := 0 }
  | .steer =>
    match s.selected with
    | some x => s.steer x
    | none => s

/-- The unlock test (R94). -/
def State.unlockTest (s : State) (x : Sample) : State :=
  if fuPerNs * s.servo.effectiveUnlock < x.theta.natAbs then
    if s.servo.unlockCounter + 1 < 3 then s.setServo { s.servo with unlockCounter := s.servo.unlockCounter + 1 }
    else s.setServo (s.servo.enterAcquire s.servo.active)
  else s.setServo { s.servo with unlockCounter := 0 }

/-- A steering sample in LOCKED (R75, R83, R94). -/
def State.lockedSample (s : State) : State :=
  match s.selected with
  | some x =>
    let p := s.piUpdate x
    (p.setServo { p.servo with lockedU := lockedForm x }).unlockTest x
  | none => s

/-- A sample of a reference brings FREE or HOLDOVER into ACQUIRE, its own window emptied (R92). -/
def State.leadOut (s : State) (r : Ref) : State :=
  if s.available r && (r == s.servo.primary || !s.available s.servo.primary) then s.startAcquire r else s

/-- The ALIGN test (R100). -/
def State.alignTest (s : State) : State :=
  if s.servo.alignPending then
    let t := s.applyStep (-s.newestTheta) .align
    t.setServo { t.servo with alignPending := false }
  else s

/-- What the mode and the state make of a sample of a reference (R75, R92 to R94, R99, R100). -/
def State.sampleWork (s : State) (r : Ref) : State :=
  if s.servo.held then
    if s.servo.active = r then s.alignTest else s
  else
    match s.servo.state with
    | .free => s.leadOut r
    | .holdover => s.leadOut r
    | .acquire => if s.servo.active = r then s.acquireSample else s
    | .locked => if s.servo.active = r then s.lockedSample else s

/-- The servo takes a sample-entered event (R75). -/
def State.sampleEntered (s : State) (r : Ref) : State :=
  s.tracked fun s => (if s.servo.active = r then s.select else s).sampleWork r

/-! ## Configuration (R54, R91) -/

/-- NORTH ceases to be configured: what the exchange does (R54) and the mark that goes with its liveness (log entry
23). -/
def State.unconfigureNorth (s : State) : State :=
  let t := s.setExch { s.exch.void with queryIn := none, missed := 0, windowN := [], liveN := false }
  let v := (t.servo.setMark .north none).reschedule t.servo
  t.setServo (if v.active = .north then v.windowEmptied else v)

/-- NORTH ceases or begins to be configured (R54). -/
def State.northChange (s : State) (before after : Bool) : State :=
  if before && !after then s.unconfigureNorth
  else if !before && after then s.setExch { s.exch with queryIn := some 0 }
  else s

/-- The active reference has ceased to be configured (R91). -/
def State.dropActive (s : State) : State :=
  if s.servo.active = .none ∨ s.configured s.servo.active then s
  else
    let t := if s.servo.held then s else s.lose
    if t.configured t.servo.active then t else t.setServo { t.servo with active := .none }

/-- PULSE has become configured while LIVE (R91); NORTH is never LIVE where it was not configured (R54). -/
def State.offerPulse (s : State) (before : Bool) : State :=
  if !before && s.available .pulse && !s.servo.held then s.acceptOffer .pulse else s

/-- A write that may change the set of configured references is taken as one event (R91). Where it leaves the set as it
was, only the revert expiry can be scheduled anew (log entry 39). -/
def State.reconfigure (s : State) (write : State → State) : State :=
  s.tracked fun s =>
    let w := write s
    let t := w.setServo (w.servo.reschedule s.servo)
    if t.configured .north = s.configured .north ∧ t.configured .pulse = s.configured .pulse then t
    else
      (((t.northChange (s.configured .north) (t.configured .north)).dropActive).offerPulse
        (s.configured .pulse)).revertTest

/-! ## The commands (R99 to R102) -/

/-- SERVO HELD in AUTO mode (R99). -/
def Servo.hold (v : Servo) : Servo :=
  let w :=
    match v.state with
    | .locked => v.enterHoldover
    | .acquire => if v.memory then v.enterHoldover else { v with state := .free }
    | _ => v
  { w with held := true, lockCounter := 0, unlockCounter := 0, stepPending := false }

/-- The active reference that SERVO AUTO chooses (R99). -/
def State.autoChoice (s : State) : Ref :=
  if s.available s.servo.active then s.servo.active
  else if s.available s.servo.primary then s.servo.primary
  else if s.available s.servo.effectiveSecondary then s.servo.effectiveSecondary
  else if s.configured s.servo.active then s.servo.active
  else .none

/-- SERVO AUTO in HELD mode (R99). -/
def State.release (s : State) : State :=
  (s.setServo { s.servo with held := false, alignPending := false }).startAcquire s.autoChoice

/-- An accepted SET TIME: the step, and held holdover goes to FREE (R5, R102). -/
def State.setTime (s : State) (target : Int) : State :=
  s.tracked fun s =>
    let t := s.applyStep (target - s.clock.value) .setTime
    if t.servo.state = .holdover then
      t.setServo { t.servo with state := .free, memory := false, entryU := none, holdTime := none }
    else t

/-- A shortening of the windows to W: where the active window is shortened, the selection is made again, and U in
LOCKED (R64, R76, R83). -/
def State.shortenWindows (s : State) (w : Nat) : State :=
  let keep (x : List Sample) : List Sample := x.drop (x.length - w)
  let t := s.setExch { s.exch with windowSize := w, windowN := keep s.exch.windowN, windowP := keep s.exch.windowP }
  if w < s.activeWindow.length then
    let u := t.select
    match u.selected with
    | some x => if u.servo.state = .locked then u.setServo { u.servo with lockedU := lockedForm x } else u
    | none => u
  else t

end Sys2Proof.Machine
end

