-- ==== Sys2Proof/Machine/North.lean ====
section
/-! DEFINITION. The north exchange: Queries and their record (R55 to R59), Replies (R60 to R63), the windows (R64) and
the pulse reference (R65, R66). -/

namespace Sys2Proof.Machine

/-! ## Queries -/

/-- A miss is counted (R63). -/
def State.countMiss (s : State) : State :=
  let missed := count16 s.exch.missed
  if s.exch.liveN ∧ s.exch.missedLimit ≤ missed then
    (s.setExch { s.exch with missed := missed, liveN := false }).lostEvent .north
  else s.setExch { s.exch with missed := missed }

/-- A Query is built and offered to the origin queue of line N (R57). -/
def State.issueQuery (s : State) : State :=
  (s.setExch { s.exch with
    record := .waiting s.exch.nextSeq
    waitingQuery := some s.buildQuery
    built := s.exch.built + 1
    nextSeq := s.exch.nextSeq + 1
    issued := satIncr 32768 s.exch.issued }).fill .north

/-- The query timer expires: the next expiry is set by the interval then in force (R55), and the record takes it
(R56). -/
def State.queryTimer (s : State) : State :=
  let t := s.setExch { s.exch with queryIn := some s.exch.interval }
  match t.exch.record with
  | .empty => t.issueQuery
  | .waiting _ => t.countMiss
  | .opened _ _ _ => (t.setExch { t.exch with record := .empty }).countMiss.issueQuery

/-- The reply window expires (R59). -/
def State.replyWindow (s : State) : State := (s.setExch { s.exch with record := .empty }).countMiss

/-- The WAITING Query begins to leave (R58). It is the last one built; the departure of an earlier one, which has been
voided, changes nothing (R57, log entry 58). -/
def Exchange.departed (e : Exchange) (number : Nat) (stamp : Int) (now : BitVec 32) : Exchange :=
  match e.record with
  | .waiting seq =>
    if number = e.built then { e with record := .opened seq stamp (now + BitVec.ofNat 32 e.effectiveWindow) } else e
  | _ => e

/-! ## Windows (R64) -/

/-- A window with a sample entered, the oldest leaving at W. -/
def enterWindow (w : List Sample) (x : Sample) (size : Nat) : List Sample :=
  (w ++ [x]).drop ((w ++ [x]).length - size)

/-- A sample enters its window, and the servo is given the event. -/
def State.enterSample (s : State) (r : Ref) (x : Sample) : State :=
  (s.setExch (s.exch.setWindow r (enterWindow (s.exch.window r) x s.exch.windowSize))).sampleEntered r

/-! ## Replies -/

/-- The classes of a Reply that passes R60 (R61). -/
inductive ReplyClass where
  | matching (t1 : Int)
  | late
  | stray
  deriving DecidableEq, Repr

/-- A Reply's class by its echoed sequence (R61). -/
def Exchange.classify (e : Exchange) (x : BitVec 16) : ReplyClass :=
  let other : ReplyClass := if 0 < e.issued ∧ (e.nextSeq - 1 - x).toNat < e.issued then .late else .stray
  match e.record with
  | .opened seq t1 _ => if x = seq then .matching t1 else other
  | .waiting seq => if x = seq then .stray else other
  | .empty => other

/-- The Reply is used: the missed count becomes 0 and NORTH is LIVE (R62). -/
def State.useReply (s : State) : State :=
  let t := s.setExch { s.exch with missed := 0, liveN := true }
  if s.exch.liveN then t else t.liveEvent .north

/-- A matching Reply, whose record is closed (R62). -/
def State.matchReply (s : State) (t1 t4 : Int) (f : ReplyFields) : State :=
  let t := s.setExch { s.exch with record := .empty }
  if 15 ≤ f.leaderClass then t.countMiss
  else
    let u := t.useReply
    match roundTrip t1 t4 u.servo.alpha f with
    | some r => u.enterSample .north
        { theta := r.theta, delay := r.delay, leaderClass := f.leaderClass, leaderU := f.leaderU,
          runCounter := u.clock.runCounter }
    | none => u.setExch { u.exch with badDelay := count16 u.exch.badDelay }

/-- A Reply counted STRAY_REPLY. -/
def State.strayReply (s : State) : State := s.setExch { s.exch with strayReply := count16 s.exch.strayReply }

/-- The exchange takes a Reply with its held arrival stamp (R60 to R62). -/
def State.takeReplyFrame (s : State) (bytes : List Byte) (t4 : Int) : State :=
  match readReply bytes with
  | some f =>
    if sourceOf bytes = some s.exch.leader ∧ f.requester.toNat = s.senderId then
      match s.exch.classify f.seq with
      | .matching t1 => s.matchReply t1 t4 f
      | .late => s.setExch { s.exch with late := count16 s.exch.late }
      | .stray => s.strayReply
    else s.strayReply
  | none => s.strayReply

/-! ## Pulses (R13, R65, R66) -/

/-- θ of a pulse capture: its distance from the nearest whole second (R65). -/
def pulseTheta (value : Int) : Int :=
  let f := value % fuPerSecond
  if 2 * f ≤ fuPerSecond then f else f - fuPerSecond

/-- PULSE becomes LIVE at a REGULAR capture, if it was LOST (R66). -/
def State.pulseLive (s : State) (reading : BitVec 32) : State :=
  let t := s.setExch
    { s.exch with pulseExpiry := some (reading + 3000), lastRegular := some reading, liveP := true }
  if s.exch.liveP then t else t.liveEvent .pulse

/-- The pulse reference takes a capture (R65, R66). A pulse class of 15 enters the window as it is (DESIGN CHOICE, log entry
52). -/
def State.takeCapture (s : State) (c : CaptureRecord) : State :=
  if c.regular then
    let t := s.pulseLive c.runCounter
    if t.configured .pulse then
      t.enterSample .pulse
        { theta := pulseTheta c.value, delay := 0, leaderClass := t.exch.pulseClass, leaderU := t.exch.pulseU,
          runCounter := c.runCounter }
    else t
  else s

/-- The pulse liveness expiry (R66). -/
def State.pulseLost (s : State) : State :=
  (s.setExch { s.exch with liveP := false, pulseExpiry := none }).lostEvent .pulse

end Sys2Proof.Machine
end

