-- ==== Sys2Proof/Machine/Monitor.lean ====
section
/-! DEFINITION. The drift monitor: samples (R140 to R142), the evaluation of racks (R143 to R150), the transitions it
gives (R151) and the writes that reach it (R135, R137, R139, R142, R143). -/

namespace Sys2Proof.Machine

/-- An offset in ns, saturated to ±2,000,000,000 ns (R114, R141, R142). -/
def saturateOffset (x : Int) : Int := clampInt (-2000000000) 2000000000 x

/-! ## Entries -/

/-- The monitor with an origin entry changed. -/
def Monitor.modifyOrigin (m : Monitor) (j : Nat) (f : OriginEntry → OriginEntry) : Monitor :=
  { m with origins := m.origins.modify j f }

/-- The monitor with a rack changed. -/
def Monitor.modifyRack (m : Monitor) (k : Nat) (f : Rack → Rack) : Monitor :=
  { m with racks := m.racks.modify k f }

/-- A server's entry is replaced; an entry into STRAY or a departure from it gives the report engine a transition
(R151). -/
def State.replaceOrigin (s : State) (j : Nat) (e : OriginEntry) : State :=
  let old := (s.mon.origin j).state
  let t := s.setMon (s.mon.modifyOrigin j fun _ => e)
  if old ≠ e.state ∧ (old = .stray ∨ e.state = .stray) then
    t.transition (.server j) (.server old) (.server e.state) (.server e.filtered e.rack)
  else t

/-- A server's state is set (R144, R145). -/
def State.setServer (s : State) (j : Nat) (new : ServerState) : State :=
  s.replaceOrigin j { s.mon.origin j with state := new }

/-- The learned fields of an entry absent or 0, its state UNSEEN (R136). -/
def OriginEntry.unseen (e : OriginEntry) : OriginEntry :=
  { OriginEntry.initial with enabled := e.enabled, source := e.source, rack := e.rack }

/-- The value snapshot of a rack's transition (R151). -/
def Rack.snapshot (r : Rack) : Snapshot := .rack r.mean r.rate r.spread r.members r.split r.drill

/-- A rack is replaced; a change of its state is kept as the last transition and given to the report engine (R138,
R151). -/
def State.replaceRack (s : State) (k : Nat) (r : Rack) : State :=
  let old := (s.mon.rack k).state
  if old = r.state then s.setMon (s.mon.modifyRack k fun _ => r)
  else
    let r' := { r with lastTransition := some s.clock.runCounter }
    (s.setMon (s.mon.modifyRack k fun _ => r')).transition (.rack k) (.rack old) (.rack r.state) r'.snapshot

/-- The members of a rack, by index (R138). -/
def Monitor.membersOf (m : Monitor) (k : Nat) : List Nat :=
  (m.origins.zipIdx.filter fun e => e.1.enabled && e.1.rack == k).map (·.2)

/-! ## Samples (R140 to R142) -/

/-- The filter: F moves by one 2^w-th of the difference (R142). -/
def filterStep (w : Nat) (filtered sample : Int) : Int := filtered + roundDiv (sample - filtered) (2 ^ w)

/-- An entry's state, F and sample count after a sample (R142). -/
def OriginEntry.learn (e : OriginEntry) (w settle : Nat) (x : Int) : OriginEntry :=
  match e.state with
  | .unseen => { e with filtered := some x, sampleCount := 1, state := if settle = 1 then .tracking else .settling }
  | .silent => { e with filtered := some x, sampleCount := 1, state := if settle = 1 then .tracking else .settling }
  | .settling =>
    { e with filtered := some (filterStep w (e.filtered.getD 0) x), sampleCount := count16 e.sampleCount
             state := if settle ≤ count16 e.sampleCount then .tracking else .settling }
  | .tracking => { e with filtered := some (filterStep w (e.filtered.getD 0) x), sampleCount := count16 e.sampleCount }
  | .stray => { e with filtered := some (filterStep w (e.filtered.getD 0) x), sampleCount := count16 e.sampleCount }

/-- An entry with a sample applied at a run-counter reading (R142). -/
def OriginEntry.take (e : OriginEntry) (w settle : Nat) (query : Bool) (x : Int) (now : BitVec 32) : OriginEntry :=
  { e.learn w settle x with
    lastSample := some x
    lastAt := some now
    queryCount := if query then count16 e.queryCount else e.queryCount
    storageCount := if query then e.storageCount else count16 e.storageCount }

/-- A sample is applied to an entry, the rack's drill offset added first (R142). -/
def Monitor.applySample (m : Monitor) (j : Nat) (query : Bool) (sample : Int) (now : BitVec 32) : Monitor :=
  let x := saturateOffset (sample + (m.rack (m.origin j).rack).config.drillOffset)
  m.modifyOrigin j fun e => e.take m.filterExp m.settleCount query x now

/-- IGNORED_SAMPLE increases by 1. -/
def Monitor.ignore (m : Monitor) : Monitor := { m with ignoredSample := count16 m.ignoredSample }

/-- A Query sample handed over by the south server (R140). -/
def Monitor.takeQuerySample (m : Monitor) (j : Nat) (sample : Int) (now : BitVec 32) : Monitor :=
  if (m.origin j).enabled && (m.rack (m.origin j).rack).config.enabled then m.applySample j true sample now
  else m.ignore

/-- The rack of an entry takes storage samples (R141). -/
def Monitor.takesStorage (m : Monitor) (j : Nat) : Bool :=
  let c := (m.rack (m.origin j).rack).config
  c.enabled && c.storageSamples

/-- The storage sample of an entry, with the nominal delay its rack then has, from the issue stamp less the arrival stamp
(R141). -/
def Monitor.storageOffset (m : Monitor) (j : Nat) (residual : Int) : Int :=
  saturateOffset (fuToNs (residual + (m.rack (m.origin j).rack).config.nominalDelay * fuPerNs))

/-- A SAMPLE hand-off: a storage sample is held for the frame's end, or a count says why none is (R141). -/
def Monitor.sampleHandoff (m : Monitor) (line : Line) (source : Address) (issue : RawStamp) (arrival : Int) : Monitor :=
  match m.lookup source with
  | some j =>
    if m.takesStorage j then
      let residual := issue.fineUnits - arrival
      m.setHeldSample line (some
        { index := j, source := source, residual := residual, sample := m.storageOffset j residual })
    else m.ignore
  | none => { m with unknownStorage := count16 m.unknownStorage }

/-- A frame-end event reaches the monitor: the held sample is tested again and applied, or ignored (R141). It is applied with
the nominal delay its rack then has, which a write since the hand-off may have given it (R139; DEDUCED, log entry 61; the rack
is the one the entry then names, DESIGN CHOICE, log entry 68). -/
def Monitor.frameEnd (m : Monitor) (line : Line) (good : Bool) (now : BitVec 32) : Monitor :=
  match m.heldSample line with
  | some h =>
    let n := m.setHeldSample line none
    if good && (n.origin h.index).enabled && (n.origin h.index).source == h.source && n.takesStorage h.index then
      n.applySample h.index false (n.storageOffset h.index h.residual) now
    else n.ignore
  | none => m

/-! ## Evaluation (R143 to R150) -/

/-- The silence test finds a member silent (R144). -/
def OriginEntry.fallsSilent (e : OriginEntry) (silence : Nat) (now : BitVec 32) : Bool :=
  (e.state == .settling || e.state == .tracking || e.state == .stray) &&
    match e.lastAt with
    | some t => silence * 1000 ≤ (now - t).toNat
    | none => false

/-- The silence test on one member (R144). -/
def State.silenceMember (s : State) (j : Nat) : State :=
  if (s.mon.origin j).fallsSilent s.mon.silence s.clock.runCounter then s.setServer j .silent else s

/-- A member in TRACKING or STRAY. -/
def OriginEntry.isCandidate (e : OriginEntry) : Bool := e.state == .tracking || e.state == .stray

/-- The candidates of a rack, by index (R145). -/
def Monitor.candidates (m : Monitor) (k : Nat) : List Nat := (m.membersOf k).filter fun j => (m.origin j).isCandidate

/-- F of an entry. -/
def Monitor.offsetOf (m : Monitor) (j : Nat) : Int := (m.origin j).filtered.getD 0

/-- The mean of a list of offsets, rounded toward zero (R146). -/
def meanOf (l : List Int) : Int := l.sum.tdiv l.length

/-- The largest of some offsets less the smallest; absent of none (R145). -/
def spreadOf : List Int → Option Int
  | [] => none
  | x :: l => some (l.foldl max x - l.foldl min x)

/-- A candidate lies within the stray limit of R0 (R145). -/
def withinStray (mean limit : Int) (x : Int) : Bool := ((x - mean).natAbs : Int) ≤ limit

/-- Setting every distant candidate aside would leave fewer than half (R145). -/
def tooFewRemain (offsets : List Int) (limit : Int) : Bool :=
  3 ≤ offsets.length && 2 * (offsets.filter (withinStray (meanOf offsets) limit)).length < offsets.length

/-- The state that stray exclusion gives a candidate (R145). -/
def sortCandidate (offsets : List Int) (limit x : Int) : ServerState :=
  if offsets.length < 3 ∨ tooFewRemain offsets limit ∨ withinStray (meanOf offsets) limit x then .tracking else .stray

/-- Stray exclusion on a rack's candidates, with S and SPLIT (R145). -/
def State.excludeStrays (s : State) (k : Nat) : State :=
  let candidates := s.mon.candidates k
  let offsets := candidates.map s.mon.offsetOf
  let config := (s.mon.rack k).config
  let t := candidates.foldl
    (fun t j => t.setServer j (sortCandidate offsets config.strayLimit (s.mon.offsetOf j))) s
  t.setMon (t.mon.modifyRack k fun r =>
    { r with
      spread := spreadOf offsets
      split := tooFewRemain offsets config.strayLimit ||
        match spreadOf offsets with
        | some x => config.spreadLimit ≤ x
        | none => false })

/-- The rack's figures over its TRACKING members, and DRILL (R142, R146). -/
def Monitor.rackFigures (m : Monitor) (k : Nat) : Rack :=
  let offsets := ((m.membersOf k).filter fun j => (m.origin j).state == .tracking).map m.offsetOf
  let r := m.rack k
  let mean := if offsets.isEmpty then none else some (meanOf offsets)
  { r with
    members := offsets.length
    mean := mean
    rate :=
      match mean with
      | some x => if r.prevValid then some ((x - r.prevMean).tdiv m.interval) else none
      | none => none
    drill := r.config.drillOffset != 0 }

/-- A figure is present and, without sign, at least a level. -/
def reaches (x : Option Int) (level : Int) : Bool :=
  match x with
  | some v => level ≤ v.natAbs
  | none => false

/-- The rack's candidate level (R149). -/
def Rack.candidate (r : Rack) : Level :=
  if reaches r.mean r.config.effDriftOn || reaches r.rate r.config.rateOn then .drifting
  else if r.state == .drifting && (reaches r.mean r.config.effDriftOff || reaches r.rate r.config.rateOff) then
    .drifting
  else if reaches r.mean r.config.watchOn then .watch
  else if (r.state == .watch || r.state == .drifting) && reaches r.mean r.config.effWatchOff then .watch
  else .inStep

/-- The state that stands for a level. -/
def Level.state : Level → RackState
  | .inStep => .inStep
  | .watch => .watch
  | .drifting => .drifting

/-- The rack with a pending candidate counted, or taken where the count confirms it (R150). -/
def Rack.pend (r : Rack) (state : RackState) (candidate : Level) (count : Nat) : Rack :=
  if r.config.confirm ≤ count then { r with state := candidate.state, pending := none, pendingCount := 0 }
  else { r with state := state, pending := some candidate, pendingCount := count }

/-- The rack's state follows its candidate by confirmation (R150). -/
def Rack.confirm (r : Rack) (candidate : Level) : Rack :=
  if r.state = .quiet ∨ r.state = .unjudged then
    if candidate = .inStep then { r with state := .inStep, pending := none, pendingCount := 0 }
    else r.pend .inStep candidate 1
  else if r.state = candidate.state then { r with pending := none, pendingCount := 0 }
  else if r.pending = some candidate then r.pend r.state candidate (r.pendingCount + 1)
  else r.pend r.state candidate 1

/-- The gate is closed (R147). -/
def State.gateClosed (s : State) : Bool :=
  s.mon.judgeLimit < s.servo.uncertainty || 0 < s.mon.settleCounter

/-- R_prev at the end of a rack's evaluation (R146). Where it becomes invalid its value is left as it was (DESIGN CHOICE, log
entry 62). -/
def Rack.closeEvaluation (r : Rack) (judged : Bool) : Rack :=
  match r.mean with
  | some x => if judged then { r with prevMean := x, prevValid := true } else { r with prevValid := false }
  | none => { r with prevValid := false }

/-- A rack's judgement over the figures formed for it (R147, R149, R150). -/
def Rack.judge (r : Rack) (closed : Bool) : Rack :=
  if r.members = 0 then
    { r with state := .quiet, pending := none, pendingCount := 0, rate := none }.closeEvaluation false
  else if closed then { r with state := .unjudged, pending := none, pendingCount := 0 }.closeEvaluation false
  else (r.confirm r.candidate).closeEvaluation true

/-- The evaluation of one rack (R144 to R150). Its members are taken by index, so their transitions come in that order
(DESIGN CHOICE, log entry 53). -/
def State.evaluateRack (s : State) (k : Nat) : State :=
  if (s.mon.rack k).config.enabled then
    let t := ((s.mon.membersOf k).foldl State.silenceMember s).excludeStrays k
    t.replaceRack k ((t.mon.rackFigures k).judge t.gateClosed)
  else s

/-- An evaluation: each enabled rack in index order, then the settle counter and the next expiry (R143, R148). -/
def State.evaluate (s : State) : State :=
  let t := (List.range 32).foldl State.evaluateRack s
  t.setMon { t.mon with settleCounter := t.mon.settleCounter - 1, evalIn := t.mon.interval * 1000 }

/-! ## Writes -/

/-- An origin entry's configured fields are replaced, and it returns to UNSEEN (R137). -/
def State.writeOrigin (s : State) (j : Nat) (enabled : Bool) (source : Address) (rack : Nat) : State :=
  s.replaceOrigin j { OriginEntry.initial with enabled := enabled, source := source, rack := rack }

/-- A rack that is disabled: its members return to UNSEEN, and it becomes QUIET (R139). -/
def State.disableRack (s : State) (k : Nat) (config : RackConfig) : State :=
  let t := (s.mon.membersOf k).foldl (fun t j => t.replaceOrigin j (t.mon.origin j).unseen) s
  t.replaceRack k { Rack.cleared config with lastTransition := (t.mon.rack k).lastTransition }

/-- A rack's configured fields are replaced, with the effect of R139. -/
def State.writeRack (s : State) (k : Nat) (config : RackConfig) : State :=
  if (s.mon.rack k).config.enabled && !config.enabled then s.disableRack k config
  else s.setMon (s.mon.modifyRack k fun r => { r with config := config })

/-- An entry's state under a new n_s (R142). -/
def OriginEntry.resettle (e : OriginEntry) (settle : Nat) : ServerState :=
  match e.state with
  | .tracking => if e.sampleCount < settle then .settling else .tracking
  | .stray => if e.sampleCount < settle then .settling else .stray
  | .settling => if settle ≤ e.sampleCount then .tracking else .settling
  | other => other

/-- A write of n_s (R142). The entries are taken by index, so their transitions come in that order (DESIGN CHOICE, log entry
53). -/
def State.writeSettle (s : State) (settle : Nat) : State :=
  (List.range s.mon.origins.length).foldl
    (fun t j => t.setServer j ((t.mon.origin j).resettle settle)) (s.setMon { s.mon with settleCount := settle })

/-- A write of E: the expiry scheduled keeps its place, and every R_prev is invalid (R143, R146), its value left as it was
(DESIGN CHOICE, log entry 62). -/
def Monitor.writeInterval (m : Monitor) (interval : Nat) : Monitor :=
  { m with interval := interval, racks := m.racks.map fun r => { r with prevValid := false } }

end Sys2Proof.Machine
end

