-- ==== Sys2Proof/Machine/South.lean ====
section
/-! DEFINITION. The south server: the taking of Queries (R109, R110, R113, R114) and the Grade (R115, R116). -/

namespace Sys2Proof.Machine

/-- The server offset sample (R114). -/
def serverOffset (f : QueryFields) (reported : Nat) (t2 : Int) : Int :=
  saturateOffset (fuToNs (f.t1.fineUnits + reported * fuPerNs + f.correction - t2))

/-- A readable Query is offered for sampling (R113). -/
def State.sampleQuery (s : State) (f : QueryFields) (source : Address) (t2 : Int) : State :=
  match s.mon.lookup source with
  | none => s.setSouth { s.south with unknownOrigin := count16 s.south.unknownOrigin }
  | some j =>
    match f.reported with
    | none => s
    | some d =>
      if 10000000 < d ∨ f.t1.isInstant = false then
        s.setSouth { s.south with badReport := count16 s.south.badReport }
      else s.setMon (s.mon.takeQuerySample j (serverOffset f d t2) s.clock.runCounter)

/-- The reply-queue entry of a Query (R110). Its domain is the frame's own, which fixed recognition found equal to the
south domain (R28). -/
def State.replyEntry (s : State) (bytes : List Byte) (f : QueryFields) (source : Address) (t2 : Int) : ReplyEntry where
  requester := source
  tag := tagOf bytes
  domain := ((payloadByte bytes 2).map BitVec.toNat).getD s.south.domain
  senderId := f.senderId
  seq := f.seq
  t2 := t2
  cFwd := f.correction
  takenAt := s.clock.runCounter

/-- A Query joins the reply queue, or is dropped (R109, R110); the head becomes a Reply where a place is free (R111). -/
def State.queueReply (s : State) (e : ReplyEntry) : State :=
  if s.south.queue.length < 16 then (s.setSouth { s.south with queue := s.south.queue ++ [e] }).fill .south
  else s.setSouth { s.south with droppedQuery := count16 s.south.droppedQuery }

/-- The south server takes a Query with its held arrival stamp (R109). -/
def State.takeQueryFrame (s : State) (bytes : List Byte) (t2 : Int) : State :=
  match readQuery bytes, sourceOf bytes with
  | some f, some source =>
    if isGroup source then s.setSouth { s.south with badQuery := count16 s.south.badQuery }
    else (s.sampleQuery f source t2).queueReply (s.replyEntry bytes f source t2)
  | _, _ => s.setSouth { s.south with badQuery := count16 s.south.badQuery }

/-- A Grade timer expiry: a waiting Grade is superseded, a Grade is built and offered to line S (R115, R116). -/
def State.gradeTimer (s : State) : State :=
  (s.setSouth
    { s.south with
      gradeSuperseded := if s.south.waitingGrade.isSome then count16 s.south.gradeSuperseded else s.south.gradeSuperseded
      waitingGrade := some s.buildGrade
      gradeSeq := s.south.gradeSeq + 1
      gradeAt := s.south.gradeAt + s.south.interval }).fill .south

end Sys2Proof.Machine
end

