-- ==== Sys2Proof/Machine/Passage.lean ====
section
/-! DEFINITION. The passage of frames: admission (R26), fixed recognition (R28), classification (R40 to R45), the frame's
end (R24, R26, R29), departure (R23, R31), and entry into BYPASS (R21, R22). -/

namespace Sys2Proof.Machine

/-! ## The arriving frame -/

/-- The frame that is arriving on a line. -/
def LineState.arriving (l : LineState) : Option Passage := l.buffer.find? fun p => p.status = .arriving

/-- The line with its arriving frame changed. -/
def LineState.setArriving (l : LineState) (q : Passage) : LineState :=
  { l with buffer := l.buffer.map fun p => if p.status = .arriving then q else p }

/-- The line with its arriving frame dropped or released. -/
def LineState.release (l : LineState) : LineState :=
  { l with buffer := l.buffer.filter fun p => p.status ≠ .arriving }

/-- The state with the frame arriving on a line changed. -/
def State.setArriving (s : State) (line : Line) (q : Passage) : State := s.setLine line ((s.lineAt line).setArriving q)

/-- The state with the frame arriving on a line dropped or released. -/
def State.releaseFrame (s : State) (line : Line) : State := s.setLine line (s.lineAt line).release

/-! ## Admission (R26) -/

/-- The passage record of an admitted frame (R23, R24, R40). -/
def State.newPassage (s : State) (bytes : List Byte) : Passage where
  bytes := bytes
  treatment := s.lines.mode
  arrival := if s.lines.mode = .active then some s.clock.value else none
  firstAt := s.clock.osc
  notedBank := if s.lines.mode = .active then some s.cls.active else none
  payloadStarted := false
  classification := if s.lines.mode = .active then some .pending else none
  consumer := none
  edits := []
  status := .arriving
  departedAt := none
  residence := none
  cutAt := none

/-- The room for a frame of the greatest length is free (R26). -/
def State.admits (s : State) (line : Line) : Bool := 9216 ≤ 65536 - occupancy (s.lineAt line).buffer s.clock.osc

/-- A frame's first byte arrives (R26). A boot-BYPASS frame is ready at once (R25). -/
def State.firstByte (s : State) (line : Line) (bytes : List Byte) : State :=
  let l := s.lineAt line
  if bytes.isEmpty || l.arriving.isSome then s
  else if s.admits line then
    let t := s.setLine line { l with buffer := l.buffer ++ [s.newPassage bytes] }
    if s.lines.mode = .boot then t.pickIfIdle line.other else t
  else s.setLine line { l with overruns := count16 l.overruns }

/-! ## Fixed recognition (R28) -/

/-- A frame is addressed to the part. -/
def State.addressed (s : State) (bytes : List Byte) : Bool := destinationOf bytes == some s.agent.address

/-- A management frame addressed to the part. -/
def State.recognizesManagement (s : State) (bytes : List Byte) : Bool :=
  s.addressed bytes && typeOf bytes == some s.lines.managementType

/-- The block that takes a timing frame addressed to the part, by its kind, line and domain (R28, R176). -/
def State.timingConsumer (s : State) (line : Line) (bytes : List Byte) : Consumer :=
  match payloadByte bytes 1, payloadByte bytes 2 with
  | some kind, some domain =>
    if kind = kindReply ∧ line = .north ∧ domain.toNat = s.exch.northDomain then .exchange
    else if kind = kindQuery ∧ line = .south ∧ domain.toNat = s.south.domain then .south
    else .nobody
  | _, _ => .nobody

/-- Fixed recognition in ACTIVE: who consumes the frame, if it is consumed (R28). -/
def State.recognize (s : State) (line : Line) (bytes : List Byte) : Option Consumer :=
  if s.recognizesManagement bytes then some .agent
  else if s.addressed bytes && typeOf bytes == some s.lines.timingType then some (s.timingConsumer line bytes)
  else none

/-! ## Classification (R30, R40 to R45) -/

/-- A passing frame receives a correction add (R30, R176). -/
def State.corrects (s : State) (bytes : List Byte) : Bool :=
  s.lines.transitCorrection && typeOf bytes == some s.lines.timingType && payloadByte bytes 0 == some timingVersion
    && fieldInside bytes 14 8

/-- The index of the matched entry: the first of the noted bank that fits (R43). -/
def State.matched (s : State) (line : Line) (p : Passage) : Option Nat :=
  match p.notedBank with
  | some b => (s.cls.entries b).findIdx? fun e => e.fits line p.bytes
  | none => none

/-- An entry of the bank noted for a frame. -/
def State.notedEntry (s : State) (p : Passage) (k : Nat) : ClassEntry :=
  match p.notedBank with
  | some b => (s.cls.entries b).getD k .blank
  | none => .blank

/-- The issue stamp of a SAMPLE entry, where it is there and is an instant (R45). -/
def ClassEntry.issueStamp (e : ClassEntry) (bytes : List Byte) : Option RawStamp :=
  match e.issueOffset with
  | some n =>
    match shortStampAt bytes (payloadStart bytes + n) with
    | some r => if r.isInstant then some r else none
    | none => none
  | none => none

/-- The SAMPLE hand-off of a matched entry (R45). -/
def State.sampleAction (s : State) (line : Line) (p : Passage) (e : ClassEntry) (source : Address) : State :=
  match if e.sample then e.issueStamp p.bytes else none with
  | some issue => s.setMon (s.mon.sampleHandoff line source issue (p.arrival.getD 0))
  | none => s

/-- The DATE hand-off of a matched entry (R44), given the s of the storage sample of the same frame (R122). -/
def State.handoffOf (s : State) (line : Line) (p : Passage) (k : Nat) (e : ClassEntry) (source : Address) :
    DateHandoff where
  stream := k
  arrival := p.arrival.getD 0
  offset := e.datingOffset
  stampOffset := e.stampOffset
  source := source
  line := line
  payloadStart := payloadStart p.bytes
  issue := if e.sample then (s.mon.heldSample line).map (·.sample) else none

/-- The stamp-field write of a dated frame (R44, R123). -/
def stampEdit (e : ClassEntry) (date : Nat) : List Edit :=
  match e.stampOffset with
  | some n => [.stampField n date]
  | none => []

/-- The actions of the matched entry: SAMPLE first, then DATE (R45); what is added to the edit list comes with them. A
frame of fewer than 64 bytes has its hand-offs withdrawn (R125). -/
def State.actions (s : State) (line : Line) (p : Passage) (k : Nat) (e : ClassEntry) : State × List Edit :=
  match sourceOf p.bytes with
  | some source =>
    if p.bytes.length < 64 then (s, [])
    else
      let t := s.sampleAction line p e source
      if e.date then
        let h := t.handoffOf line p k e source
        (t.settle h, stampEdit e (t.dater.settled h).1)
      else (t, [])
  | none => (s, [])

/-- The match count of an index increases by 1 (R43). -/
def State.countMatch (s : State) (k : Nat) : State :=
  s.setCls { s.cls with matchCounts := s.cls.matchCounts.modify k count32 }

/-- The classifier works on a passing frame; what it adds to the edit list comes with the state (R43 to R45). -/
def State.runClassifier (s : State) (line : Line) (p : Passage) : State × List Edit :=
  match s.matched line p with
  | some k => (s.countMatch k).actions line p k (s.notedEntry p k)
  | none => (s, [])

/-- A frame is consumed; a MISDIRECTED one is counted at recognition (R28, R29). -/
def State.consume (s : State) (line : Line) (p : Passage) (c : Consumer) : State :=
  let t := s.setArriving line { p with classification := some .complete, consumer := some c }
  if c = .nobody then
    t.setLine line { t.lineAt line with misdirected := count16 (t.lineAt line).misdirected }
  else t

/-- A passing frame completes its classification and is ready (R24, R25, R30). -/
def State.passOn (s : State) (line : Line) (p : Passage) : State :=
  let first : List Edit := if s.corrects p.bytes then [.correctionAdd] else []
  let r := s.runClassifier line p
  (r.1.setArriving line { p with classification := some .complete, edits := first ++ r.2 }).pickIfIdle line.other

/-- Classification completes for the frame arriving on a line, where it is pending (R24). -/
def State.completeClassification (s : State) (line : Line) : State :=
  match (s.lineAt line).arriving with
  | some p =>
    if p.classification = some .pending then
      match s.recognize line p.bytes with
      | some c => s.consume line p c
      | none => s.passOn line p
    else s
  | none => s

/-- The payload start of a commanded-BYPASS frame arrives (R25, R28). -/
def State.startPayload (s : State) (line : Line) : State :=
  match (s.lineAt line).arriving with
  | some p =>
    if p.treatment = .commanded ∧ p.consumer = none ∧ p.payloadStarted = false
        ∧ payloadStart p.bytes < p.bytes.length then
      if s.recognizesManagement p.bytes then
        s.setArriving line { p with payloadStarted := true, consumer := some .agent }
      else (s.setArriving line { p with payloadStarted := true }).pickIfIdle line.other
    else s
  | none => s

/-! ## Requests are taken (R165) -/

/-- The request is readable (R165, R179). -/
def requestReadable (body : List Byte) : Bool := body[0]? == some 1 && body[1]? == some 1 && 6 ≤ body.length

/-- The manager list admits a source on a line (R165). -/
def Agent.allows (a : Agent) (line : Line) (source : Address) : Bool :=
  (line == .north || a.southManagement) &&
    (a.managers.all (·.isNone) || a.managers.any (· == some source))

/-- The management agent takes a frame (R165). -/
def State.takeRequest (s : State) (line : Line) (bytes : List Byte) : State :=
  match sourceOf bytes with
  | some source =>
    if requestReadable (payloadOf bytes) && !isGroup source then
      if s.agent.allows line source then
        if s.agent.queue.length < 4 then
          s.setAgent { s.agent with queue := s.agent.queue ++
            [{ line := line, source := source, tag := tagOf bytes, body := payloadOf bytes }] }
        else s.setAgent { s.agent with queueFull := count16 s.agent.queueFull }
      else s.setAgent { s.agent with disallowed := count16 s.agent.disallowed }
    else s.setAgent { s.agent with malformed := count16 s.agent.malformed }
  | none => s.setAgent { s.agent with malformed := count16 s.agent.malformed }

/-! ## The frame's end (R24, R26, R29) -/

/-- A consumed frame that ended good is given to its block (R29). -/
def State.deliver (s : State) (line : Line) (c : Consumer) (bytes : List Byte) (arrival : Int) : State :=
  match c with
  | .agent => s.takeRequest line bytes
  | .exchange => s.takeReplyFrame bytes arrival
  | .south => s.takeQueryFrame bytes arrival
  | .nobody => s

/-- The frame-end event reaches the blocks that received hand-offs (R24). -/
def State.frameEndEvent (s : State) (line : Line) (good : Bool) (length : Nat) : State :=
  (s.setMon (s.mon.frameEnd line good s.clock.runCounter)).closeDate line good length

/-- A length error is counted (R26). -/
def State.countLength (s : State) (line : Line) : State :=
  s.setLine line { s.lineAt line with lengthErrors := count16 (s.lineAt line).lengthErrors }

/-- An arbiter whose picked passing frame has been dropped picks again. -/
def State.repickDropped (s : State) (line : Line) : State :=
  if (s.lineAt line).transmit = .pickedPassing ∧ oldestPassing (s.feeding line) = none then s.pick line else s

/-- The arriving frame is dropped (R26). It stands last in its buffer, so an arbiter that had picked it finds no passing
frame there. -/
def State.dropArriving (s : State) (line : Line) : State := (s.releaseFrame line).repickDropped line.other

/-- A frame of fewer than 64 bytes ends (R26). One that has begun to leave in BYPASS leaves with its arrival bytes (log
entry 8). -/
def State.endShort (s : State) (line : Line) (p : Passage) : State :=
  let t := s.countLength line
  if p.departedAt.isSome then t.setArriving line { p with status := .bad } else t.dropArriving line

/-- A frame of legal length ends (R24, R26, R29). -/
def State.endLegal (s : State) (line : Line) (p : Passage) : State :=
  let good := checkGood p.bytes
  let l := s.lineAt line
  let t := s.setLine line { l with badCheck := if good then l.badCheck else count16 l.badCheck }
  match p.consumer with
  | some c =>
    let u := (t.releaseFrame line).frameEndEvent line good p.bytes.length
    if good then u.deliver line c p.bytes (p.arrival.getD 0) else u
  | none =>
    (t.setArriving line { p with status := if good then .good else .bad }).frameEndEvent line good p.bytes.length

/-- What must have come about before a frame's last byte (R24, R25). -/
def Passage.mayEnd (p : Passage) : Bool :=
  match p.treatment with
  | .active => p.classification == some .complete
  | .commanded => p.consumer.isSome || p.payloadStarted || p.bytes.length ≤ payloadStart p.bytes
  | .boot => true

/-- The last byte of the frame arriving on a line (R24). -/
def State.endFrame (s : State) (line : Line) : State :=
  match (s.lineAt line).arriving with
  | some p =>
    if p.mayEnd && p.bytes.length ≤ 9216 then
      if p.bytes.length < 64 then s.endShort line p else s.endLegal line p
    else s
  | none => s

/-- A frame reaches its 9,217th byte (R26, R125). What has been sent of it by then is where its transmission ends (log
entry 9). -/
def State.overlong (s : State) (line : Line) (p : Passage) : State :=
  let t := s.countLength line
  let u :=
    if p.departedAt.isSome then t.setArriving line { p with status := .bad, cutAt := some (min 9217 (p.sent s.clock.osc)) }
    else t.dropArriving line
  u.frameEndEvent line false p.bytes.length

/-- The 9,217th byte of the frame arriving on a line (R26). -/
def State.reachOverlength (s : State) (line : Line) : State :=
  match (s.lineAt line).arriving with
  | some p => if p.mayEnd && 9216 < p.bytes.length then s.overlong line p else s
  | none => s

/-! ## Departure and the end of transmission -/

/-- The line with its oldest passing frame changed. -/
def LineState.updateOldest (l : LineState) (f : Passage → Passage) : LineState :=
  match l.buffer.findIdx? fun p => p.consumer.isNone with
  | some i => { l with buffer := l.buffer.modify i f }
  | none => l

/-- The line with its oldest passing frame gone. -/
def LineState.removeOldest (l : LineState) : LineState :=
  match l.buffer.findIdx? fun p => p.consumer.isNone with
  | some i => { l with buffer := l.buffer.eraseIdx i }
  | none => l

/-- A frame begins to leave: its departure is noted, and the residence formed where it has an arrival stamp (R23, log
entry 32). -/
def Passage.depart (p : Passage) (c : Clock) : Passage :=
  { p with departedAt := some c.osc, residence := p.arrival.map fun a => ((c.value : Int) - a) % timescaleRange }

/-- The oldest passing frame begins to leave by a line (R23). -/
def State.departPassing (s : State) (line : Line) : State :=
  let t := s.setLine line.other ((s.lineAt line.other).updateOldest (·.depart s.clock))
  t.setLine line { t.lineAt line with transmit := .sendingPassing }

/-- A RESET response begins to leave: its hold may end (R171). -/
def Agent.releaseHold (a : Agent) : Agent := { a with hold := a.hold.map fun h => { h with released := true } }

/-- What the departure of an own frame tells its block (R58, R171). -/
def State.tellDeparture (s : State) (f : OwnFrame) : State :=
  let t :=
    match f.queryNumber with
    | some number => s.setExch (s.exch.departed number s.clock.value s.clock.runCounter)
    | none => s
  if f.resetResponse then t.setAgent t.agent.releaseHold else t

/-- The own frame at a place of a line's origin queue begins to leave (R31, R32). -/
def State.departOwn (s : State) (line : Line) (i : Nat) : State :=
  let l := s.lineAt line
  match l.origin[i]? with
  | some f =>
    ((s.setLine line
        { l with
          origin := l.origin.eraseIdx i
          transmit := .sendingOwn (f.departing s.clock.value s.ownClass s.servo.uncertainty) }).tellDeparture f).fill
      line
  | none => s.setLine line { l with transmit := .idle }

/-- The frame a line's arbiter has picked begins to leave (R23, R33). -/
def State.departFrame (s : State) (line : Line) : State :=
  match (s.lineAt line).transmit with
  | .pickedOwn i => s.departOwn line i
  | .pickedPassing => s.departPassing line
  | _ => s

/-- A line has wholly sent these bytes, and its arbiter makes a pick (R33). -/
def State.finishSending (s : State) (line : Line) (bytes : List Byte) : State :=
  (s.setLine line { s.lineAt line with egress := some bytes, transmit := .idle }).pick line

/-- A line finishes sending a frame (R27, R33). A passing frame's egress does not overtake its ingress (R25). -/
def State.endTransmit (s : State) (line : Line) : State :=
  match (s.lineAt line).transmit with
  | .sendingOwn bytes => s.finishSending line (bytes ++ checkSequence bytes)
  | .sendingPassing =>
    match oldestPassing (s.feeding line) with
    | some p =>
      if p.status = .arriving then s
      else (s.setLine line.other (s.lineAt line.other).removeOldest).finishSending line p.sentBytes
    | none => s
  | _ => s

/-! ## Entry into BYPASS and return to ACTIVE (R20 to R22) -/

/-- A frame in passage that has neither begun to leave nor been consumed. -/
def Passage.waits (p : Passage) : Bool := p.departedAt.isNone && p.consumer.isNone

/-- A frame becomes a BYPASS frame (R22). -/
def Passage.toBypass (p : Passage) (treatment : LineMode) (osc : Nat) : Passage :=
  { p with
    treatment := treatment
    arrival := none
    classification := none
    edits := []
    payloadStarted := payloadStart p.bytes < p.bytes.length &&
      (p.classification == some .complete || p.status != .arriving || payloadStart p.bytes < p.arrived osc) }

/-- A frame in passage meets the entry into commanded BYPASS (R22). -/
def State.convertFrame (s : State) (p : Passage) : Passage :=
  if p.waits && p.treatment == .active then
    let q := p.toBypass .commanded s.clock.osc
    if q.payloadStarted && s.recognizesManagement q.bytes then { q with consumer := some .agent } else q
  else p

/-- A converted frame that has been consumed and has already ended leaves the buffer for the agent (R22, R29). R22 gives no
instant for it; the model gives it at its conversion, and the frames of line N before those of line S (DESIGN CHOICE, log
entry 48). -/
def State.settleConverted (s : State) (line : Line) : State :=
  let l := s.lineAt line
  let ended := l.buffer.filter fun p => p.consumer.isSome && p.status != .arriving
  let t := s.setLine line { l with buffer := l.buffer.filter fun p => p.consumer.isNone || p.status == .arriving }
  ended.foldl (fun t p => if p.status = .good then t.takeRequest line p.bytes else t) t

/-- The frames in one buffer meet the entry into commanded BYPASS (R22). -/
def State.convertLine (s : State) (line : Line) : State :=
  (s.setLine line { s.lineAt line with buffer := (s.lineAt line).buffer.map s.convertFrame }).settleConverted line

/-- An arbiter takes account of the entry into BYPASS: a frame picked and not begun is picked again, and an idle line
whose passing frame has become ready picks it (R33). -/
def State.reconsider (s : State) (line : Line) : State := (s.repick line).pickIfIdle line

/-- Entry into commanded BYPASS (R21, R22). -/
def State.enterBypass (s : State) : State :=
  let t := s.setLines { s.lines with mode := .commanded }
  (((t.convertLine .north).convertLine .south).reconsider .north).reconsider .south

/-- The line pair enters ACTIVE, and each idle arbiter makes a pick (R20, R21, R33). -/
def State.enterActive (s : State) : State :=
  ((s.setLines { s.lines with mode := .active }).pickIfIdle .north).pickIfIdle .south

end Sys2Proof.Machine
end

