-- ==== Sys2Proof/Machine/Items.lean ====
section
/-! DEFINITION. The reading of a management request: its command, its items and their content (R168, R177 to R179). -/

namespace Sys2Proof.Machine

/-! ## A request's bytes -/

/-- The request's tag, two bytes at offset 2 (R177). -/
def Request.tagBytes (r : Request) : List Byte := (r.body.drop 2).take 2

/-- The command byte (R177). -/
def Request.command (r : Request) : Nat := beNat ((r.body.drop 4).take 1)

/-- The item count (R177). -/
def Request.count (r : Request) : Nat := beNat ((r.body.drop 5).take 1)

/-- A number of items, each a 2-byte length and so many bytes; none where they do not all lie there (R177, R179). -/
def parseItems : Nat → List Byte → Option (List (List Byte))
  | 0, _ => some []
  | n + 1, bytes => do
    let length ← natAt bytes 0 2
    let content ← bytesAt bytes 2 length
    let rest ← parseItems n (bytes.drop (2 + length))
    return content :: rest

/-- The contents of the request's items (R179). -/
def Request.contents (r : Request) : Option (List (List Byte)) := parseItems r.count (r.body.drop 6)

/-- The command is one of the eleven (R168, R179). -/
def Request.known (r : Request) : Bool := 1 ≤ r.command && r.command ≤ 11

/-- The command has no item list: COPY, SWAP and SUMMARY (R168). -/
def Request.bare (r : Request) : Bool := r.command == 3 || r.command == 4 || r.command == 9

/-- The item count suits the command (R168). -/
def Request.countSuits (r : Request) : Bool :=
  if r.bare then r.count == 0
  else if r.command ≤ 2 then 1 ≤ r.count && r.count ≤ 16
  else r.count == 1

/-- The request's items can be handled one by one (R168). -/
def Request.itemized (r : Request) : Bool := r.known && r.countSuits && r.contents.isSome

/-- How many response items the request will have (R180). -/
def Request.responseItems (r : Request) : Nat := if r.bare then 1 else r.count

/-! ## Items -/

/-- What an item asks for, once its form has been found right (R178, R179). -/
inductive ReqItem where
  | readSettings (ids : List Nat)
  | readClass (shadow : Bool) (first count : Nat)
  | readOrigin (first count : Nat)
  | readRack (first count : Nat)
  | readManagers
  | readMatch (first count : Nat)
  | readStream (first count : Nat)
  | readCounts (block : Nat)
  | readStatus (block : Nat)
  | writeSetting (id : Nat) (value : BitVec 64)
  | writeClass (index line : Nat) (entry : ClassEntry)
  | writeOrigin (index : Nat) (enabled : Bool) (source : Address) (rack : Nat)
  | writeRack (index : Nat) (config : RackConfig)
  | writeManager (index : Nat) (value : BitVec 64)
  | copy
  | swap
  | servoAuto
  | servoHeld
  | servoAlign
  | servoSetRate (rate : Int)
  | setTime (target : RawStamp)
  | captureRead
  | captureNow
  | clear (dateGap noticeOverflow : Bool)
  | summary
  | bypassOn
  | bypassOff
  | resetWarm
  | resetFull
  deriving DecidableEq, Repr

/-- A presence or flag byte: 0 or 1 (R178). -/
def flagAt (bytes : List Byte) (offset : Nat) : Option Bool := do
  let b ← natAt bytes offset 1
  if b = 0 then some false else if b = 1 then some true else none

/-- An 8-byte value (R177). -/
def valueAt (bytes : List Byte) (offset : Nat) : Option (BitVec 64) := (natAt bytes offset 8).map (BitVec.ofNat 64)

/-- An optional unsigned field behind its presence byte (R177, R178). Behind a clear presence byte the field's bytes may hold
anything and are not tested (DESIGN CHOICE, log entry 67). -/
def optNatAt (bytes : List Byte) (offset width : Nat) : Option (Option Nat) := do
  let present ← flagAt bytes offset
  let x ← natAt bytes (offset + 1) width
  return if present then some x else none

/-- A byte-term place (R178). Behind a clear presence byte its other bytes may hold anything and are not tested (DESIGN CHOICE,
log entry 67). -/
def termAt (bytes : List Byte) (offset : Nat) : Option (Option ByteTerm) := do
  let present ← flagAt bytes offset
  let n ← natAt bytes (offset + 1) 1
  let value ← natAt bytes (offset + 2) 1
  let mask ← natAt bytes (offset + 3) 1
  return if present then some { offset := n, value := BitVec.ofNat 8 value, mask := BitVec.ofNat 8 mask } else none

/-- The line of an entry by its code; a code that is none of the three is refused by the owner (R38, R178). -/
def entryLineOf (code : Nat) : EntryLine := if code = 0 then .north else if code = 1 then .south else .either

/-- A class-table entry's 43 bytes, its line code beside it (R178). An action bit other than bits 0 and 1 is refused here, as
an item's form, before the tests of R38, where R178 gives it no place (DESIGN CHOICE, log entry 49). -/
def parseClassEntry (b : List Byte) : Option (Nat × ClassEntry) := do
  let enabled ← flagAt b 0
  let line ← natAt b 1 1
  let typeValue ← optNatAt b 2 2
  let source ← optNatAt b 5 6
  let t0 ← termAt b 12
  let t1 ← termAt b 16
  let t2 ← termAt b 20
  let t3 ← termAt b 24
  let actions ← natAt b 28 1
  guard (actions < 4)
  let stampOffset ← optNatAt b 29 2
  let issueOffset ← optNatAt b 32 1
  let datingOffset ← intAt b 34 8
  let newStream ← flagAt b 42
  return (line,
    { enabled := enabled, line := entryLineOf line, typeValue := typeValue.map (BitVec.ofNat 16),
      source := source.map (BitVec.ofNat 48), terms := [t0, t1, t2, t3], date := actions % 2 == 1,
      sample := 2 ≤ actions, stampOffset := stampOffset, issueOffset := issueOffset, datingOffset := datingOffset,
      newStream := newStream })

/-- A rack entry's 82 bytes (R178). -/
def parseRackConfig (b : List Byte) : Option RackConfig := do
  let enabled ← flagAt b 0
  let watchOn ← intAt b 1 8
  let watchOff ← intAt b 9 8
  let driftOn ← intAt b 17 8
  let driftOff ← intAt b 25 8
  let rateOn ← intAt b 33 8
  let spreadLimit ← intAt b 41 8
  let strayLimit ← intAt b 49 8
  let confirm ← intAt b 57 8
  let nominalDelay ← intAt b 65 8
  let drillOffset ← intAt b 73 8
  let storageSamples ← flagAt b 81
  return { enabled, watchOn, watchOff, driftOn, driftOff, rateOn, spreadLimit, strayLimit, confirm, nominalDelay,
           drillOffset, storageSamples }

/-- A content of exactly so many bytes (R179). -/
def ofLength {α : Type} (content : List Byte) (length : Nat) (x : Option α) : Option α :=
  if content.length = length then x else none

/-- The content of a WRITE item (R178). -/
def parseWrite (b : List Byte) : Option ReqItem := do
  let target ← natAt b 0 1
  let index ← natAt b 1 2
  match target with
  | 0 => ofLength b 11 ((valueAt b 3).map (.writeSetting index))
  | 1 => ofLength b 46 ((parseClassEntry (b.drop 3)).map fun e => .writeClass index e.1 e.2)
  | 2 =>
    ofLength b 11 do
      let enabled ← flagAt b 3
      let source ← natAt b 4 6
      let rack ← natAt b 10 1
      return .writeOrigin index enabled (BitVec.ofNat 48 source) rack
  | 3 => ofLength b 85 ((parseRackConfig (b.drop 3)).map (.writeRack index))
  | 4 => ofLength b 11 ((valueAt b 3).map (.writeManager index))
  | _ => none

/-- A list of 2-byte setting ids. -/
def parseIds : List Byte → Option (List Nat)
  | [] => some []
  | [_] => none
  | x :: y :: rest => (parseIds rest).map (beNat [x, y] :: ·)

/-- A first index and a count of 1 to 16 (R178). -/
def rangeAt (b : List Byte) (offset : Nat) : Option (Nat × Nat) := do
  let first ← natAt b offset 2
  let count ← natAt b (offset + 2) 1
  guard (1 ≤ count ∧ count ≤ 16)
  return (first, count)

/-- The content of a READ item (R178). A bank byte other than 0 and 1 is refused here, as an item's form, before the range is
tested (DESIGN CHOICE, log entry 50). -/
def parseRead (b : List Byte) : Option ReqItem := do
  let selector ← natAt b 0 1
  match selector with
  | 0 => if 3 ≤ b.length ∧ b.length ≤ 33 then (parseIds (b.drop 1)).map .readSettings else none
  | 1 =>
    ofLength b 5 do
      let bank ← flagAt b 1
      let r ← rangeAt b 2
      return .readClass bank r.1 r.2
  | 2 => ofLength b 4 ((rangeAt b 1).map fun r => .readOrigin r.1 r.2)
  | 3 => ofLength b 4 ((rangeAt b 1).map fun r => .readRack r.1 r.2)
  | 4 => ofLength b 1 (some .readManagers)
  | 5 => ofLength b 4 ((rangeAt b 1).map fun r => .readMatch r.1 r.2)
  | 6 => ofLength b 4 ((rangeAt b 1).map fun r => .readStream r.1 r.2)
  | 7 =>
    ofLength b 2 do
      let block ← natAt b 1 1
      guard (block ∈ [0, 2, 4, 5, 6, 8])
      return .readCounts block
  | 8 =>
    ofLength b 2 do
      let block ← natAt b 1 1
      guard (1 ≤ block ∧ block ≤ 7)
      return .readStatus block
  | _ => none

/-- The operand of a SERVO item (R178). -/
def parseServo (b : List Byte) : Option ReqItem := do
  let operand ← natAt b 0 1
  match operand with
  | 0 => ofLength b 1 (some .servoAuto)
  | 1 => ofLength b 1 (some .servoHeld)
  | 2 => ofLength b 1 (some .servoAlign)
  | 3 => ofLength b 9 ((intAt b 1 8).map .servoSetRate)
  | _ => none

/-- The one-byte operand of an item, by its list of values (R178). -/
def parseOperand (b : List Byte) (values : List (Nat × ReqItem)) : Option ReqItem :=
  ofLength b 1 ((natAt b 0 1).bind fun n => (values.find? (·.1 == n)).map (·.2))

/-- What an item asks for by its command; none where it is refused with BAD_VALUE for its form (R179). -/
def parseItem (command : Nat) (content : List Byte) : Option ReqItem :=
  match command with
  | 1 => parseRead content
  | 2 => parseWrite content
  | 5 => parseServo content
  | 6 => ofLength content 12 ((stampAt content 0).map .setTime)
  | 7 => parseOperand content [(0, .captureRead), (1, .captureNow)]
  | 8 => parseOperand content [(1, .clear true false), (2, .clear false true), (3, .clear true true)]
  | 10 => parseOperand content [(0, .bypassOff), (1, .bypassOn)]
  | 11 => parseOperand content [(0, .resetWarm), (1, .resetFull)]
  | _ => none

/-- The command that is its own item (R180). -/
def bareItem (command : Nat) : ReqItem :=
  match command with
  | 3 => .copy
  | 4 => .swap
  | _ => .summary

/-- The item of a request that stands after so many items: it may be refused for its form. -/
def Request.itemAt (r : Request) (n : Nat) : Option ReqItem :=
  if r.bare then some (bareItem r.command)
  else
    match r.contents with
    | some contents =>
      match contents[n]? with
      | some content => parseItem r.command content
      | none => none
    | none => none

end Sys2Proof.Machine
end

