-- ==== Sys2Proof/Machine/Settings.lean ====
section
/-! DEFINITION. The catalogue of settings (R169): what a READ returns of each and what a WRITE does with it. -/

namespace Sys2Proof.Machine

/-! ## Outcomes of a write (R168, R180) -/

/-- A refused item: nothing is stored, and no content is answered. -/
def refuse (s : State) (status : Status) : State × ItemResult := (s, { status := status, content := [] })

/-- An item answered OK without content. -/
def accept (s : State) : State × ItemResult := (s, { status := .ok, content := [] })

/-- The answer to a numeric tuning value: OK, or CLAMPED with the stored value (R168, R180). -/
def clampResult (stored value : Int) : ItemResult :=
  if stored = value then { status := .ok, content := [] }
  else { status := .clamped, content := signedBytes 8 stored }

/-- A numeric tuning value is stored, at the nearer limit where it lies outside its range (R168). -/
def writeNumber (lo hi value : Int) (store : Int → State) : State × ItemResult :=
  (store (clampInt lo hi value), clampResult (clampInt lo hi value) value)

/-- A structural number is stored, or refused outside its range (R168). -/
def writeChoice (s : State) (limit : Nat) (value : BitVec 64) (store : Nat → State) : State × ItemResult :=
  if value.toNat ≤ limit then accept (store value.toNat) else refuse s .badValue

/-- A flag is stored: 0 or 1 (R177). -/
def writeFlag (s : State) (value : BitVec 64) (store : Bool → State) : State × ItemResult :=
  writeChoice s 1 value fun n => store (n == 1)

/-- The address in a value's last six bytes (R177). -/
def addressIn (value : BitVec 64) : Address := value.setWidth 48

/-- An address is stored, or refused unless it is of the kind allowed (R53, R108, R169). -/
def writeAddress (s : State) (group : Bool) (value : BitVec 64) (store : Address → State) : State × ItemResult :=
  if isGroup (addressIn value) = group then accept (store (addressIn value)) else refuse s .badValue

/-- A frame type is stored, or refused below 0x0600, at 0x8100 or where it equals the other type (R169). A value that two bytes
do not hold is no frame type and is refused too (DESIGN CHOICE, log entry 65). -/
def writeType (s : State) (other : BitVec 16) (value : BitVec 64) (store : BitVec 16 → State) : State × ItemResult :=
  if value.toNat < 0x0600 ∨ 0xFFFF < value.toNat ∨ value.toNat = vlanType ∨ value.toNat = other.toNat then
    refuse s .badValue
  else accept (store (value.setWidth 16))

/-! ## Values (R177) -/

/-- A flag as a value. The settings that are on or off are flags, 1 for on (DESIGN CHOICE, log entry 64). -/
def flagValue (b : Bool) : Int := if b then 1 else 0

/-- A reference by its position in the list of R90. -/
def Ref.position : Ref → Nat
  | .north => 0
  | .pulse => 1
  | .none => 2

/-- The reference at a position. -/
def refAt (n : Nat) : Ref := if n = 0 then .north else if n = 1 then .pulse else .none

/-- A pulse line's mode by its position in the list of R160. -/
def PulseMode.position : PulseMode → Nat
  | .off => 0
  | .second => 1
  | .alarm => 2

/-- The mode at a position. -/
def pulseModeAt (n : Nat) : PulseMode := if n = 0 then .off else if n = 1 then .second else .alarm

/-- A line by its position in the list of R157. -/
def linePosition (line : Line) : Nat := if line = .north then 0 else 1

/-- The collector VLAN as a value (R177). R177 fixes the top bit of an absent one alone; the model sends the bits below it
as zeros (DESIGN CHOICE, log entry 56). -/
def tagValue : Option (BitVec 16) → Int
  | some t => (((t.toNat / 8192) * 4096 + t.toNat % 4096 : Nat) : Int)
  | none => -(2 ^ 63)

/-- The tag of a present collector VLAN's value: priority, no drop flag, identifier (R174, R177). -/
def tagFrom (value : BitVec 64) : BitVec 16 :=
  BitVec.ofNat 16 ((value.toNat / 4096) * 8192 + value.toNat % 4096)

/-- The collector VLAN is stored: absent where the top bit is set (R157, R177), and refused where a bit stands between that one
and its identifier and priority (DESIGN CHOICE, log entry 65). -/
def writeTag (s : State) (value : BitVec 64) (store : Option (BitVec 16) → State) : State × ItemResult :=
  if value.getLsbD 63 then accept (store none)
  else if value.toNat < 32768 then accept (store (some (tagFrom value)))
  else refuse s .badValue

/-! ## Reading -/

/-- The pulse line of an index. -/
def ReportEngine.pulseLine (r : ReportEngine) (k : Nat) : PulseLine := r.pulseLines.getD k .initial

/-- A pulse line's setting by its place within its line (R160, R169). -/
def PulseLine.setting (p : PulseLine) : Nat → Int
  | 0 => p.mode.position
  | 1 => flagValue (!p.activeHigh)
  | 2 => p.phase
  | 3 => p.width
  | _ => p.subscriptions.toNat

/-- The stored values of settings 1 to 16 (R169). -/
def State.settingsLow (s : State) : List Int :=
  [s.agent.address.toNat, flagValue s.agent.southManagement, s.lines.timingType.toNat, s.lines.managementType.toNat,
   s.lines.injectionLimit, flagValue s.lines.transitCorrection, flagValue (!s.pulse.activeHigh), s.pulse.debounce,
   s.exch.leader.toNat, s.exch.northDomain, s.exch.queryExp, s.exch.replyWindow, s.exch.missedLimit,
   s.exch.windowSize, s.exch.pulseClass, s.exch.pulseU]

/-- The stored values of settings 17 to 32 (R169). -/
def State.settingsMiddle (s : State) : List Int :=
  [s.servo.alpha, s.servo.propExp, s.servo.integExp, s.servo.aMax, s.servo.stepLimit, s.servo.holdBound,
   s.servo.primary.position, s.servo.secondary.position, flagValue s.servo.revertEnable, s.servo.revertTime,
   s.servo.lockLimit, s.servo.unlockLimit, s.servo.holdoverLimit, s.south.domain, s.south.gradeExp,
   s.south.group.toNat]

/-- The stored values of settings 33 to 45 (R169). -/
def State.settingsHigh (s : State) : List Int :=
  [s.dater.batch, s.dater.latency, s.mon.filterExp, s.mon.settleCount, s.mon.silence, s.mon.interval,
   s.mon.judgeLimit, s.mon.settlePeriod, s.rep.collector.toNat, linePosition s.rep.collectorLine,
   tagValue s.rep.collectorTag, s.rep.holdoff, s.rep.summaryInterval]

/-- The stored values of settings 46 to 65 (R169). -/
def State.settingsPulse (s : State) : List Int :=
  (List.range 20).map fun n => (s.rep.pulseLine (n / 5)).setting (n % 5)

/-- The stored value of a setting, by its id (R169). South management, transit correction and revert enable read as flags, 1
for on (DESIGN CHOICE, log entry 64). -/
def State.settingValue (s : State) (id : Nat) : Option Int :=
  if id = 0 then none else (s.settingsLow ++ s.settingsMiddle ++ s.settingsHigh ++ s.settingsPulse)[id - 1]?

/-- The values of some settings, 8 bytes each; none where an id names no setting (R169, R178). -/
def State.settingBytes (s : State) (ids : List Nat) : Option (List Byte) :=
  (ids.mapM s.settingValue).map fun values => (values.map (signedBytes 8)).flatten

/-! ## Writes without a step of their own -/

/-- The report engine with a pulse line changed. -/
def ReportEngine.modifyPulse (r : ReportEngine) (k : Nat) (f : PulseLine → PulseLine) : ReportEngine :=
  { r with pulseLines := r.pulseLines.modify k f }

/-- A write of a pulse line's phase, width or subscriptions (R160); none for its mode and polarity. -/
def State.writePulsePlain (s : State) (k field : Nat) (value : BitVec 64) : Option (State × ItemResult) :=
  let store (f : PulseLine → PulseLine) : State := s.setRep (s.rep.modifyPulse k f)
  match field with
  | 2 => some (writeNumber 0 999999999 value.toInt fun x => store fun p => { p with phase := x.toNat })
  | 3 => some (writeNumber 0 999999999 value.toInt fun x => store fun p => { p with width := x.toNat })
  | 4 => some (accept (store fun p => { p with subscriptions := value.setWidth 8 }))
  | _ => none

/-- A write of one of settings 1 to 8, the pulse polarity apart (R11, R30, R33, R166, R169). South management and transit
correction are flags, 1 for on (DESIGN CHOICE, log entry 64). -/
def State.writeLow (s : State) (id : Nat) (v : BitVec 64) : Option (State × ItemResult) :=
  match id with
  | 1 => some (writeAddress s false v fun a => s.setAgent { s.agent with address := a })
  | 2 => some (writeFlag s v fun b => s.setAgent { s.agent with southManagement := b })
  | 3 => some (writeType s s.lines.managementType v fun t => s.setLines { s.lines with timingType := t })
  | 4 => some (writeType s s.lines.timingType v fun t => s.setLines { s.lines with managementType := t })
  | 5 => some (writeNumber 2048 49152 v.toInt fun x => s.setLines { s.lines with injectionLimit := x.toNat })
  | 6 => some (writeFlag s v fun b => s.setLines { s.lines with transitCorrection := b })
  | 8 => some (writeNumber 100 1000000 v.toInt fun x => s.setPulse { s.pulse with debounce := x.toNat })
  | _ => none

/-- A write of one of settings 10 to 16, W apart (R53). -/
def State.writeExchange (s : State) (id : Nat) (v : BitVec 64) : Option (State × ItemResult) :=
  match id with
  | 10 => some (writeChoice s 255 v fun n => s.setExch { s.exch with northDomain := n })
  | 11 => some (writeNumber (-3) 4 v.toInt fun x => s.setExch { s.exch with queryExp := x })
  | 12 => some (writeNumber 1 1000 v.toInt fun x => s.setExch { s.exch with replyWindow := x.toNat })
  | 13 => some (writeNumber 1 16 v.toInt fun x => s.setExch { s.exch with missedLimit := x.toNat })
  | 15 => some (writeNumber 0 15 v.toInt fun x => s.setExch { s.exch with pulseClass := x.toNat })
  | 16 => some (writeNumber 1 1000000000 v.toInt fun x => s.setExch { s.exch with pulseU := x.toNat })
  | _ => none

/-- A write of one of the servo's settings that has no step of its own (R71, R90). -/
def State.writeServo (s : State) (id : Nat) (v : BitVec 64) : Option (State × ItemResult) :=
  match id with
  | 17 => some (writeNumber (-1000000) 1000000 v.toInt fun x => s.setServo { s.servo with alpha := x })
  | 18 => some (writeNumber 0 10 v.toInt fun x => s.setServo { s.servo with propExp := x.toNat })
  | 19 => some (writeNumber 0 12 v.toInt fun x => s.setServo { s.servo with integExp := x.toNat })
  | 21 => some (writeNumber 1000 1000000000 v.toInt fun x => s.setServo { s.servo with stepLimit := x.toNat })
  | 27 => some (writeNumber 10 1000000 v.toInt fun x => s.setServo { s.servo with lockLimit := x.toNat })
  | 28 => some (writeNumber 10 10000000 v.toInt fun x => s.setServo { s.servo with unlockLimit := x.toNat })
  | _ => none

/-- A write of one of the south server's and the drift monitor's settings that has no step of its own (R108, R135). -/
def State.writeSouthMonitor (s : State) (id : Nat) (v : BitVec 64) : Option (State × ItemResult) :=
  match id with
  | 30 => some (writeChoice s 255 v fun n => s.setSouth { s.south with domain := n })
  | 31 => some (writeNumber (-4) 4 v.toInt fun x => s.setSouth { s.south with gradeExp := x })
  | 32 => some (writeAddress s true v fun a => s.setSouth { s.south with group := a })
  | 35 => some (writeNumber 0 6 v.toInt fun x => s.setMon { s.mon with filterExp := x.toNat })
  | 37 => some (writeNumber 1 3600 v.toInt fun x => s.setMon { s.mon with silence := x.toNat })
  | 39 => some (writeNumber 10 1000000000 v.toInt fun x => s.setMon { s.mon with judgeLimit := x.toNat })
  | 40 => some (writeNumber 0 16 v.toInt fun x => s.setMon { s.mon with settlePeriod := x.toNat })
  | _ => none

/-- A write of the collector VLAN or of the notice holdoff (R156, R157). -/
def State.writeReport (s : State) (id : Nat) (v : BitVec 64) : Option (State × ItemResult) :=
  match id with
  | 43 => some (writeTag s v fun t => s.setRep { s.rep with collectorTag := t })
  | 44 => some (writeNumber 1 1000 v.toInt fun x => (s.setRep { s.rep with holdoff := x.toNat }).refreshNotice)
  | _ => none

/-- A setting has a step of its own among the rows of the table. -/
def hasOwnStep (id : Nat) : Bool :=
  id ∈ [7, 9, 14, 20, 22, 23, 24, 25, 26, 29, 33, 34, 36, 38, 41, 42, 45] ||
    (46 ≤ id && id ≤ 65 && (id - 46) % 5 ≤ 1)

/-- A write of a pulse line's plain setting, by its id. -/
def State.writePulseId (s : State) (id : Nat) (v : BitVec 64) : Option (State × ItemResult) :=
  if 46 ≤ id ∧ id ≤ 65 then s.writePulsePlain ((id - 46) / 5) ((id - 46) % 5) v else none

/-- A write of a setting that has no step of its own; an id that names no setting is refused (R169). -/
def State.writePlain (s : State) (id : Nat) (v : BitVec 64) : State × ItemResult :=
  (s.writeLow id v <|> s.writeExchange id v <|> s.writeServo id v <|> s.writeSouthMonitor id v <|> s.writeReport id v
    <|> s.writePulseId id v).getD (refuse s .badIndex)

/-! ## Writes with a step of their own -/

/-- The qualifier after a change of polarity (R12). -/
def PulseInput.setPolarity (p : PulseInput) (activeHigh : Bool) : PulseInput :=
  { p with
    activeHigh := activeHigh
    tentative := none
    qualifier := if p.pinHigh == activeHigh then .releasing else .waiting }

/-- A write of the pulse polarity (R11, R12). -/
def State.writePolarity (s : State) (v : BitVec 64) : State × ItemResult :=
  writeFlag s v fun low => s.setPulse (s.pulse.setPolarity (!low))

/-- The exchange takes a leader address; while NORTH is configured, an outstanding Query record is voided (R54). -/
def State.setLeader (s : State) (a : Address) : State :=
  let e := { s.exch with leader := a }
  s.setExch (if s.configured .north then e.void else e)

/-- A write of the leader address (R53, R54, R91). -/
def State.writeLeader (s : State) (v : BitVec 64) : State × ItemResult :=
  writeAddress s false v fun a => s.reconfigure fun t => t.setLeader a

/-- A write of the primary or the secondary reference (R90, R91). -/
def State.writeRef (s : State) (primary : Bool) (v : BitVec 64) : State × ItemResult :=
  writeChoice s 2 v fun n => s.reconfigure fun t =>
    t.setServo (if primary then { t.servo with primary := refAt n } else { t.servo with secondary := refAt n })

/-- I and A brought within a new A_max (R71). -/
def State.setAMax (s : State) (x : Nat) : State :=
  let v := { s.servo with aMax := x }
  (s.setServo v).setClock
    { s.clock with integI := v.limitRate s.clock.integI, rateA := v.limitRate s.clock.rateA }

/-- A write of A_max (R71). -/
def State.writeAMax (s : State) (v : BitVec 64) : State × ItemResult :=
  writeNumber 1000000 200000000 v.toInt fun x => s.setAMax x.toNat

/-- A new H applies to the holdover form at once, and the ceiling may be reached (R71, R85). -/
def State.setHoldBound (s : State) (x : Nat) : State :=
  let t := s.setServo { s.servo with holdBound := x }
  if t.ceilingDue then t.endHoldover else t

/-- A write of H (R71). -/
def State.writeHoldBound (s : State) (v : BitVec 64) : State × ItemResult :=
  writeNumber 1 10000000 v.toInt fun x => s.setHoldBound x.toNat

/-- A new holdover limit at or below t_h ends holdover (R97). -/
def State.setHoldLimit (s : State) (x : Nat) : State :=
  let t := s.setServo { s.servo with holdoverLimit := x }
  if t.holdoverLimitDue then t.endHoldover else t

/-- A write of the holdover limit (R90, R97). -/
def State.writeHoldLimit (s : State) (v : BitVec 64) : State × ItemResult :=
  writeNumber 1 1048576 v.toInt fun x => s.setHoldLimit x.toNat

/-- A write of W (R53, R64). -/
def State.writeWindow (s : State) (v : BitVec 64) : State × ItemResult :=
  writeNumber 1 16 v.toInt fun x => s.shortenWindows x.toNat

/-- The revert settings as written: the expiry is scheduled anew and the revert test made (R98). -/
def State.setRevert (s : State) (enable : Bool) (time : Nat) : State :=
  s.tracked fun t =>
    (t.setServo ({ t.servo with revertEnable := enable, revertTime := time }.reschedule t.servo)).revertTest

/-- A write of revert enable (R90, R98), a flag, 1 for on (DESIGN CHOICE, log entry 64). -/
def State.writeRevertEnable (s : State) (v : BitVec 64) : State × ItemResult :=
  writeFlag s v fun b => s.setRevert b s.servo.revertTime

/-- A write of the revert time (R90, R98). -/
def State.writeRevertTime (s : State) (v : BitVec 64) : State × ItemResult :=
  writeNumber 1 3600 v.toInt fun x => s.setRevert s.servo.revertEnable x.toNat

/-- A write of E (R135, R143). -/
def State.writeInterval (s : State) (v : BitVec 64) : State × ItemResult :=
  writeNumber 1 64 v.toInt fun x => s.setMon (s.mon.writeInterval x.toNat)

/-- A write of n_s (R135, R142). -/
def State.writeSettleCount (s : State) (v : BitVec 64) : State × ItemResult :=
  writeNumber 1 16 v.toInt fun x => s.writeSettle x.toNat

/-- The collector address as written: zero withdraws what waits, and otherwise readiness is applied as it stands (R131,
R156, R157). -/
def State.setCollector (s : State) (a : Address) : State :=
  let t := s.setRep { s.rep with collector := a }
  (t.setRep
    { t.rep with
      noticeWaiting := t.noticeReady
      dateReportWaiting := t.dateReady
      summaryWaiting := t.rep.summaryWaiting && a != 0 }).fill t.rep.collectorLine

/-- A write of the collector address (R157). -/
def State.writeCollector (s : State) (v : BitVec 64) : State × ItemResult := accept (s.setCollector (addressIn v))

/-- A write of the collector line: what waits is offered to the new line (R157). -/
def State.writeCollectorLine (s : State) (v : BitVec 64) : State × ItemResult :=
  writeChoice s 1 v fun n =>
    let line : Line := if n = 0 then .north else .south
    (s.setRep { s.rep with collectorLine := line }).fill line

/-- The summary interval as written (R158). -/
def ReportEngine.setSummary (r : ReportEngine) (interval : Nat) : ReportEngine :=
  { r with
    summaryInterval := interval
    summaryIn :=
      if interval = 0 then none else if r.summaryInterval = 0 then some (interval * 1000) else r.summaryIn
    summaryWaiting := r.summaryWaiting && interval != 0 }

/-- A write of the summary interval (R158). -/
def State.writeSummaryInterval (s : State) (v : BitVec 64) : State × ItemResult :=
  writeNumber 0 3600 v.toInt fun x => s.setRep (s.rep.setSummary x.toNat)

/-- A pulse line whose mode or polarity is written: its pulse ends and its starts are discarded (R160). -/
def PulseLine.remode (p : PulseLine) (mode : PulseMode) (activeHigh : Bool) : PulseLine :=
  { p with mode := mode, activeHigh := activeHigh, starts := [], pulseEnd := none }

/-- A write of a pulse line's mode or polarity (R160). -/
def State.writePulseMode (s : State) (id : Nat) (v : BitVec 64) : State × ItemResult :=
  let k := (id - 46) / 5
  if (id - 46) % 5 = 0 then
    writeChoice s 2 v fun n => s.setRep (s.rep.modifyPulse k fun p => p.remode (pulseModeAt n) p.activeHigh)
  else writeFlag s v fun low => s.setRep (s.rep.modifyPulse k fun p => p.remode p.mode (!low))

/-- A write of the batch threshold (R131). -/
def State.writeBatch (s : State) (v : BitVec 64) : State × ItemResult :=
  writeNumber 1 32 v.toInt fun x => (s.setDater { s.dater with batch := x.toNat }).refreshDateReport

/-- A write of the report latency (R131). -/
def State.writeLatency (s : State) (v : BitVec 64) : State × ItemResult :=
  writeNumber 100 100000 v.toInt fun x => (s.setDater { s.dater with latency := x.toNat }).refreshDateReport

end Sys2Proof.Machine
end

