-- ==== Sys2Proof/Machine/Tables.lean ====
section
/-! DEFINITION. The tables as management reads and writes them (R38, R39, R133, R137, R139, R152, R166, R178), and the
commands that are no reads or writes of settings (R15, R16, R46, R47, R99 to R102, R159, R163). -/

namespace Sys2Proof.Machine

/-! ## Encodings (R178) -/

/-- An 8-byte value. -/
def value8 (x : Int) : List Byte := signedBytes 8 x

/-- A quantity in fine units: 12 bytes signed. -/
def fine12 (x : Int) : List Byte := signedBytes 12 x

/-- A flag as an 8-byte value. -/
def flag8 (b : Bool) : List Byte := value8 (flagValue b)

/-- A value that may be absent, behind a presence byte. -/
def optional {α : Type} (width : Nat) (f : α → List Byte) : Option α → List Byte
  | some x => 1 :: f x
  | none => 0 :: beBytes width 0

/-- An 8-byte value that may be absent. -/
def optional8 (x : Option Int) : List Byte := optional 8 value8 x

/-- A run-counter reading that may be absent. -/
def optionalReading (x : Option (BitVec 32)) : List Byte := optional 8 (fun r : BitVec 32 => value8 r.toNat) x

/-- A list of varying length behind a 2-byte count of its members. -/
def listBytes {α : Type} (f : α → List Byte) (l : List α) : List Byte := beBytes 2 l.length ++ (l.map f).flatten

/-- A presence byte and a field, as a WRITE lays them out. -/
def optField (width : Nat) (x : Option Nat) : List Byte := optional width (beBytes width) x

/-- A byte-term place (R178). -/
def termBytes : Option ByteTerm → List Byte
  | some t => 1 :: beBytes 1 t.offset ++ [t.value, t.mask]
  | none => [0, 0, 0, 0]

/-- A class-table line's code (R178). -/
def EntryLine.code : EntryLine → Nat
  | .north => 0
  | .south => 1
  | .either => 2

/-- A class-table entry's 43 bytes (R178). -/
def ClassEntry.bytes (e : ClassEntry) : List Byte :=
  [flagByte [e.enabled]] ++ beBytes 1 e.line.code ++ optField 2 (e.typeValue.map (·.toNat))
    ++ optField 6 (e.source.map (·.toNat)) ++ (e.terms.map termBytes).flatten ++ [flagByte [e.date, e.sample]]
    ++ optField 2 e.stampOffset ++ optField 1 e.issueOffset ++ signedBytes 8 e.datingOffset ++ [flagByte [e.newStream]]

/-- A rack entry's 82 bytes (R178). -/
def RackConfig.bytes (c : RackConfig) : List Byte :=
  [flagByte [c.enabled]]
    ++ ([c.watchOn, c.watchOff, c.driftOn, c.driftOff, c.rateOn, c.spreadLimit, c.strayLimit, c.confirm,
         c.nominalDelay, c.drillOffset].map value8).flatten
    ++ [flagByte [c.storageSamples]]

/-- An origin entry as a READ returns it: its configured fields and its learned fields in the order of R136. -/
def OriginEntry.readBytes (e : OriginEntry) : List Byte :=
  [flagByte [e.enabled]] ++ beBytes 6 e.source.toNat ++ beBytes 1 e.rack ++ value8 e.state.code.toNat
    ++ optional8 e.filtered ++ optional8 e.lastSample ++ optionalReading e.lastAt ++ value8 e.sampleCount
    ++ value8 e.queryCount ++ value8 e.storageCount

/-- A level by its position in R138's list. -/
def Level.position : Level → Nat
  | .inStep => 0
  | .watch => 1
  | .drifting => 2

/-- A rack entry as a READ returns it: its configured fields, effective levels, Rt_off and learned fields (R138, R152). -/
def Rack.readBytes (r : Rack) : List Byte :=
  r.config.bytes ++ value8 r.config.effWatchOff ++ value8 r.config.effDriftOn ++ value8 r.config.effDriftOff
    ++ value8 r.config.rateOff ++ value8 r.state.code.toNat ++ optional8 r.mean ++ value8 r.prevMean ++ flag8 r.prevValid
    ++ optional8 r.rate ++ optional8 r.spread ++ value8 r.members ++ flag8 r.split ++ flag8 r.drill
    ++ optional8 (r.pending.map fun l => (l.position : Int)) ++ value8 r.pendingCount ++ optionalReading r.lastTransition

/-- A date as a timing stamp of fraction 0 (log entry 16). -/
def dateStamp (date : Nat) : List Byte := dateBytes date ++ beBytes 2 0

/-- A stream's state (R133). -/
def StreamState.readBytes (x : StreamState) : List Byte :=
  optional 12 dateStamp x.lastDate ++ value8 x.nextSeq.toNat ++ value8 x.gap.toNat ++ flag8 x.armed

/-- A place of the manager list: empty when its top bit is set (R178). The other bits of an empty place are sent as zeros
(DESIGN CHOICE, log entry 55). -/
def placeBytes : Option Address → List Byte
  | some a => beBytes 8 a.toNat
  | none => beBytes 8 (2 ^ 63)

/-- A capture record as it is returned (R180). -/
def CaptureRecord.bytes (c : CaptureRecord) : List Byte :=
  stampBytes c.value ++ beBytes 4 c.runCounter.toNat ++ [flagByte [c.regular, c.soft]]

/-! ## Reads of tables -/

/-- What a READ item comes to: the values read and the state after the reads have cleared what they clear; or none where
it is refused with BAD_INDEX. -/
abbrev ReadResult := Option (List Byte × State)

/-- The members of a table from a first index on, where the range lies within it (R168). -/
def tableRange {α : Type} (l : List α) (first count : Nat) : Option (List α) :=
  if first + count ≤ l.length then some ((l.drop first).take count) else none

/-- A list with every member of a range of indexes changed. -/
def modifyRange {α : Type} (l : List α) (first count : Nat) (f : α → α) : List α :=
  l.take first ++ ((l.drop first).take count).map f ++ l.drop (first + count)

/-- The bank in a role (R39). -/
def Classifier.bankOf (c : Classifier) (shadow : Bool) : Bank := if shadow then c.active.other else c.active

/-- A READ of settings (R169). -/
def State.readSettings (s : State) (ids : List Nat) : ReadResult := (s.settingBytes ids).map fun b => (b, s)

/-- A READ of the class table (R39). -/
def State.readClass (s : State) (shadow : Bool) (first count : Nat) : ReadResult :=
  (tableRange (s.cls.entries (s.cls.bankOf shadow)) first count).map fun l => ((l.map ClassEntry.bytes).flatten, s)

/-- A READ of the match counts, which it clears (R39). -/
def State.readMatch (s : State) (first count : Nat) : ReadResult :=
  (tableRange s.cls.matchCounts first count).map fun l =>
    ((l.map fun n : Nat => value8 n).flatten,
      s.setCls { s.cls with matchCounts := modifyRange s.cls.matchCounts first count fun _ => 0 })

/-- A READ of the origin table, which clears the per-kind counts of the entries read (R152). -/
def State.readOrigin (s : State) (first count : Nat) : ReadResult :=
  (tableRange s.mon.origins first count).map fun l =>
    ((l.map OriginEntry.readBytes).flatten,
      s.setMon { s.mon with
        origins := modifyRange s.mon.origins first count fun e => { e with queryCount := 0, storageCount := 0 } })

/-- A READ of the rack table (R152). -/
def State.readRack (s : State) (first count : Nat) : ReadResult :=
  (tableRange s.mon.racks first count).map fun l => ((l.map Rack.readBytes).flatten, s)

/-- A READ of the manager list (R166). -/
def State.readManagers (s : State) : ReadResult := some ((s.agent.managers.map placeBytes).flatten, s)

/-- A READ of the stream table (R133). -/
def State.readStream (s : State) (first count : Nat) : ReadResult :=
  (tableRange s.dater.streams first count).map fun l => ((l.map StreamState.readBytes).flatten, s)

/-! ## Writes of tables -/

/-- The tests of a class-table entry that refuse it with BAD_VALUE (R38). -/
def ClassEntry.legal (e : ClassEntry) (line : Nat) : Bool :=
  line ≤ 2
    && (e.terms.all fun t =>
        match t with
        | some t => t.offset ≤ 127
        | none => true)
    && e.stampOffset.getD 0 ≤ 9188 && e.issueOffset.getD 0 ≤ 118
    && !(e.date && e.line == .either)
    && !(e.sample && e.issueOffset.isNone)

/-- A class-table entry with its dating offset clamped (R38). -/
def ClassEntry.clamped (e : ClassEntry) : ClassEntry :=
  { e with datingOffset := clampInt (-1000000) 1000000 e.datingOffset }

/-- An answer to a write of a table entry: OK, or CLAMPED with the entry as stored (R180). -/
def entryResult (same : Bool) (stored : List Byte) : ItemResult :=
  if same then { status := .ok, content := [] } else { status := .clamped, content := stored }

/-- An entry is stored into the shadow bank (R38). -/
def State.storeShadow (s : State) (index : Nat) (e : ClassEntry) : State :=
  s.setCls (s.cls.setEntries s.cls.active.other ((s.cls.entries s.cls.active.other).modify index fun _ => e))

/-- A WRITE of the class table (R38). -/
def State.writeClass (s : State) (index line : Nat) (e : ClassEntry) : State × ItemResult :=
  if 63 < index then refuse s .badIndex
  else if s.cls.swapPending then refuse s .pending
  else if e.legal line then (s.storeShadow index e.clamped, entryResult (e.clamped == e) e.clamped.bytes)
  else refuse s .badValue

/-- Another enabled entry holds an address (R137). -/
def Monitor.duplicates (m : Monitor) (index : Nat) (source : Address) : Bool :=
  m.origins.zipIdx.any fun e => e.1.enabled && e.1.source == source && e.2 != index

/-- A WRITE of the origin table (R137). -/
def State.writeOriginItem (s : State) (index : Nat) (enabled : Bool) (source : Address) (rack : Nat) :
    State × ItemResult :=
  if 511 < index ∨ 31 < rack then refuse s .badIndex
  else if isGroup source then refuse s .badValue
  else if enabled && s.mon.duplicates index source then refuse s .duplicate
  else accept (s.writeOrigin index enabled source rack)

/-- A rack entry with its numeric fields clamped (R138, R139). -/
def RackConfig.clamped (c : RackConfig) : RackConfig where
  enabled := c.enabled
  watchOn := clampInt 1 2000000000 c.watchOn
  watchOff := clampInt 1 2000000000 c.watchOff
  driftOn := clampInt 1 2000000000 c.driftOn
  driftOff := clampInt 1 2000000000 c.driftOff
  rateOn := clampInt 2 1000000 c.rateOn
  spreadLimit := clampInt 1 4000000000 c.spreadLimit
  strayLimit := clampInt 1 4000000000 c.strayLimit
  confirm := clampInt 1 8 c.confirm
  nominalDelay := clampInt 0 10000000 c.nominalDelay
  drillOffset := clampInt (-100000000) 100000000 c.drillOffset
  storageSamples := c.storageSamples

/-- A WRITE of the rack table (R139). -/
def State.writeRackItem (s : State) (index : Nat) (c : RackConfig) : State × ItemResult :=
  if 31 < index then refuse s .badIndex
  else (s.writeRack index c.clamped, entryResult (c.clamped == c) c.clamped.bytes)

/-- A place of the manager list is replaced (R166). -/
def State.setManager (s : State) (index : Nat) (place : Option Address) : State :=
  s.setAgent { s.agent with managers := s.agent.managers.modify index fun _ => place }

/-- A WRITE of the manager list (R166, R178). -/
def State.writeManager (s : State) (index : Nat) (v : BitVec 64) : State × ItemResult :=
  if 3 < index then refuse s .badIndex
  else if v.getLsbD 63 then accept (s.setManager index none)
  else if isGroup (addressIn v) then refuse s .badValue
  else accept (s.setManager index (some (addressIn v)))

/-! ## Commands -/

/-- COPY (R46). -/
def State.copyBank (s : State) : State × ItemResult :=
  if s.cls.swapPending then refuse s .pending
  else accept (s.setCls (s.cls.setEntries s.cls.active.other (s.cls.entries s.cls.active)))

/-- SWAP (R47). -/
def State.requestSwap (s : State) : State × ItemResult :=
  if s.cls.swapPending then refuse s .alreadyPending else accept (s.setCls { s.cls with swapPending := true })

/-- SERVO AUTO (R99). -/
def State.servoAuto (s : State) : State × ItemResult :=
  accept (if s.servo.held then s.tracked State.release else s)

/-- SERVO HELD (R99). -/
def State.servoHeld (s : State) : State × ItemResult :=
  accept (if s.servo.held then s else s.tracked fun t => t.setServo t.servo.hold)

/-- SERVO ALIGN (R100). -/
def State.servoAlign (s : State) : State × ItemResult :=
  if s.servo.held then accept (s.setServo { s.servo with alignPending := true }) else refuse s .badState

/-- SERVO SET RATE (R101). The answer to a clamped rate carries the stored value, by R101 and R168 and against the last row of
R180's table (DESIGN CHOICE, log entry 17). -/
def State.servoSetRate (s : State) (rate : Int) : State × ItemResult :=
  if s.servo.held then
    (s.setClock { s.clock with integI := s.servo.limitRate rate, rateA := s.servo.limitRate rate },
      clampResult (s.servo.limitRate rate) rate)
  else refuse s .badState

/-- SET TIME (R5, R102). -/
def State.setTimeItem (s : State) (target : RawStamp) : State × ItemResult :=
  if target.isInstant = false then refuse s .badValue
  else if s.servo.state = .free ∨ s.servo.held then accept (s.setTime target.fineUnits)
  else refuse s .badState

/-- A capture record joins the capture queue, or sets OVERRUN (R15). -/
def PulseInput.record (p : PulseInput) (c : CaptureRecord) : PulseInput :=
  if p.queue.length < 8 then { p with queue := p.queue ++ [c] } else { p with overrun := true }

/-- The answer to CAPTURE READ (R15, R180). -/
def PulseInput.readBytes (p : PulseInput) : List Byte :=
  (p.queue.map CaptureRecord.bytes).flatten ++ [flagByte [p.overrun]] ++ beBytes 2 p.rejected

/-- CAPTURE READ (R15). -/
def State.captureRead (s : State) : State × ItemResult :=
  (s.setPulse { s.pulse with queue := [], overrun := false, rejected := 0 },
    { status := .ok, content := s.pulse.readBytes })

/-- The SOFT record of the present (R16). -/
def State.softRecord (s : State) : CaptureRecord where
  value := s.clock.value
  runCounter := s.clock.runCounter
  regular := false
  soft := true

/-- CAPTURE NOW (R16). -/
def State.captureNow (s : State) : State × ItemResult :=
  (s.setPulse (s.pulse.record s.softRecord), { status := .ok, content := s.softRecord.bytes })

/-- CLEAR (R163). -/
def State.clearLatches (s : State) (dateGap noticeOverflow : Bool) : State × ItemResult :=
  accept (s.setRep
    { s.rep with dateGap := s.rep.dateGap && !dateGap, noticeOverflow := s.rep.noticeOverflow && !noticeOverflow })

/-- SUMMARY: the requested Summary, which takes the next Summary sequence (R159, R180). -/
def State.requestSummary (s : State) : State × ItemResult :=
  (s.setRep { s.rep with summarySeq := s.rep.summarySeq + 1 }, { status := .ok, content := s.summaryBytes })

/-- BYPASS ON (R21). -/
def State.bypassOn (s : State) : State × ItemResult :=
  accept (if s.lines.mode = .commanded then s else s.enterBypass)

/-- BYPASS OFF (R21). -/
def State.bypassOff (s : State) : State × ItemResult :=
  accept (if s.lines.mode = .commanded then s.enterActive else s)

end Sys2Proof.Machine
end

