-- ==== Sys2Proof/Machine/Status.lean ====
section
/-! DEFINITION. The count groups and the block statuses that management reads (R34, R39, R69, R87, R106, R117, R133, R152,
R155, R173, R178). -/

namespace Sys2Proof.Machine

/-! ## Count groups -/

/-- Some counts, 8 bytes each. -/
def countsBytes (l : List Nat) : List Byte := (l.map fun n : Nat => value8 n).flatten

/-- A line's four counts in the order of R34. -/
def LineState.counts (l : LineState) : List Nat := [l.badCheck, l.lengthErrors, l.overruns, l.misdirected]

/-- A line with its four counts cleared. -/
def LineState.clearCounts (l : LineState) : LineState :=
  { l with badCheck := 0, lengthErrors := 0, overruns := 0, misdirected := 0 }

/-- The clear-on-read counts of a block, in the order of its rule (R178). -/
def State.countGroup (s : State) (block : Nat) : List Nat :=
  match block with
  | 0 => s.lines.north.counts ++ s.lines.south.counts
  | 2 => [s.exch.late, s.exch.strayReply, s.exch.badDelay]
  | 4 => [s.south.badQuery, s.south.droppedQuery, s.south.unknownOrigin, s.south.badReport, s.south.gradeSuperseded]
  | 5 => [s.dater.lostRecord, s.dater.orphaned]
  | 6 => [s.mon.unknownStorage, s.mon.ignoredSample, s.mon.discardedByReset]
  | 8 => [s.rep.noticeDropped]
  | _ => []

/-- The state with the clear-on-read counts of a block cleared. -/
def State.clearGroup (s : State) (block : Nat) : State :=
  match block with
  | 0 => s.setLines { s.lines with north := s.lines.north.clearCounts, south := s.lines.south.clearCounts }
  | 2 => s.setExch { s.exch with late := 0, strayReply := 0, badDelay := 0 }
  | 4 => s.setSouth
      { s.south with badQuery := 0, droppedQuery := 0, unknownOrigin := 0, badReport := 0, gradeSuperseded := 0 }
  | 5 => s.setDater { s.dater with lostRecord := 0, orphaned := 0 }
  | 6 => s.setMon { s.mon with unknownStorage := 0, ignoredSample := 0, discardedByReset := 0 }
  | 8 => s.setRep { s.rep with noticeDropped := 0 }
  | _ => s

/-- A READ of a count group, which clears it (R178). -/
def State.readCounts (s : State) (block : Nat) : ReadResult := some (countsBytes (s.countGroup block), s.clearGroup block)

/-! ## Block statuses -/

/-- The classifier's status (R39). -/
def Classifier.statusBytes (c : Classifier) : List Byte := value8 c.active.number ++ flag8 c.swapPending

/-- The state of the outstanding Query record, with its sequence, t1 and window expiry where present (R56, R69). -/
def QueryRecord.statusBytes : QueryRecord → List Byte
  | .empty => value8 0 ++ optional8 none ++ optional 12 stampBytes none ++ optionalReading none
  | .waiting seq => value8 1 ++ optional8 (some seq.toNat) ++ optional 12 stampBytes none ++ optionalReading none
  | .opened seq t1 expiry =>
    value8 2 ++ optional8 (some seq.toNat) ++ optional 12 stampBytes (some t1) ++ optionalReading (some expiry)

/-- A sample of an Exchange Window (R64). -/
def Sample.bytes (x : Sample) : List Byte :=
  fine12 x.theta ++ fine12 x.delay ++ value8 x.leaderClass ++ value8 x.leaderU ++ value8 x.runCounter.toNat

/-- A liveness by its position: LIVE, LOST. -/
def livenessBytes (live : Bool) : List Byte := value8 (if live then 0 else 1)

/-- The north exchange's status (R69). -/
def Exchange.statusBytes (e : Exchange) : List Byte :=
  e.record.statusBytes ++ value8 e.nextSeq.toNat ++ value8 e.issued ++ value8 e.missed ++ livenessBytes e.liveN
    ++ livenessBytes e.liveP ++ optionalReading e.lastRegular ++ listBytes Sample.bytes e.windowN
    ++ listBytes Sample.bytes e.windowP

/-- A step-test outcome by its position in R77's table. -/
def StepOutcome.position : StepOutcome → Int
  | .step => 0
  | .hold => 1
  | .steer => 2

/-- The arithmetic's part of the servo's status (R87). -/
def State.servoFigures (s : State) : List Byte :=
  value8 s.clock.rateA ++ value8 s.clock.integI ++ optional 12 fine12 (s.selected.map (·.theta))
    ++ optional 12 fine12 (s.selected.map fun x => (x.delay : Int)) ++ optional8 (s.servo.lastPi.map (·.thetaPs))
    ++ optional8 (s.servo.lastPi.map (·.prop)) ++ optional8 (s.servo.lastPi.map (·.incr))
    ++ optional8 (s.servo.stepOutcome.map StepOutcome.position) ++ flag8 s.servo.stepPending
    ++ value8 s.servo.uncertainty ++ optional8 (s.servo.entryU.map fun u => (u : Int))
    ++ optional8 (s.servo.holdTime.map fun t => (t.toNat : Int)) ++ value8 s.servo.stepCount
    ++ optional 12 fine12 s.servo.lastStep

/-- The state machine's part of the servo's status (R106). -/
def State.servoItems (s : State) : List Byte :=
  value8 s.servo.state.code.toNat ++ value8 (if s.servo.held then 1 else 0) ++ flag8 s.servo.memory
    ++ value8 s.servo.active.position ++ value8 s.servo.primary.position ++ value8 s.servo.secondary.position
    ++ value8 s.servo.effectiveSecondary.position ++ flag8 (s.available .north) ++ flag8 (s.available .pulse)
    ++ optionalReading (s.servo.markN.map (·.since)) ++ optionalReading (s.servo.markP.map (·.since))
    ++ optional8 (s.servo.revertIn.map fun n => (n : Int)) ++ value8 s.servo.lockCounter
    ++ value8 s.servo.unlockCounter ++ flag8 s.servo.alignPending ++ value8 s.ownClass
    ++ optional8 (s.servo.leaderClass.map fun n => (n : Int)) ++ optionalReading s.servo.lastChange

/-- A reply-queue entry as the status shows it (R117). -/
def ReplyEntry.statusBytes (e : ReplyEntry) : List Byte :=
  value8 e.requester.toNat ++ value8 e.seq.toNat ++ value8 e.takenAt.toNat

/-- The run time to an oscillator instant, at full resolution (log entry 14). -/
def State.timeTo (s : State) (instant : Nat) : List Byte :=
  beBytes 8 (Config.runTimeCode (instant - s.clock.osc)).toNat

/-- The south server's status (R117). The waiting Grade is the last one built, so its sequence is the one before the
next. Whether one is waiting is told by the presence byte of its sequence alone (DESIGN CHOICE, log entry 60). -/
def State.southStatus (s : State) : List Byte :=
  listBytes ReplyEntry.statusBytes s.south.queue
    ++ optional8 (s.south.waitingGrade.map fun _ => ((s.south.gradeSeq - 1).toNat : Int))
    ++ value8 s.south.gradeSeq.toNat ++ s.timeTo s.south.gradeAt

/-- The age of the oldest date record, at full resolution (R133, log entry 14). -/
def State.oldestAge (s : State) : List Byte :=
  optional 8 (fun r : DateRecord => beBytes 8 (Config.runTimeCode (s.clock.osc - r.createdAt)).toNat)
    s.dater.queue.head?

/-- The number of open dates (R133). -/
def Dater.openDates (d : Dater) : Nat := d.openN.toList.length + d.openS.toList.length

/-- The dater's status (R133). -/
def State.daterStatus (s : State) : List Byte :=
  value8 s.dater.queue.length ++ s.oldestAge ++ flag8 s.rep.dateReportWaiting ++ value8 s.dater.openDates

/-- The five server states, in the order of R136. -/
def serverStates : List ServerState := [.unseen, .settling, .tracking, .stray, .silent]

/-- The numbers of a rack's members in each of the five server states (R152). -/
def Monitor.memberCounts (m : Monitor) (k : Nat) : List Nat :=
  serverStates.map fun x => ((m.membersOf k).filter fun j => (m.origin j).state == x).length

/-- The drift monitor's status (R152). -/
def Monitor.statusBytes (m : Monitor) : List Byte :=
  value8 m.settleCounter ++ value8 m.evalIn ++ ((List.range 32).map fun k => countsBytes (m.memberCounts k)).flatten

/-- The management agent's status (R173). -/
def Agent.statusBytes (a : Agent) : List Byte :=
  countsBytes [a.malformed, a.disallowed, a.queueFull, a.responseDropped, a.queue.length]

/-- The status of a block (R178). -/
def State.blockStatus (s : State) (block : Nat) : List Byte :=
  match block with
  | 1 => s.cls.statusBytes
  | 2 => s.exch.statusBytes
  | 3 => s.servoFigures ++ s.servoItems
  | 4 => s.southStatus
  | 5 => s.daterStatus
  | 6 => s.mon.statusBytes
  | 7 => s.agent.statusBytes
  | _ => []

/-- What a status READ clears: the servo's step count (R87) and the agent's counts (R173). -/
def State.clearStatus (s : State) (block : Nat) : State :=
  match block with
  | 3 => s.setServo { s.servo with stepCount := 0 }
  | 7 => s.setAgent { s.agent with malformed := 0, disallowed := 0, queueFull := 0, responseDropped := 0 }
  | _ => s

/-- A READ of a block's status (R178). -/
def State.readStatus (s : State) (block : Nat) : ReadResult := some (s.blockStatus block, s.clearStatus block)

end Sys2Proof.Machine
end

