-- ==== Sys2Proof/Machine/Agent.lean ====
section
/-! DEFINITION. The handling of a request: its items one by one, the response, and the hold of a RESET (R167, R168, R170,
R171, R180). -/

namespace Sys2Proof.Machine

/-! ## Responses (R170, R180) -/

/-- A status's code (R180). -/
def Status.code : Status → Byte
  | .ok => 0
  | .clamped => 1
  | .badCommand => 2
  | .badIndex => 3
  | .badValue => 4
  | .duplicate => 5
  | .pending => 6
  | .alreadyPending => 7
  | .badState => 8

/-- A status that refuses. -/
def Status.refuses (x : Status) : Bool := x != .ok && x != .clamped

/-- The request status over the items' statuses (R168). -/
def requestStatus (results : List ItemResult) : Status :=
  match results.find? (·.status.refuses) with
  | some r => r.status
  | none => if results.any (·.status == .clamped) then .clamped else .ok

/-- A response item (R180). -/
def ItemResult.bytes (r : ItemResult) : List Byte := r.status.code :: beBytes 2 r.content.length ++ r.content

/-- The payload of a response (R180). -/
def responsePayload (r : Request) (status : Status) (results : List ItemResult) : List Byte :=
  [1, 2] ++ r.tagBytes ++ [status.code] ++ beBytes 1 results.length ++ (results.map ItemResult.bytes).flatten

/-- The response to a request (R170). -/
def State.response (s : State) (r : Request) (status : Status) (results : List ItemResult) : OwnFrame :=
  s.ownFrame .response r.source r.tag s.lines.managementType (responsePayload r status results)

/-- The agent with the handling of its head request ended (R167). -/
def Agent.endHandling (a : Agent) : Agent := { a with queue := a.queue.tail, results := [], overflowed := false }

/-- A response is offered to its line: it joins, or is dropped and counted (R170). -/
def State.offerResponse (s : State) (line : Line) (f : OwnFrame) : State :=
  if s.hasPlace line then s.join line f
  else s.setAgent { s.agent with responseDropped := count16 s.agent.responseDropped }

/-- The response is built and offered, and the request leaves the queue (R167, R170). -/
def State.respond (s : State) (r : Request) (status : Status) (results : List ItemResult) : State :=
  let t := s.offerResponse r.line (s.response r status results)
  t.setAgent t.agent.endHandling

/-- The response to a RESET is built and offered, and the reset is held (R171). -/
def State.respondReset (s : State) (r : Request) (full : Bool) : State :=
  let t := s.offerResponse r.line
    { s.response r .ok [{ status := .ok, content := [] }] with resetResponse := true }
  t.setAgent
    { t.agent.endHandling with
      hold := some { full := full, offeredAt := s.clock.runCounter, released := !s.hasPlace r.line } }

/-! ## Handling (R167) -/

/-- The agent handles requests: no reset is in progress, and none is held (R171, R172). -/
def State.handles (s : State) : Bool := s.phase == .running && s.agent.hold.isNone

/-- The request in handling (R167). -/
def State.headRequest (s : State) : Option Request := if s.handles then s.agent.queue.head? else none

/-- The request in handling and its next item, where its items are handled one by one and that item's form is right. -/
def State.currentItem (s : State) : Option (Request × ReqItem) :=
  match s.headRequest with
  | some r => if r.itemized then (r.itemAt s.agent.results.length).map fun i => (r, i) else none
  | none => none

/-- An item's result is kept; after the last, the response is built (R167, R170). -/
def State.finishItem (s : State) (r : Request) (result : ItemResult) : State :=
  let results := s.agent.results ++ [result]
  if results.length = r.responseItems then s.respond r (requestStatus results) results
  else s.setAgent { s.agent with results := results }

/-- A row of the table carries out the next item of the request in handling, if the item is one of its own. -/
def State.carryOut (s : State) (work : State → ReqItem → Option (State × ItemResult)) : State :=
  match s.currentItem with
  | some (r, i) =>
    match work s i with
    | some (t, result) => t.finishItem r result
    | none => s
  | none => s

/-! ## READ items (R168, R180) -/

/-- The length of a response's frame, its check sequence included, were it to hold some items' contents and a number of
items without content after them. -/
def responseLength (r : Request) (results : List ItemResult) (rest : Nat) : Nat :=
  ownStart r.tag + 6 + ((results.map fun x => 3 + x.content.length).sum) + 3 * rest + 4

/-- A READ item's content fits in the response; 3 bytes are kept for each item still to come (R168, log entry 20). -/
def State.fits (s : State) (r : Request) (content : List Byte) : Bool :=
  responseLength r (s.agent.results ++ [{ status := .ok, content := content }])
    (r.responseItems - s.agent.results.length - 1) ≤ 9216

/-- The first READ item that does not fit, and each after it, is refused with BAD_VALUE and is not read (R168). -/
def State.refuseRead (s : State) : State × ItemResult :=
  refuse (s.setAgent { s.agent with overflowed := true }) .badValue

/-- What a READ item comes to (R168). -/
def State.readOutcome (s : State) (r : Request) (x : ReadResult) : State × ItemResult :=
  if s.agent.overflowed then refuse s .badValue
  else
    match x with
    | some (content, t) => if s.fits r content then (t, { status := .ok, content := content }) else s.refuseRead
    | none => refuse s .badIndex

/-- A row of the table carries out the next item, a READ, if the item is one of its own. -/
def State.carryRead (s : State) (read : State → ReqItem → Option ReadResult) : State :=
  match s.currentItem with
  | some (r, i) =>
    match read s i with
    | some x => (s.readOutcome r x).1.finishItem r (s.readOutcome r x).2
    | none => s
  | none => s

/-! ## RESET items (R171) -/

/-- A row of the table carries out a RESET, if the request in handling is that one. -/
def State.carryReset (s : State) (full : Bool) : State :=
  match s.currentItem with
  | some (r, i) => if i = (if full then .resetFull else .resetWarm) then s.respondReset r full else s
  | none => s

/-! ## Requests answered whole, and items refused for their form (R168, R179) -/

/-- A request of an unknown command is answered BAD_COMMAND (R168). -/
def State.answerBadCommand (s : State) : State :=
  match s.headRequest with
  | some r => if r.known then s else s.respond r .badCommand []
  | none => s

/-- The result of an item refused with BAD_VALUE (R168, R180). -/
def ItemResult.badValue : ItemResult where
  status := .badValue
  content := []

/-- The response items of a request answered BAD_VALUE whole: one for each of its items, or the one of a command without an
item list (R180, log entry 19). -/
def Request.badItems (r : Request) : List ItemResult := List.replicate r.responseItems .badValue

/-- A request whose item count does not suit its command, or whose items do not lie within the frame, is answered
BAD_VALUE; an item refused for its form is given that status, and handling goes on (R168, R179). -/
def State.answerBadItems (s : State) : State :=
  match s.headRequest with
  | some r =>
    if r.known then
      if r.itemized then
        match r.itemAt s.agent.results.length with
        | some _ => s
        | none => s.finishItem r .badValue
      else s.respond r .badValue r.badItems
    else s
  | none => s

end Sys2Proof.Machine
end

