-- ==== Sys2Proof/Machine/Resets.lean ====
section
/-! DEFINITION. The three kinds of reset, record by record as each chapter's table of reset values gives (R10, R17, R35,
R51, R70, R88, R107, R118, R134, R153, R164, R171 to R173). -/

namespace Sys2Proof.Machine

/-! ## The end of a reset of any kind -/

/-- The run counter starts from 0 (R8). -/
def Clock.restart (c : Clock) : Clock := { c with runCounter := 0, tickAt := c.osc + fuPerMs }

/-- The qualifier as a reset ends (R17). Where R18 would have an input tied active give one pulse after the reset, R17's
RELEASING without a record is followed (DESIGN CHOICE, log entry 47). -/
def PulseInput.restart (p : PulseInput) : PulseInput :=
  { p with qualifier := if p.isActive then .releasing else .waiting }

/-- The timers start: the run counter (R8), the query timer (R55), the grade timer (R115), the evaluation timer (R143) and
the summary timer (R158). -/
def State.startTimers (s : State) : State :=
  (((((s.setClock s.clock.restart).setPulse s.pulse.restart).setExch
    { s.exch with queryIn := if s.configured .north then some 2 else none }).setSouth
    { s.south with gradeAt := s.clock.osc + 2 * fuPerMs }).setMon
    { s.mon with evalIn := s.mon.interval * 1000 }).setRep
    { s.rep with summaryIn := if s.rep.summaryInterval = 0 then none else some (s.rep.summaryInterval * 1000) }

/-- A POWER or FULL reset ends: the straps are read (R169, R172) and the timers start. -/
def State.endReset (s : State) (straps : BitVec 6) : State :=
  (({ s with phase := .running, straps := straps }).setAgent
    { s.agent with address := strapAddress straps }).startTimers

/-! ## POWER -/

/-- Power is applied: every record takes its POWER value (R172). -/
def State.powerUp (s : State) : State :=
  { State.reset with
    pending := s.pending
    phase := .powerReset
    supplyGood := false
    resetPin := s.resetPin
    straps := s.straps
    free := s.free
    clock := .initial s.clock.osc
    pulse := .initial s.pulse.pinHigh
    south := .initial s.clock.osc
    agent := .initial s.straps }

/-- The POWER reset ends: the timescale runs from 0 (R10). -/
def State.endPower (s : State) (straps : BitVec 6) : State := (s.setClock (.initial s.clock.osc)).endReset straps

/-! ## FULL -/

/-- A and I after a FULL reset: kept, clamped to the default A_max (R3, R10). -/
def Clock.full (c : Clock) : Clock :=
  { c with integI := clampInt (-100000000) 100000000 c.integI, rateA := clampInt (-100000000) 100000000 c.rateA }

/-- A frame in passage meets the start of a FULL reset (R22): one that has begun to leave is completed, a consumed one is
discarded at its last byte, and any other becomes a BYPASS frame. -/
def Passage.meetFull (p : Passage) (osc : Nat) : Passage :=
  if p.departedAt.isSome then p
  else if p.consumer.isSome then { p with consumer := some .nobody }
  else p.toBypass .boot osc

/-- A line meets the start of a FULL reset (R35). -/
def LineState.full (l : LineState) (osc : Nat) : LineState :=
  { LineState.initial with
    buffer := l.buffer.map (·.meetFull osc)
    transmit := if l.departing then .idle else l.transmit
    egress := l.egress }

/-- The line pair enters boot BYPASS at the start of a FULL reset (R20, R22, R35). -/
def LinePair.full (l : LinePair) (osc : Nat) : LinePair :=
  { LinePair.initial with north := l.north.full osc, south := l.south.full osc }

/-- The dater at the start of a FULL reset: every stream begins again, and the open dates stand until their frames end
(R126, R134). -/
def Dater.full (d : Dater) : Dater :=
  { Dater.initial with
    streams := d.streams.map fun x => .fresh (x.beginning + 1)
    openN := d.openN
    openS := d.openS }

/-- A FULL reset starts: all FULL values take effect (R172), and the arbiters pick in boot BYPASS (R35). -/
def State.startFull (s : State) : State :=
  (({ s with
      clock := s.clock.full
      pulse := .initial s.pulse.pinHigh
      lines := s.lines.full s.clock.osc
      cls := .initial
      exch := .initial
      servo := .initial
      south := .initial s.clock.osc
      dater := s.dater.full
      mon := .initial
      rep := .initial
      agent := .initial s.straps }).pickIfIdle .north).pickIfIdle .south

/-! ## WARM -/

/-- The pulse input after a WARM reset (R17); its qualifier is set as the reset ends. -/
def PulseInput.warm (p : PulseInput) : PulseInput :=
  { p with tentative := none, previousMark := none, queue := [], overrun := false }

/-- The exchange after a WARM reset (R70). -/
def Exchange.warm (e : Exchange) : Exchange :=
  { e.void with
    issued := 0, missed := 0, liveN := false, liveP := false, pulseExpiry := none, lastRegular := none,
    windowN := [], windowP := [] }

/-- The servo after a WARM reset (R88, R107). -/
def Servo.warm (v : Servo) : Servo :=
  let w :=
    { v with
      state := if v.state = ServoState.locked then .holdover else v.state
      lockCounter := 0, unlockCounter := 0, alignPending := false, markN := none, markP := none, revertIn := none,
      leaderClass := none, lastChange := none, lastPi := none, stepOutcome := none, stepPending := false }
  { w with
    entryU := if w.holdForm then some v.uncertainty else none
    holdTime := if w.holdForm then some 0 else none }

/-- The south server after a WARM reset (R118). -/
def SouthServer.warm (g : SouthServer) : SouthServer := { g with queue := [], waitingGrade := none }

/-- A date record is discarded at a WARM reset: its loss, and the loss it was carrying, go to the pending gap count of its
stream, where that stream has not begun again since (R134, log entry 38). -/
def Dater.discard (d : Dater) (r : DateRecord) : Dater :=
  { d with
    streams := d.streams.modify r.stream fun x =>
      if x.beginning = r.beginning then { x with gap := x.gap + 1 + r.gap } else x
    lostRecord := count16 d.lostRecord }

/-- The dater after a WARM reset (R134). -/
def Dater.warm (d : Dater) : Dater :=
  let e := d.queue.foldl Dater.discard d
  { e with queue := [], streams := e.streams.map fun x => { x with armed := true } }

/-- A held storage sample is discarded and counted (R152). -/
def discardHeld (held : Option HeldSample) (n : Nat) : Nat := if held.isSome then count16 n else n

/-- The drift monitor after a WARM reset (R153). -/
def Monitor.warm (m : Monitor) : Monitor :=
  { m with
    origins := m.origins.map OriginEntry.unseen
    racks := m.racks.map fun r => Rack.cleared r.config
    heldN := none
    heldS := none
    settleCounter := 0
    discardedByReset := discardHeld m.heldS (discardHeld m.heldN m.discardedByReset) }

/-- The report engine after a WARM reset, given whether a date record was discarded (R134, R164). -/
def ReportEngine.warm (r : ReportEngine) (discarded : Bool) : ReportEngine :=
  { r with
    notices := [], noticeWaiting := false, dateReportWaiting := false, summaryWaiting := false,
    noticeOverflow := true, dateGap := r.dateGap || discarded }

/-- The agent after a WARM reset (R173). -/
def Agent.warm (a : Agent) : Agent := { a with queue := [], results := [], overflowed := false, hold := none }

/-- A line after a WARM reset: all kept (R35). The hold that waited for a response's departure is over. -/
def LineState.warm (l : LineState) : LineState :=
  { l with origin := l.origin.map fun f => { f with resetResponse := false } }

/-- A WARM reset, given to every block as one event (R171). -/
def State.warmReset (s : State) : State :=
  ({ s with
      pulse := s.pulse.warm
      lines := { s.lines with north := s.lines.north.warm, south := s.lines.south.warm }
      exch := s.exch.warm
      servo := s.servo.warm
      south := s.south.warm
      dater := s.dater.warm
      mon := s.mon.warm
      rep := s.rep.warm (!s.dater.queue.isEmpty)
      agent := s.agent.warm }).startTimers

/-! ## What starts and ends a reset -/

/-- The hold of a RESET ends: a WARM reset as one event, or a FULL reset that ends as soon as it has taken effect (R171,
R172). -/
def State.endHold (s : State) (straps : BitVec 6) : State :=
  match s.agent.hold with
  | some h => if h.full then s.startFull.endReset straps else s.warmReset
  | none => s

/-- Whether an assertion of the reset pin of some length starts the reset (R172, log entry 11). -/
def State.pinQualifies (s : State) (heldNs : Nat) : Bool :=
  if heldNs < 1000 then false else if 10000 ≤ heldNs then true else Config.pinStartsReset s.free

/-- The free value of an assertion of between 1 µs and 10 µs is spent (log entry 27). -/
def State.spendFree (s : State) (heldNs : Nat) : State :=
  if 1000 ≤ heldNs ∧ heldNs < 10000 then { s with free := s.free + 1 } else s

/-- The reset pin is asserted (R172). During a POWER reset an assertion of any length holds the reset until its release, also
one too short to start a FULL reset (DESIGN CHOICE, log entry 59). -/
def State.assertPin (s : State) (heldNs : Nat) : State :=
  match s.phase with
  | .running =>
    let t := s.spendFree heldNs
    if s.pinQualifies heldNs then { t.startFull with phase := .pinReset, resetPin := true } else t
  | .powerReset => { s with resetPin := true }
  | .pinReset => s

/-- The reset pin is released (R172). -/
def State.releasePin (s : State) (straps : BitVec 6) : State :=
  let t := { s with resetPin := false }
  match s.phase with
  | .running => t
  | .powerReset => if s.supplyGood then t.endPower straps else t
  | .pinReset => t.endReset straps

/-- The supply becomes good (R172). -/
def State.supply (s : State) (straps : BitVec 6) : State :=
  if s.phase = .powerReset then
    let t := { s with supplyGood := true }
    if s.resetPin then t else t.endPower straps
  else s

end Sys2Proof.Machine
end

