-- ==== Sys2Proof/Machine/Expiries.lean ====
section
/-! DEFINITION. The part's own expiries and the pulse input: the tick (R8), the boundary (R6, R161), the qualifier (R12 to
R14), and the timers that the chapters give (R97, R98, R131, R156, R158, R161). -/

namespace Sys2Proof.Machine

/-! ## The tick (R8) -/

/-- A live-since mark one millisecond older (R98). -/
def LiveMark.older (m : LiveMark) : LiveMark := { m with age := m.age + 1 }

/-- The servo's run-time measures advance (R84, R98). -/
def Servo.tick (v : Servo) : Servo :=
  { v with
    holdTime := v.holdTime.map (· + 1)
    markN := v.markN.map LiveMark.older
    markP := v.markP.map LiveMark.older
    revertIn := v.revertIn.map Nat.pred }

/-- A millisecond of oscillator time (R8): the run counter, and every measure kept on it. -/
def State.tick (s : State) : State :=
  ((((s.setClock { s.clock with runCounter := s.clock.runCounter + 1, tickAt := s.clock.tickAt + fuPerMs }).setExch
    { s.exch with queryIn := s.exch.queryIn.map Nat.pred }).setServo s.servo.tick).setMon
    { s.mon with evalIn := s.mon.evalIn.pred }).setRep { s.rep with summaryIn := s.rep.summaryIn.map Nat.pred }

/-! ## The second boundary (R6, R161) -/

/-- A boundary-reached event schedules a start on a SECOND-mode line (R161). -/
def PulseLine.schedule (p : PulseLine) : PulseLine :=
  if p.mode = .second then { p with starts := p.starts ++ [p.phase * fuPerNs] } else p

/-- Running has carried the timescale onto a whole second: the pulse lines and the classifier are told (R6). -/
def State.reachBoundary (s : State) : State :=
  (s.setRep { s.rep with pulseLines := s.rep.pulseLines.map PulseLine.schedule }).boundaryEvent
    (s.clock.value / fuPerSecond)

/-- The boundary is the next thing to happen, or nothing is done (log entry 7). -/
def State.takeBoundary (s : State) : State :=
  if s.deadlines.all (s.clock.boundaryIn ≤ ·) then (s.runFor s.clock.boundaryIn).reachBoundary else s

/-! ## Pulse lines (R161) -/

/-- The nearest of a line's scheduled starts. -/
def PulseLine.nextStart (p : PulseLine) : Option Nat := p.starts.min?

/-- A start falls: the pulse begins, or the one in progress is extended (R161). -/
def PulseLine.begin (p : PulseLine) (osc : Nat) : PulseLine :=
  { p with
    starts := match p.nextStart with
      | some x => p.starts.erase x
      | none => p.starts
    pulseEnd := some (osc + p.widthFu) }

/-- A scheduled start on a line is taken (R161). -/
def State.takeStart (s : State) (k : Nat) : State :=
  match (s.rep.pulseLine k).nextStart with
  | some x =>
    s.takeAt (s.clock.timeFor x) fun t => t.setRep (t.rep.modifyPulse k fun p => p.begin t.clock.osc)
  | none => s

/-- The end of a line's pulse is taken (R161). -/
def State.takeEnd (s : State) (k : Nat) : State :=
  match s.pulseEndIn (s.rep.pulseLine k) with
  | some d => s.takeAt d fun t => t.setRep (t.rep.modifyPulse k fun p => { p with pulseEnd := none })
  | none => s

/-! ## The pulse input (R12 to R14) -/

/-- The tentative capture of a leading edge (R12). -/
def State.tentative (s : State) : Tentative where
  value := s.clock.value
  runCounter := s.clock.runCounter
  endsAt := s.clock.osc + s.pulse.debounce * fuPerNs

/-- The input becomes active (R12); an edge during a reset is not captured (R17). -/
def State.leadingEdge (s : State) : State :=
  if s.pulse.isActive then s
  else
    let p := { s.pulse with pinHigh := s.pulse.activeHigh }
    if s.phase = .running ∧ s.pulse.qualifier = .waiting then
      s.setPulse { p with qualifier := .timing, tentative := some s.tentative }
    else s.setPulse p

/-- The input becomes inactive before the debounce width has elapsed, or in RELEASING (R12). -/
def PulseInput.deactivate (p : PulseInput) : PulseInput :=
  let q := { p with pinHigh := !p.activeHigh, qualifier := .waiting }
  match p.qualifier with
  | .timing => { q with tentative := none, rejected := count16 p.rejected }
  | _ => q

/-- A pulse is REGULAR by the previous capture mark (R14). -/
def PulseInput.isRegular (p : PulseInput) (reading : BitVec 32) : Bool :=
  match p.previousMark with
  | some m => 999 ≤ (reading - m).toNat && (reading - m).toNat ≤ 1001
  | none => false

/-- The capture record of a qualified pulse (R13). -/
def PulseInput.captureOf (p : PulseInput) (t : Tentative) : CaptureRecord where
  value := t.value
  runCounter := t.runCounter
  regular := p.isRegular t.runCounter
  soft := false

/-- A pulse is qualified: its record joins the capture queue and is handed to the pulse reference (R13 to R15). -/
def State.qualify (s : State) : State :=
  match s.pulse.tentative with
  | some t =>
    let c := s.pulse.captureOf t
    (s.setPulse
      { s.pulse.record c with
        qualifier := .releasing, tentative := none, previousMark := some t.runCounter }).takeCapture c
  | none => s

/-- A pulse whose debounce width has elapsed is qualified before its end is taken (R11, R12). -/
def State.qualifyDue (s : State) : State := if s.phase = .running ∧ s.debounceIn = some 0 then s.qualify else s

/-- The input becomes inactive (R12). -/
def State.trailingEdge (s : State) : State :=
  if s.pulse.isActive then s.qualifyDue.setPulse s.qualifyDue.pulse.deactivate else s

/-! ## Other expiries -/

/-- The revert expiry (R98). -/
def State.revertExpiry (s : State) : State :=
  s.tracked fun t => (t.setServo { t.servo with revertIn := none }).revertTest

/-- The summary timer expires (R158). -/
def State.summaryTimer (s : State) : State :=
  (s.setRep
    { s.rep with
      summaryIn := some (s.rep.summaryInterval * 1000)
      summaryWaiting := s.rep.summaryWaiting || s.rep.collector != 0 }).fill s.rep.collectorLine

/-- An expiry timed at full resolution is taken while no reset is in progress. -/
def State.takeTimed (s : State) (distance : Option Nat) (effect : State → State) : State :=
  match distance with
  | some d => if s.phase = .running then s.takeAt d effect else s
  | none => s

end Sys2Proof.Machine
end

