-- ==== Sys2Proof/Machine/Commands.lean ====
section
/-! DEFINITION. The meanings of the other commands of a request (R168). -/

namespace Sys2Proof.Machine

/-- `COPY`. COPY (R46). -/
def execCopy (dt : Nat) (s : State) : Host.Outcome State Fault Refusal :=
  .next <| (s.runBy dt).carryOut fun t i =>
    match i with
    | .copy => some (t.copyBank)
    | _ => none

/-- `SWAP`. SWAP (R47). -/
def execSwap (dt : Nat) (s : State) : Host.Outcome State Fault Refusal :=
  .next <| (s.runBy dt).carryOut fun t i =>
    match i with
    | .swap => some (t.requestSwap)
    | _ => none

/-- `SERVO_AUTO`. SERVO AUTO (R99). -/
def execServoAuto (dt : Nat) (s : State) : Host.Outcome State Fault Refusal :=
  .next <| (s.runBy dt).carryOut fun t i =>
    match i with
    | .servoAuto => some (t.servoAuto)
    | _ => none

/-- `SERVO_HELD`. SERVO HELD (R99). -/
def execServoHeld (dt : Nat) (s : State) : Host.Outcome State Fault Refusal :=
  .next <| (s.runBy dt).carryOut fun t i =>
    match i with
    | .servoHeld => some (t.servoHeld)
    | _ => none

/-- `SERVO_ALIGN`. SERVO ALIGN (R100). -/
def execServoAlign (dt : Nat) (s : State) : Host.Outcome State Fault Refusal :=
  .next <| (s.runBy dt).carryOut fun t i =>
    match i with
    | .servoAlign => some (t.servoAlign)
    | _ => none

/-- `SERVO_SET_RATE`. SERVO SET RATE (R101). -/
def execServoSetRate (dt : Nat) (s : State) : Host.Outcome State Fault Refusal :=
  .next <| (s.runBy dt).carryOut fun t i =>
    match i with
    | .servoSetRate rate => some (t.servoSetRate rate)
    | _ => none

/-- `SET_TIME`. SET TIME (R102). -/
def execSetTime (dt : Nat) (s : State) : Host.Outcome State Fault Refusal :=
  .next <| (s.runBy dt).carryOut fun t i =>
    match i with
    | .setTime target => some (t.setTimeItem target)
    | _ => none

/-- `CAPTURE_READ`. CAPTURE READ (R15). -/
def execCaptureRead (dt : Nat) (s : State) : Host.Outcome State Fault Refusal :=
  .next <| (s.runBy dt).carryOut fun t i =>
    match i with
    | .captureRead => some (t.captureRead)
    | _ => none

/-- `CAPTURE_NOW`. CAPTURE NOW (R16). -/
def execCaptureNow (dt : Nat) (s : State) : Host.Outcome State Fault Refusal :=
  .next <| (s.runBy dt).carryOut fun t i =>
    match i with
    | .captureNow => some (t.captureNow)
    | _ => none

/-- `CLEAR`. CLEAR (R163). -/
def execClear (dt : Nat) (s : State) : Host.Outcome State Fault Refusal :=
  .next <| (s.runBy dt).carryOut fun t i =>
    match i with
    | .clear dateGap noticeOverflow => some (t.clearLatches dateGap noticeOverflow)
    | _ => none

/-- `SUMMARY`. SUMMARY (R159). -/
def execSummary (dt : Nat) (s : State) : Host.Outcome State Fault Refusal :=
  .next <| (s.runBy dt).carryOut fun t i =>
    match i with
    | .summary => some (t.requestSummary)
    | _ => none

/-- `BYPASS_ON`. BYPASS ON (R21). -/
def execBypassOn (dt : Nat) (s : State) : Host.Outcome State Fault Refusal :=
  .next <| (s.runBy dt).carryOut fun t i =>
    match i with
    | .bypassOn => some (t.bypassOn)
    | _ => none

/-- `BYPASS_OFF`. BYPASS OFF (R21). -/
def execBypassOff (dt : Nat) (s : State) : Host.Outcome State Fault Refusal :=
  .next <| (s.runBy dt).carryOut fun t i =>
    match i with
    | .bypassOff => some (t.bypassOff)
    | _ => none

/-- `RESET_WARM`. RESET WARM (R171). -/
def execResetWarm (dt : Nat) (s : State) : Host.Outcome State Fault Refusal :=
  .next ((s.runBy dt).carryReset false)

/-- `RESET_FULL`. RESET FULL (R171). -/
def execResetFull (dt : Nat) (s : State) : Host.Outcome State Fault Refusal :=
  .next ((s.runBy dt).carryReset true)

end Sys2Proof.Machine
end

