-- ==== Sys2Proof/Machine/Frames.lean ====
section
/-! DEFINITION. The meanings of the commands of the frames on the two lines (R23 to R33). -/

namespace Sys2Proof.Machine

/-- `FRAME_FIRST_BYTE`. A frame's first byte arrives (R26). -/
def execFrameFirstByte (dt : Nat) (line : Line) (bytes : List Byte) (s : State) : Host.Outcome State Fault Refusal :=
  .next ((s.runBy dt).firstByte line bytes)

/-- `BYPASS_PAYLOAD_START`. The payload start of a commanded-BYPASS frame arrives (R28). -/
def execBypassPayloadStart (dt : Nat) (line : Line) (s : State) : Host.Outcome State Fault Refusal :=
  .next ((s.runBy dt).startPayload line)

/-- `CLASSIFICATION_COMPLETE`. The classification of an arriving frame completes (R24). -/
def execClassificationComplete (dt : Nat) (line : Line) (s : State) : Host.Outcome State Fault Refusal :=
  .next ((s.runBy dt).completeClassification line)

/-- `FRAME_END`. A frame's last byte arrives (R24). -/
def execFrameEnd (dt : Nat) (line : Line) (s : State) : Host.Outcome State Fault Refusal :=
  .next ((s.runBy dt).endFrame line)

/-- `FRAME_OVERLENGTH`. A frame reaches its 9,217th byte (R26). -/
def execFrameOverlength (dt : Nat) (line : Line) (s : State) : Host.Outcome State Fault Refusal :=
  .next ((s.runBy dt).reachOverlength line)

/-- `FRAME_DEPARTURE`. The frame that an arbiter has picked begins to leave (R23). -/
def execFrameDeparture (line : Line) (s : State) : Host.Outcome State Fault Refusal :=
  .next (s.departFrame line)

/-- `TRANSMIT_END`. A line finishes sending a frame (R33). -/
def execTransmitEnd (dt : Nat) (line : Line) (s : State) : Host.Outcome State Fault Refusal :=
  .next ((s.runBy dt).endTransmit line)

end Sys2Proof.Machine
end

