-- ==== Sys2Proof/Machine/Power.lean ====
section
/-! DEFINITION. The meanings of the commands of the supply, the reset pin and the hold of a RESET (R171, R172). -/

namespace Sys2Proof.Machine

/-- `POWER_ON`. Power is applied (R172). -/
def execPowerOn (s : State) : Host.Outcome State Fault Refusal :=
  .next (s.powerUp)

/-- `POWER_GOOD`. The supply becomes good (R172). -/
def execPowerGood (dt : Nat) (straps : BitVec 6) (s : State) : Host.Outcome State Fault Refusal :=
  .next ((s.runBy dt).supply straps)

/-- `RESET_PIN_ASSERT`. The reset pin is asserted for some time (R172). -/
def execResetPinAssert (dt : Nat) (heldNs : Nat) (s : State) : Host.Outcome State Fault Refusal :=
  .next ((s.runBy dt).assertPin heldNs)

/-- `RESET_PIN_RELEASE`. The reset pin is released (R172). -/
def execResetPinRelease (dt : Nat) (straps : BitVec 6) (s : State) : Host.Outcome State Fault Refusal :=
  .next ((s.runBy dt).releasePin straps)

/-- `RESET_HOLD_EXPIRY`. The hold of a RESET command ends (R171). -/
def execResetHoldExpiry (straps : BitVec 6) (s : State) : Host.Outcome State Fault Refusal :=
  .next (s.takeIf s.resetHoldDue fun t => t.endHold straps)

end Sys2Proof.Machine
end

