-- ==== Sys2Proof/Machine/Reads.lean ====
section
/-! DEFINITION. The meanings of requests refused for their form, and READ items (R168). -/

namespace Sys2Proof.Machine

/-- `REQUEST_BAD_COMMAND`. A request whose command is unknown is answered (R168). -/
def execRequestBadCommand (dt : Nat) (s : State) : Host.Outcome State Fault Refusal :=
  .next ((s.runBy dt).answerBadCommand)

/-- `REQUEST_BAD_ITEMS`. A request, or an item of one, is refused for its form (R168, R179). -/
def execRequestBadItems (dt : Nat) (s : State) : Host.Outcome State Fault Refusal :=
  .next ((s.runBy dt).answerBadItems)

/-- `READ_SETTINGS`. A READ of settings (R169). -/
def execReadSettings (dt : Nat) (s : State) : Host.Outcome State Fault Refusal :=
  .next <| (s.runBy dt).carryRead fun t i =>
    match i with
    | .readSettings ids => some (t.readSettings ids)
    | _ => none

/-- `READ_CLASS_TABLE`. A READ of the class table (R39). -/
def execReadClassTable (dt : Nat) (s : State) : Host.Outcome State Fault Refusal :=
  .next <| (s.runBy dt).carryRead fun t i =>
    match i with
    | .readClass shadow first count => some (t.readClass shadow first count)
    | _ => none

/-- `READ_MATCH_COUNTS`. A READ of the match counts (R39). -/
def execReadMatchCounts (dt : Nat) (s : State) : Host.Outcome State Fault Refusal :=
  .next <| (s.runBy dt).carryRead fun t i =>
    match i with
    | .readMatch first count => some (t.readMatch first count)
    | _ => none

/-- `READ_ORIGIN_TABLE`. A READ of the origin table (R152). -/
def execReadOriginTable (dt : Nat) (s : State) : Host.Outcome State Fault Refusal :=
  .next <| (s.runBy dt).carryRead fun t i =>
    match i with
    | .readOrigin first count => some (t.readOrigin first count)
    | _ => none

/-- `READ_RACK_TABLE`. A READ of the rack table (R152). -/
def execReadRackTable (dt : Nat) (s : State) : Host.Outcome State Fault Refusal :=
  .next <| (s.runBy dt).carryRead fun t i =>
    match i with
    | .readRack first count => some (t.readRack first count)
    | _ => none

/-- `READ_MANAGER_LIST`. A READ of the manager list (R166). -/
def execReadManagerList (dt : Nat) (s : State) : Host.Outcome State Fault Refusal :=
  .next <| (s.runBy dt).carryRead fun t i =>
    match i with
    | .readManagers => some (t.readManagers)
    | _ => none

/-- `READ_STREAM_TABLE`. A READ of the stream table (R133). -/
def execReadStreamTable (dt : Nat) (s : State) : Host.Outcome State Fault Refusal :=
  .next <| (s.runBy dt).carryRead fun t i =>
    match i with
    | .readStream first count => some (t.readStream first count)
    | _ => none

/-- `READ_COUNT_GROUP`. A READ of a block's counts (R178). -/
def execReadCountGroup (dt : Nat) (s : State) : Host.Outcome State Fault Refusal :=
  .next <| (s.runBy dt).carryRead fun t i =>
    match i with
    | .readCounts block => some (t.readCounts block)
    | _ => none

/-- `READ_BLOCK_STATUS`. A READ of a block's status (R178). -/
def execReadBlockStatus (dt : Nat) (s : State) : Host.Outcome State Fault Refusal :=
  .next <| (s.runBy dt).carryRead fun t i =>
    match i with
    | .readStatus block => some (t.readStatus block)
    | _ => none

end Sys2Proof.Machine
end

