-- ==== Sys2Proof/Machine/Time.lean ====
section
/-! DEFINITION. The meanings of the commands of the run counter, the boot window, the second boundary and the pulse input (R6, R8, R12, R20). -/

namespace Sys2Proof.Machine

/-- `RUN_COUNTER_TICK`. A millisecond of oscillator time has run (R8). -/
def execRunCounterTick (s : State) : Host.Outcome State Fault Refusal :=
  .next (s.takeTimed (some s.tickIn) State.tick)

/-- `BOOT_WINDOW_END`. The run counter has reached 2 ms in boot BYPASS (R20). -/
def execBootWindowEnd (s : State) : Host.Outcome State Fault Refusal :=
  .next (s.takeIf s.bootWindowDue State.enterActive)

/-- `BOUNDARY_REACHED`. Running carries the timescale onto a whole second (R6). -/
def execBoundaryReached (s : State) : Host.Outcome State Fault Refusal :=
  .next (s.takeBoundary)

/-- `PULSE_LEADING_EDGE`. The pulse input becomes active (R12). -/
def execPulseLeadingEdge (dt : Nat) (s : State) : Host.Outcome State Fault Refusal :=
  .next ((s.runBy dt).leadingEdge)

/-- `PULSE_INPUT_INACTIVE`. The pulse input becomes inactive (R12). -/
def execPulseInputInactive (dt : Nat) (s : State) : Host.Outcome State Fault Refusal :=
  .next ((s.runBy dt).trailingEdge)

/-- `DEBOUNCE_EXPIRY`. The debounce width has elapsed with the input active (R12). -/
def execDebounceExpiry (s : State) : Host.Outcome State Fault Refusal :=
  .next (s.takeTimed s.debounceIn State.qualify)

end Sys2Proof.Machine
end

