-- ==== Sys2Proof/Machine/Timers.lean ====
section
/-! DEFINITION. The meanings of the commands of the blocks' timers. -/

namespace Sys2Proof.Machine

/-- `QUERY_TIMER_EXPIRY`. The query timer expires (R56). -/
def execQueryTimerExpiry (s : State) : Host.Outcome State Fault Refusal :=
  .next (s.takeIf s.queryTimerDue State.queryTimer)

/-- `REPLY_WINDOW_EXPIRY`. The reply window of an open Query expires (R59). -/
def execReplyWindowExpiry (s : State) : Host.Outcome State Fault Refusal :=
  .next (s.takeIf s.replyWindowDue State.replyWindow)

/-- `PULSE_LIVENESS_EXPIRY`. Three seconds have passed with no REGULAR capture (R66). -/
def execPulseLivenessExpiry (s : State) : Host.Outcome State Fault Refusal :=
  .next (s.takeIf s.pulseLivenessDue State.pulseLost)

/-- `HOLDOVER_LIMIT_EXPIRY`. t_h has reached the holdover limit (R97). -/
def execHoldoverLimitExpiry (s : State) : Host.Outcome State Fault Refusal :=
  .next (s.takeIf s.holdoverLimitDue State.endHoldover)

/-- `U_CEILING`. The holdover form of U has reached the ceiling (R85). -/
def execUCeiling (s : State) : Host.Outcome State Fault Refusal :=
  .next (s.takeIf s.ceilingDue State.endHoldover)

/-- `REVERT_EXPIRY`. The age of the primary's live-since mark has reached the revert time (R98). -/
def execRevertExpiry (s : State) : Host.Outcome State Fault Refusal :=
  .next (s.takeIf s.revertDue State.revertExpiry)

/-- `GRADE_TIMER_EXPIRY`. The grade timer expires (R116). -/
def execGradeTimerExpiry (s : State) : Host.Outcome State Fault Refusal :=
  .next (s.takeTimed (some s.gradeIn) State.gradeTimer)

/-- `EVALUATION`. The evaluation timer expires (R143). -/
def execEvaluation (s : State) : Host.Outcome State Fault Refusal :=
  .next (s.takeIf s.evaluationDue State.evaluate)

/-- `SUMMARY_TIMER_EXPIRY`. The summary timer expires (R158). -/
def execSummaryTimerExpiry (s : State) : Host.Outcome State Fault Refusal :=
  .next (s.takeIf s.summaryDue State.summaryTimer)

/-- `REPORT_LATENCY_EXPIRY`. The oldest date record reaches the report latency (R131). -/
def execReportLatencyExpiry (s : State) : Host.Outcome State Fault Refusal :=
  .next (s.takeTimed s.latencyIn State.refreshDateReport)

/-- `NOTICE_HOLDOFF_EXPIRY`. The oldest notice-set entry reaches the holdoff (R156). -/
def execNoticeHoldoffExpiry (s : State) : Host.Outcome State Fault Refusal :=
  .next (s.takeTimed s.holdoffIn State.refreshNotice)

/-- `PULSE_LINE_START`. A scheduled start falls on a pulse line (R161). -/
def execPulseLineStart (number : Nat) (s : State) : Host.Outcome State Fault Refusal :=
  .next (s.takeStart number)

/-- `PULSE_LINE_END`. A pulse line reaches its pulse end (R161). -/
def execPulseLineEnd (number : Nat) (s : State) : Host.Outcome State Fault Refusal :=
  .next (s.takeEnd number)

end Sys2Proof.Machine
end

