-- ==== Sys2Proof/Machine/Writes.lean ====
section
/-! DEFINITION. The meanings of the commands of WRITE items (R168). -/

namespace Sys2Proof.Machine

/-- `WRITE_SETTING`. A WRITE of a setting that has no step of its own (R169). -/
def execWriteSetting (dt : Nat) (s : State) : Host.Outcome State Fault Refusal :=
  .next <| (s.runBy dt).carryOut fun t i =>
    match i with
    | .writeSetting id v => if hasOwnStep id then none else some (t.writePlain id v)
    | _ => none

/-- `WRITE_PULSE_POLARITY`. A WRITE of the pulse polarity (R11). -/
def execWritePulsePolarity (dt : Nat) (s : State) : Host.Outcome State Fault Refusal :=
  .next <| (s.runBy dt).carryOut fun t i =>
    match i with
    | .writeSetting id v => if id = 7 then some (t.writePolarity v) else none
    | _ => none

/-- `WRITE_LEADER_ADDRESS`. A WRITE of the leader address (R54). -/
def execWriteLeaderAddress (dt : Nat) (s : State) : Host.Outcome State Fault Refusal :=
  .next <| (s.runBy dt).carryOut fun t i =>
    match i with
    | .writeSetting id v => if id = 9 then some (t.writeLeader v) else none
    | _ => none

/-- `WRITE_REFERENCE`. A WRITE of the primary or secondary reference (R91). -/
def execWriteReference (dt : Nat) (s : State) : Host.Outcome State Fault Refusal :=
  .next <| (s.runBy dt).carryOut fun t i =>
    match i with
    | .writeSetting id v => if id = 23 ∨ id = 24 then some (t.writeRef (id == 23) v) else none
    | _ => none

/-- `WRITE_A_MAX`. A WRITE of A_max (R71). -/
def execWriteAMax (dt : Nat) (s : State) : Host.Outcome State Fault Refusal :=
  .next <| (s.runBy dt).carryOut fun t i =>
    match i with
    | .writeSetting id v => if id = 20 then some (t.writeAMax v) else none
    | _ => none

/-- `WRITE_HOLDOVER_BOUND`. A WRITE of H (R71). -/
def execWriteHoldoverBound (dt : Nat) (s : State) : Host.Outcome State Fault Refusal :=
  .next <| (s.runBy dt).carryOut fun t i =>
    match i with
    | .writeSetting id v => if id = 22 then some (t.writeHoldBound v) else none
    | _ => none

/-- `WRITE_HOLDOVER_LIMIT`. A WRITE of the holdover limit (R97). -/
def execWriteHoldoverLimit (dt : Nat) (s : State) : Host.Outcome State Fault Refusal :=
  .next <| (s.runBy dt).carryOut fun t i =>
    match i with
    | .writeSetting id v => if id = 29 then some (t.writeHoldLimit v) else none
    | _ => none

/-- `WRITE_WINDOW_SIZE`. A WRITE of W (R64). -/
def execWriteWindowSize (dt : Nat) (s : State) : Host.Outcome State Fault Refusal :=
  .next <| (s.runBy dt).carryOut fun t i =>
    match i with
    | .writeSetting id v => if id = 14 then some (t.writeWindow v) else none
    | _ => none

/-- `WRITE_REVERT_SETTING`. A WRITE of revert enable or the revert time (R98). -/
def execWriteRevertSetting (dt : Nat) (s : State) : Host.Outcome State Fault Refusal :=
  .next <| (s.runBy dt).carryOut fun t i =>
    match i with
    | .writeSetting id v => if id = 25 ∨ id = 26 then some (if id = 25 then t.writeRevertEnable v else t.writeRevertTime v) else none
    | _ => none

/-- `WRITE_EVALUATION_INTERVAL`. A WRITE of E (R143). -/
def execWriteEvaluationInterval (dt : Nat) (s : State) : Host.Outcome State Fault Refusal :=
  .next <| (s.runBy dt).carryOut fun t i =>
    match i with
    | .writeSetting id v => if id = 38 then some (t.writeInterval v) else none
    | _ => none

/-- `WRITE_SETTLE_COUNT`. A WRITE of n_s (R142). -/
def execWriteSettleCount (dt : Nat) (s : State) : Host.Outcome State Fault Refusal :=
  .next <| (s.runBy dt).carryOut fun t i =>
    match i with
    | .writeSetting id v => if id = 36 then some (t.writeSettleCount v) else none
    | _ => none

/-- `WRITE_COLLECTOR_ADDRESS`. A WRITE of the collector address (R157). -/
def execWriteCollectorAddress (dt : Nat) (s : State) : Host.Outcome State Fault Refusal :=
  .next <| (s.runBy dt).carryOut fun t i =>
    match i with
    | .writeSetting id v => if id = 41 then some (t.writeCollector v) else none
    | _ => none

/-- `WRITE_COLLECTOR_LINE`. A WRITE of the collector line (R157). -/
def execWriteCollectorLine (dt : Nat) (s : State) : Host.Outcome State Fault Refusal :=
  .next <| (s.runBy dt).carryOut fun t i =>
    match i with
    | .writeSetting id v => if id = 42 then some (t.writeCollectorLine v) else none
    | _ => none

/-- `WRITE_SUMMARY_INTERVAL`. A WRITE of the summary interval (R158). -/
def execWriteSummaryInterval (dt : Nat) (s : State) : Host.Outcome State Fault Refusal :=
  .next <| (s.runBy dt).carryOut fun t i =>
    match i with
    | .writeSetting id v => if id = 45 then some (t.writeSummaryInterval v) else none
    | _ => none

/-- `WRITE_PULSE_LINE_MODE`. A WRITE of a pulse line's mode or polarity (R160). -/
def execWritePulseLineMode (dt : Nat) (s : State) : Host.Outcome State Fault Refusal :=
  .next <| (s.runBy dt).carryOut fun t i =>
    match i with
    | .writeSetting id v =>
      if 46 ≤ id ∧ id ≤ 65 ∧ (id - 46) % 5 ≤ 1 then some (t.writePulseMode id v) else none
    | _ => none

/-- `WRITE_DRAIN_SETTING`. A WRITE of the batch threshold or report latency (R131). -/
def execWriteDrainSetting (dt : Nat) (s : State) : Host.Outcome State Fault Refusal :=
  .next <| (s.runBy dt).carryOut fun t i =>
    match i with
    | .writeSetting id v => if id = 33 ∨ id = 34 then some (if id = 33 then t.writeBatch v else t.writeLatency v) else none
    | _ => none

/-- `WRITE_CLASS_ENTRY`. A WRITE of the class table (R38). -/
def execWriteClassEntry (dt : Nat) (s : State) : Host.Outcome State Fault Refusal :=
  .next <| (s.runBy dt).carryOut fun t i =>
    match i with
    | .writeClass index line entry => some (t.writeClass index line entry)
    | _ => none

/-- `WRITE_ORIGIN_ENTRY`. A WRITE of the origin table (R137). -/
def execWriteOriginEntry (dt : Nat) (s : State) : Host.Outcome State Fault Refusal :=
  .next <| (s.runBy dt).carryOut fun t i =>
    match i with
    | .writeOrigin index enabled source rack => some (t.writeOriginItem index enabled source rack)
    | _ => none

/-- `WRITE_RACK_ENTRY`. A WRITE of the rack table (R139). -/
def execWriteRackEntry (dt : Nat) (s : State) : Host.Outcome State Fault Refusal :=
  .next <| (s.runBy dt).carryOut fun t i =>
    match i with
    | .writeRack index config => some (t.writeRackItem index config)
    | _ => none

/-- `WRITE_MANAGER_PLACE`. A WRITE of the manager list (R166). -/
def execWriteManagerPlace (dt : Nat) (s : State) : Host.Outcome State Fault Refusal :=
  .next <| (s.runBy dt).carryOut fun t i =>
    match i with
    | .writeManager index v => some (t.writeManager index v)
    | _ => none

end Sys2Proof.Machine
end

