-- ==== Sys2Proof/Machine/Dispatch.lean ====
section
/-! DEFINITION. One arm per command: the call of its meaning. -/

namespace Sys2Proof.Machine

/-- A command's effect on everything but the queue of commands. -/
def exec (i : Instr) (s : State) : Host.Outcome State Fault Refusal :=
  match i with
  | .powerOn => Sys2Proof.Machine.execPowerOn s
  | .powerGood dt straps => Sys2Proof.Machine.execPowerGood dt straps s
  | .resetPinAssert dt heldNs => Sys2Proof.Machine.execResetPinAssert dt heldNs s
  | .resetPinRelease dt straps => Sys2Proof.Machine.execResetPinRelease dt straps s
  | .runCounterTick => Sys2Proof.Machine.execRunCounterTick s
  | .bootWindowEnd => Sys2Proof.Machine.execBootWindowEnd s
  | .boundaryReached => Sys2Proof.Machine.execBoundaryReached s
  | .pulseLeadingEdge dt => Sys2Proof.Machine.execPulseLeadingEdge dt s
  | .pulseInputInactive dt => Sys2Proof.Machine.execPulseInputInactive dt s
  | .debounceExpiry => Sys2Proof.Machine.execDebounceExpiry s
  | .frameFirstByte dt line bytes => Sys2Proof.Machine.execFrameFirstByte dt line bytes s
  | .bypassPayloadStart dt line => Sys2Proof.Machine.execBypassPayloadStart dt line s
  | .classificationComplete dt line => Sys2Proof.Machine.execClassificationComplete dt line s
  | .frameEnd dt line => Sys2Proof.Machine.execFrameEnd dt line s
  | .frameOverlength dt line => Sys2Proof.Machine.execFrameOverlength dt line s
  | .frameDeparture line => Sys2Proof.Machine.execFrameDeparture line s
  | .transmitEnd dt line => Sys2Proof.Machine.execTransmitEnd dt line s
  | .queryTimerExpiry => Sys2Proof.Machine.execQueryTimerExpiry s
  | .replyWindowExpiry => Sys2Proof.Machine.execReplyWindowExpiry s
  | .pulseLivenessExpiry => Sys2Proof.Machine.execPulseLivenessExpiry s
  | .holdoverLimitExpiry => Sys2Proof.Machine.execHoldoverLimitExpiry s
  | .uCeiling => Sys2Proof.Machine.execUCeiling s
  | .revertExpiry => Sys2Proof.Machine.execRevertExpiry s
  | .gradeTimerExpiry => Sys2Proof.Machine.execGradeTimerExpiry s
  | .evaluation => Sys2Proof.Machine.execEvaluation s
  | .summaryTimerExpiry => Sys2Proof.Machine.execSummaryTimerExpiry s
  | .reportLatencyExpiry => Sys2Proof.Machine.execReportLatencyExpiry s
  | .noticeHoldoffExpiry => Sys2Proof.Machine.execNoticeHoldoffExpiry s
  | .pulseLineStart number => Sys2Proof.Machine.execPulseLineStart number s
  | .pulseLineEnd number => Sys2Proof.Machine.execPulseLineEnd number s
  | .resetHoldExpiry straps => Sys2Proof.Machine.execResetHoldExpiry straps s
  | .requestBadCommand dt => Sys2Proof.Machine.execRequestBadCommand dt s
  | .requestBadItems dt => Sys2Proof.Machine.execRequestBadItems dt s
  | .readSettings dt => Sys2Proof.Machine.execReadSettings dt s
  | .readClassTable dt => Sys2Proof.Machine.execReadClassTable dt s
  | .readMatchCounts dt => Sys2Proof.Machine.execReadMatchCounts dt s
  | .readOriginTable dt => Sys2Proof.Machine.execReadOriginTable dt s
  | .readRackTable dt => Sys2Proof.Machine.execReadRackTable dt s
  | .readManagerList dt => Sys2Proof.Machine.execReadManagerList dt s
  | .readStreamTable dt => Sys2Proof.Machine.execReadStreamTable dt s
  | .readCountGroup dt => Sys2Proof.Machine.execReadCountGroup dt s
  | .readBlockStatus dt => Sys2Proof.Machine.execReadBlockStatus dt s
  | .writeSetting dt => Sys2Proof.Machine.execWriteSetting dt s
  | .writePulsePolarity dt => Sys2Proof.Machine.execWritePulsePolarity dt s
  | .writeLeaderAddress dt => Sys2Proof.Machine.execWriteLeaderAddress dt s
  | .writeReference dt => Sys2Proof.Machine.execWriteReference dt s
  | .writeAMax dt => Sys2Proof.Machine.execWriteAMax dt s
  | .writeHoldoverBound dt => Sys2Proof.Machine.execWriteHoldoverBound dt s
  | .writeHoldoverLimit dt => Sys2Proof.Machine.execWriteHoldoverLimit dt s
  | .writeWindowSize dt => Sys2Proof.Machine.execWriteWindowSize dt s
  | .writeRevertSetting dt => Sys2Proof.Machine.execWriteRevertSetting dt s
  | .writeEvaluationInterval dt => Sys2Proof.Machine.execWriteEvaluationInterval dt s
  | .writeSettleCount dt => Sys2Proof.Machine.execWriteSettleCount dt s
  | .writeCollectorAddress dt => Sys2Proof.Machine.execWriteCollectorAddress dt s
  | .writeCollectorLine dt => Sys2Proof.Machine.execWriteCollectorLine dt s
  | .writeSummaryInterval dt => Sys2Proof.Machine.execWriteSummaryInterval dt s
  | .writePulseLineMode dt => Sys2Proof.Machine.execWritePulseLineMode dt s
  | .writeDrainSetting dt => Sys2Proof.Machine.execWriteDrainSetting dt s
  | .writeClassEntry dt => Sys2Proof.Machine.execWriteClassEntry dt s
  | .writeOriginEntry dt => Sys2Proof.Machine.execWriteOriginEntry dt s
  | .writeRackEntry dt => Sys2Proof.Machine.execWriteRackEntry dt s
  | .writeManagerPlace dt => Sys2Proof.Machine.execWriteManagerPlace dt s
  | .copy dt => Sys2Proof.Machine.execCopy dt s
  | .swap dt => Sys2Proof.Machine.execSwap dt s
  | .servoAuto dt => Sys2Proof.Machine.execServoAuto dt s
  | .servoHeld dt => Sys2Proof.Machine.execServoHeld dt s
  | .servoAlign dt => Sys2Proof.Machine.execServoAlign dt s
  | .servoSetRate dt => Sys2Proof.Machine.execServoSetRate dt s
  | .setTime dt => Sys2Proof.Machine.execSetTime dt s
  | .captureRead dt => Sys2Proof.Machine.execCaptureRead dt s
  | .captureNow dt => Sys2Proof.Machine.execCaptureNow dt s
  | .clear dt => Sys2Proof.Machine.execClear dt s
  | .summary dt => Sys2Proof.Machine.execSummary dt s
  | .bypassOn dt => Sys2Proof.Machine.execBypassOn dt s
  | .bypassOff dt => Sys2Proof.Machine.execBypassOff dt s
  | .resetWarm dt => Sys2Proof.Machine.execResetWarm dt s
  | .resetFull dt => Sys2Proof.Machine.execResetFull dt s

end Sys2Proof.Machine
end

