-- ==== Sys2Proof/Machine/Step.lean ====
section
/-! DEFINITION. One step: the command at the front of the queue. -/

namespace Sys2Proof.Machine

/-- The state with its queue of commands replaced. -/
def State.setPending (s : State) (queue : List Instr) : State := { s with pending := queue }

/-- A step takes the command at the front of the queue and carries it out with the queue's rest. On an empty queue the
part idles: time runs only with a command (log entry 4). -/
def step (s : State) : Host.Outcome State Fault Refusal :=
  match s.pending with
  | i :: rest => exec i (s.setPending rest)
  | [] => .next s

/-- The state with the command that a word spells put at the front of its queue. The spec gives no row any bits, so no
word spells a command and the state stays as it is (log entry 29). -/
def State.withFetchWord (s : State) (nbits w : Nat) : State :=
  match decodeTableWord nbits w with
  | some i => s.setPending (i :: s.pending)
  | none => s

end Sys2Proof.Machine
end

