-- ==== Sys2Proof/Safety.lean ====
section
/-! DEFINITION. What counts as a sound state, in the terms that claims use: the bounds and the combinations that the
manual says the part keeps. -/

namespace Sys2Proof.Machine

/-! ## Capacities -/

/-- No queue, window or set holds more than its rule allows: the capture queue (R15), the origin queues (R32), the Exchange
Windows (R64), the reply queue (R110), the date queue (R129), the notice set (R154) and the request queue (R165). -/
def State.withinCapacity (s : State) : Prop :=
  s.pulse.queue.length ≤ 8 ∧ s.lines.north.origin.length ≤ 8 ∧ s.lines.south.origin.length ≤ 8 ∧
    s.exch.windowN.length ≤ s.exch.windowSize ∧ s.exch.windowP.length ≤ s.exch.windowSize ∧
    s.south.queue.length ≤ 16 ∧ s.dater.queue.length ≤ 1024 ∧ s.rep.notices.length ≤ 64 ∧
    s.agent.queue.length ≤ 4

/-- The notice set holds no two entries for one subject (R154). -/
def ReportEngine.subjectsDistinct (r : ReportEngine) : Prop := (r.notices.map NoticeEntry.subject).Nodup

/-! ## The servo -/

/-- The combinations that R89 keeps, and the presence of U_entry and t_h exactly in the holdover form (R84, R97). -/
def State.servoCombined (s : State) : Prop :=
  (s.servo.held = true → s.servo.state = .holdover ∨ s.servo.state = .free) ∧
    (s.servo.state = .locked ∨ s.servo.state = .holdover → s.servo.memory = true) ∧
    (s.servo.state = .free → s.servo.memory = false) ∧
    (s.servo.state = .free → s.servo.held = false → s.servo.active = .none) ∧
    (s.servo.state = .locked → s.configured s.servo.active = true) ∧
    s.servo.entryU.isSome = s.servo.holdForm ∧ s.servo.holdTime.isSome = s.servo.holdForm

/-- The query timer runs exactly while NORTH is configured, a Query is outstanding only then, and otherwise NORTH is LOST
with no sample and no miss (R54, R55). -/
def State.northKept (s : State) : Prop :=
  s.exch.queryIn.isSome = s.configured .north ∧ (s.exch.record ≠ .empty → s.configured .north = true) ∧
    (s.configured .north = false → s.exch.liveN = false ∧ s.exch.windowN = [] ∧ s.exch.missed = 0)

/-! ## The clock and the servo's figures -/

/-- The timescale stands in its range (R1), A and I stand within ±A_max and A_max within its range (R71, R81), and the
locked form of U within the ceiling (R83). -/
def State.figuresKept (s : State) : Prop :=
  s.clock.value < timescaleRange ∧ s.clock.remainder < 1000000000000 ∧ 1000000 ≤ s.servo.aMax ∧
    s.servo.aMax ≤ 200000000 ∧ s.clock.integI.natAbs ≤ s.servo.aMax ∧ s.clock.rateA.natAbs ≤ s.servo.aMax ∧
    s.servo.lockedU ≤ uCeiling

/-! ## The drift monitor's tables -/

/-- No two enabled origin entries hold one address (R136); a server that has left UNSEEN is enabled in an enabled rack
(R139); one in TRACKING or STRAY has had at least n_s samples (R142); a disabled rack is QUIET (R139). -/
def Monitor.tablesKept (m : Monitor) : Prop :=
  m.origins.length = 512 ∧ m.racks.length = 32 ∧ 1 ≤ m.settleCount ∧ m.settleCount ≤ 16 ∧
    (∀ i j, (m.origin i).enabled = true → (m.origin j).enabled = true → (m.origin i).source = (m.origin j).source →
      i = j) ∧
    (∀ j, (m.origin j).state ≠ .unseen →
      (m.origin j).enabled = true ∧ (m.rack (m.origin j).rack).config.enabled = true) ∧
    (∀ j, (m.origin j).state = .tracking ∨ (m.origin j).state = .stray → m.settleCount ≤ (m.origin j).sampleCount) ∧
    ∀ k, (m.rack k).config.enabled = false → (m.rack k).state = .quiet

/-! ## The accounting of sequences -/

/-- Records in order each follow the one before by one and the gap count they carry, and the next record to come will
follow the last by one and the pending gap count (R129). -/
def followOn : List DateRecord → BitVec 32 → BitVec 32 → Prop
  | [], _, _ => True
  | [r], next, gap => next = r.seq + 1 + gap
  | r :: q :: rest, next, gap => q.seq = r.seq + 1 + q.gap ∧ followOn (q :: rest) next gap

/-- The records in the date queue of a stream as it has run since it last began, oldest first. -/
def Dater.recordsOf (d : Dater) (k : Nat) : List DateRecord :=
  d.queue.filter fun r => r.stream == k && r.beginning == (d.stream k).beginning

/-- The sequences of every stream's queued records are unbroken but for the gaps they declare (R129), and no record comes
from a beginning of its stream that is still to come (R119). -/
def Dater.gapsAccounted (d : Dater) : Prop :=
  d.streams.length = 64 ∧
    (∀ r ∈ d.queue, r.stream < 64 → r.beginning ≤ (d.stream r.stream).beginning) ∧
    ∀ k, k < 64 → followOn (d.recordsOf k) (d.stream k).nextSeq (d.stream k).gap

end Sys2Proof.Machine
end

