-- ==== Sys2Proof/Certificates/Slice0/Obligations.lean ====
section
/-! DEFINITION. The statements for the provers. Each formalises what the cited rules and sections of spec/ say the commands
do. -/

section Statements

open Sys2Proof Sys2Proof.Machine

/-! ## The machine -/

/-- A step carries out the command at the front of the queue with the queue's rest. That an empty queue leaves the part as
it stands is the model's choice (log entry 4). -/
def Obligations.StepRunsTheFrontCommand : Prop :=
  (∀ (c : Instr) (rest : List Instr) (s : State), s.pending = c :: rest → step s = exec c (s.setPending rest)) ∧
    ∀ s : State, s.pending = [] → step s = .next s

/-- Every command completes in every state, and none touches the queue of commands: the manual names no event that stops
the part. -/
def Obligations.EveryCommandCompletesAndLeavesTheQueue : Prop :=
  ∀ (c : Instr) (s : State), ∃ t, exec c s = .next t ∧ t.pending = s.pending

/-- The state after a POWER reset is sound in every sense of Safety.lean. -/
def Obligations.ResetStateIsSound : Prop :=
  State.reset.withinCapacity ∧ State.reset.rep.subjectsDistinct ∧ State.reset.servoCombined ∧ State.reset.northKept ∧
    State.reset.figuresKept ∧ State.reset.mon.tablesKept ∧ State.reset.dater.gapsAccounted

/-- No step takes a queue, a window or a set past its capacity, nor gives the notice set two entries for one subject
(R15, R32, R64, R110, R129, R154, R165). -/
def Obligations.StepKeepsCapacities : Prop :=
  ∀ s t : State, s.withinCapacity → s.rep.subjectsDistinct → step s = .next t →
    t.withinCapacity ∧ t.rep.subjectsDistinct

/-- No step leaves the combinations of servo items that R89 keeps, nor what R54, R84 and R97 say of the query timer, of
NORTH out of configuration, of U_entry and of t_h. -/
def Obligations.StepKeepsServoCombinations : Prop :=
  ∀ s t : State, s.servoCombined → s.northKept → step s = .next t → t.servoCombined ∧ t.northKept

/-- No step takes the timescale out of its range, A or I past A_max, A_max out of its own range, or the locked form of U
past the ceiling (R1, R71, R81, R83). -/
def Obligations.StepKeepsFigures : Prop := ∀ s t : State, s.figuresKept → step s = .next t → t.figuresKept

/-- No step gives two enabled origin entries one address, lets a server in SETTLING, TRACKING, STRAY or SILENT stand
outside an enabled rack, lets one be TRACKING or STRAY with fewer than n_s samples, or takes a disabled rack out of QUIET
(R136, R139, R142). -/
def Obligations.StepKeepsOriginAndRackTables : Prop :=
  ∀ s t : State, s.mon.tablesKept → step s = .next t → t.mon.tablesKept

/-- No step breaks the accounting of sequences: within one stream as it has run since it last began, each queued record's
sequence is the one before it plus one plus its gap count, and the next record's will be the last one's plus one plus the
pending gap count (R129). -/
def Obligations.StepKeepsSequenceAccounting : Prop :=
  ∀ s t : State, s.dater.gapsAccounted → step s = .next t → t.dater.gapsAccounted

/-- U and the own class, as they are read from the servo (R82 to R84, R103). In LOCKED U is the locked form last computed: of a
selected sample the leader U, |θ| and an eighth of d, each in ns rounded up, and 4 ns. In HOLDOVER and in ACQUIRE with memory it is
U_entry plus H times t_h over 1,000,000, rounded up. Both saturate at 4,294,967,294. In FREE and in ACQUIRE without memory U is
unbounded. In every state whose locked form is within the ceiling, which StepKeepsFigures shows kept, U is the unbounded value
exactly there, and a computed U never passes the ceiling. The own class goes by the state, the memory flag, the active reference
and in LOCKED the leader class of the selection or the pulse class. -/
def Obligations.UnboundedExactlyInFreeOrAcquireWithoutMemory : Prop :=
  (∀ s : State, s.figuresKept →
    (s.servo.uncertainty = 4294967295 ↔
        s.servo.state = .free ∨ (s.servo.state = .acquire ∧ s.servo.memory = false)) ∧
      (s.servo.uncertainty ≠ 4294967295 → s.servo.uncertainty ≤ 4294967294)) ∧
  (∀ x : Sample,
    let up (n unit : Nat) : Nat := n / unit + (if n % unit = 0 then 0 else 1)
    lockedForm x = min 4294967294 (x.leaderU + up x.theta.natAbs 65536 + up x.delay 524288 + 4)) ∧
  ∀ s : State,
    let v := s.servo
    (v.state = .locked → v.uncertainty = v.lockedU) ∧
    (∀ (entry : Nat) (th : BitVec 48), v.state = .holdover ∨ (v.state = .acquire ∧ v.memory = true) →
      v.entryU = some entry → v.holdTime = some th →
      let grown := v.holdBound * th.toNat
      v.uncertainty =
        min 4294967294 (entry + grown / 1000000 + (if grown % 1000000 = 0 then 0 else 1))) ∧
    (∀ c, v.state = .locked → v.active = .north → v.leaderClass = some c → s.ownClass = min 12 (c + 1)) ∧
    (v.state = .locked → v.active = .pulse → s.ownClass = min 12 s.exch.pulseClass) ∧
    (v.state = .holdover → s.ownClass = 13) ∧
    (v.state = .acquire → s.ownClass = if v.memory then 13 else 14) ∧
    (v.state = .free → s.ownClass = 15)

/-! ## Power, the reset pin and resets -/

/-- Power puts the part in a POWER reset with boot BYPASS from its start, every record at its POWER value; when the supply is good
and the pin is not asserted it ends: the timescale, A, I and the run counter 0, the address from the straps, the timers counted
from that instant. The values are those of R17, R35, R51, R53 and R70, R71, R88, R90 and R107, R108 and R118, R131 and R134,
R135, R138 and R153, R156 to R158, R160 and R164, R166, R169 and R173, and of a record that waits for its use nothing, absent or
0. They are the FULL values of those blocks too, which the initial records name. By the model's choice the pin levels and the
free counter, which power does not set, stay (log entries 25 and 27), the oscillator counts on (log entry 28), and the values the
manual gives nowhere are 0: lockedU (log entry 37), a stream's beginning (38), an invalid R_prev (54) and the count of Queries
built (58). -/
def Obligations.PowerResetLeavesThePowerValues : Prop :=
  ∀ (s : State) (dt : Nat) (straps : BitVec 6),
    let line : LineState :=
      { buffer := [], origin := [], transmit := .idle, egress := none, badCheck := 0, lengthErrors := 0,
        overruns := 0, misdirected := 0 }
    let lines : LinePair :=
      { mode := .boot, injectionLimit := 16384, transitCorrection := true, timingType := 0x9C41,
        managementType := 0x9C42, north := line, south := line }
    let pulse : PulseInput :=
      { pinHigh := s.pulse.pinHigh, activeHigh := true, debounce := 1000,
        qualifier := if s.pulse.pinHigh then .releasing else .waiting, tentative := none,
        previousMark := none, rejected := 0, queue := [], overrun := false }
    let blank : ClassEntry :=
      { enabled := false, line := .either, typeValue := none, source := none,
        terms := List.replicate 4 none, date := false, sample := false, stampOffset := none,
        issueOffset := none, datingOffset := 0, newStream := false }
    let cls : Classifier :=
      { bank0 := List.replicate 64 blank, bank1 := List.replicate 64 blank, active := .bank0,
        swapPending := false, matchCounts := List.replicate 64 0 }
    let exch : Exchange :=
      { leader := 0, northDomain := 0, queryExp := 0, replyWindow := 100, missedLimit := 4,
        windowSize := 8, pulseClass := 1, pulseU := 100, record := .empty, waitingQuery := none,
        built := 0, nextSeq := 0, issued := 0, queryIn := none, missed := 0, liveN := false,
        liveP := false, pulseExpiry := none, lastRegular := none, windowN := [], windowP := [],
        late := 0, strayReply := 0, badDelay := 0 }
    let servo : Servo :=
      { alpha := 0, propExp := 3, integExp := 6, aMax := 100000000, stepLimit := 50000,
        holdBound := 50000, primary := .north, secondary := .none, revertEnable := true,
        revertTime := 60, lockLimit := 1000, unlockLimit := 10000, holdoverLimit := 86400,
        state := .free, held := false, memory := false, active := .none, lockCounter := 0,
        unlockCounter := 0, alignPending := false, markN := none, markP := none, revertIn := none,
        leaderClass := none, lastPi := none, stepOutcome := none, stepPending := false, lockedU := 0,
        entryU := none, holdTime := none, stepCount := 0, lastStep := none, lastChange := none }
    let south (osc : Nat) : SouthServer :=
      { domain := 0, gradeExp := 0, group := 0x01C51A000100, queue := [], waitingGrade := none,
        gradeAt := osc + 2000000 * 65536, gradeSeq := 0, badQuery := 0, droppedQuery := 0,
        unknownOrigin := 0, badReport := 0, gradeSuperseded := 0 }
    let stream : StreamState :=
      { lastDate := none, nextSeq := 0, gap := 0, armed := true, beginning := 0 }
    let dater : Dater :=
      { streams := List.replicate 64 stream, queue := [], openN := none, openS := none, lostRecord := 0,
        orphaned := 0, batch := 32, latency := 1000 }
    let origin : OriginEntry :=
      { enabled := false, source := 0, rack := 0, state := .unseen, filtered := none, lastSample := none,
        lastAt := none, sampleCount := 0, queryCount := 0, storageCount := 0 }
    let config : RackConfig :=
      { enabled := false, watchOn := 20000, watchOff := 15000, driftOn := 100000, driftOff := 80000,
        rateOn := 500, spreadLimit := 50000, strayLimit := 30000, confirm := 3, nominalDelay := 0,
        drillOffset := 0, storageSamples := false }
    let rack : Rack :=
      { config := config, state := .quiet, mean := none, prevMean := 0, prevValid := false, rate := none,
        spread := none, members := 0, split := false, drill := false, pending := none, pendingCount := 0,
        lastTransition := none }
    let mon : Monitor :=
      { filterExp := 2, settleCount := 4, silence := 8, interval := 4, judgeLimit := 10000,
        settlePeriod := 4, origins := List.replicate 512 origin, racks := List.replicate 32 rack,
        heldN := none, heldS := none, evalIn := 4000, settleCounter := 0, unknownStorage := 0,
        ignoredSample := 0, discardedByReset := 0 }
    let pulseLine : PulseLine :=
      { mode := .off, activeHigh := true, phase := 0, width := 0, subscriptions := 0, starts := [],
        pulseEnd := none }
    let rep : ReportEngine :=
      { notices := [], noticeWaiting := false, dateReportWaiting := false, summaryWaiting := false,
        dateGap := false, noticeOverflow := false, noticeDropped := 0, noticeSeq := 0,
        dateReportSeq := 0, summarySeq := 0, collector := 0, collectorLine := .north,
        collectorTag := none, holdoff := 10, summaryInterval := 10, summaryIn := some 10000,
        pulseLines := List.replicate 4 pulseLine }
    let agent (straps : BitVec 6) : Agent :=
      { address := 0x02C51A000000#48 ||| straps.setWidth 48, southManagement := false,
        managers := List.replicate 4 none, queue := [], results := [], overflowed := false, hold := none,
        malformed := 0, disallowed := 0, queueFull := 0, responseDropped := 0 }
    let clock (osc : Nat) : Clock :=
      { value := 0, remainder := 0, rateA := 0, integI := 0, runCounter := 0, osc := osc,
        tickAt := osc + 1000000 * 65536 }
    let power (osc : Nat) (straps : BitVec 6) : State :=
      { pending := s.pending, phase := .running, supplyGood := true, resetPin := false, straps := straps, free := s.free
        clock := clock osc, pulse := pulse, lines := lines, cls := cls, exch := exch, servo := servo, south := south osc
        dater := dater, mon := mon, rep := rep, agent := agent straps }
    (∀ osc : Nat, pulse = .initial s.pulse.pinHigh ∧ lines = .initial ∧ cls = .initial ∧ exch = .initial ∧
      servo = .initial ∧ south osc = .initial osc ∧ stream = .fresh 0 ∧ dater = .initial ∧ mon = .initial ∧
      rep = .initial ∧ agent straps = .initial straps ∧ clock osc = .initial osc) ∧
    ∃ t, exec .powerOn s = .next t ∧
      t = { power s.clock.osc s.straps with phase := .powerReset, supplyGood := false, resetPin := s.resetPin } ∧
      (s.resetPin = false → ∃ u, exec (.powerGood dt straps) t = .next u ∧ u = power u.clock.osc straps) ∧
      (s.resetPin = true → exec (.powerGood dt straps) t = .next { t.runBy dt with supplyGood := true })

/-- The reset pin held for 10 µs or longer starts a FULL reset, and every FULL value takes effect at its start: the line pair's
settings and counts, and in each chapter's table every record (the initial records are spelt out in PowerResetLeavesThePowerValues); each frame in passage meets it as R22 gives (what meetFull does
is said in LinePairModesAndBypassEntry); an arbiter finishes the frame it is sending, and any other picks in boot BYPASS the oldest
passing frame that has not begun to leave (R33, R35; that one whose own pick had not begun to leave is among these is DEDUCED, log
entry 42); A and I are kept within the default A_max. Held for less than 1 µs it is ignored;
between the two the part does one or the other, by a free value (log entries 11 and 27). By the model's choice the counts of
R152 are 0 with no held sample counted (log entry 22), a stream's beginning is a count (log entry 38), and the values stand
from the start while the timers wait for the release (log entry 40). -/
def Obligations.ResetPinStartsAFullReset : Prop :=
  ∀ (s : State) (dt heldNs : Nat), s.phase = .running →
    let u := s.runBy dt
    let started (t : State) : Prop :=
      t.phase = .pinReset ∧ t.resetPin = true ∧ t.supplyGood = u.supplyGood ∧ t.straps = u.straps ∧
      t.pending = u.pending ∧
      t.lines.mode = .boot ∧ t.lines.injectionLimit = 16384 ∧ t.lines.transitCorrection = true ∧
      t.lines.timingType = 0x9C41 ∧ t.lines.managementType = 0x9C42 ∧
      (∀ line, (t.lineAt line).origin = [] ∧ (t.lineAt line).badCheck = 0 ∧ (t.lineAt line).lengthErrors = 0 ∧
        (t.lineAt line).overruns = 0 ∧ (t.lineAt line).misdirected = 0 ∧
        (t.lineAt line).buffer = ((u.lineAt line).buffer.map fun p => p.meetFull u.clock.osc) ∧
        (t.lineAt line).egress = (u.lineAt line).egress ∧
        (t.lineAt line).transmit =
          if (u.lineAt line).transmit = .idle ∨ (u.lineAt line).departing = true then
            match (u.lineAt line.other).buffer.find? fun p => p.consumer.isNone with
            | some p => if p.departedAt = none then .pickedPassing else .idle
            | none => .idle
          else (u.lineAt line).transmit) ∧
      t.clock = { u.clock with
        integI := max (-100000000) (min 100000000 u.clock.integI)
        rateA := max (-100000000) (min 100000000 u.clock.rateA) } ∧
      t.pulse = .initial u.pulse.pinHigh ∧ t.cls = .initial ∧ t.exch = .initial ∧ t.servo = .initial ∧
      t.south = .initial u.clock.osc ∧ t.mon = .initial ∧ t.rep = .initial ∧ t.agent = .initial u.straps ∧
      t.dater =
        { streams := u.dater.streams.map fun x => .fresh (x.beginning + 1)
          queue := [], openN := u.dater.openN, openS := u.dater.openS, lostRecord := 0, orphaned := 0
          batch := 32, latency := 1000 }
    (10000 ≤ heldNs → ∃ t, exec (.resetPinAssert dt heldNs) s = .next t ∧ started t ∧ t.free = u.free) ∧
    (heldNs < 1000 → exec (.resetPinAssert dt heldNs) s = .next u) ∧
    (1000 ≤ heldNs → heldNs < 10000 → ∃ t, exec (.resetPinAssert dt heldNs) s = .next t ∧ t.free = u.free + 1 ∧
      (t = { u with free := u.free + 1 } ∨ started t))

/-- A reset ends at the release of the pin: one that the pin holds, and a POWER reset whose supply is good; and a POWER reset,
whatever has come about in it, ends as the supply becomes good where the pin is not asserted (R172). The straps
are read into the line address, the run counter starts from 0, and the query, grade, evaluation and summary timers start; at
the end of a POWER reset the timescale runs from 0 with A and I 0 (R10). Where the supply is not yet good, and where no reset
is in progress, the release only sets the pin's level; where the pin is asserted the supply is only noted as good. An assertion during a POWER reset holds that reset,
however short, by the model's choice (log entry 59), and one during a reset that the pin holds changes nothing but the time
(log entry 3). -/
def Obligations.ResetPinReleaseEndsTheReset : Prop :=
  ∀ (s : State) (dt heldNs : Nat) (straps : BitVec 6),
    let u := s.runBy dt
    let released := exec (.resetPinRelease dt straps) s
    let asserted := exec (.resetPinAssert dt heldNs) s
    let ended (clock : Clock) : State := { u with
      phase := .running
      resetPin := false
      straps := straps
      clock := clock
      pulse := { u.pulse with qualifier := if u.pulse.isActive then .releasing else .waiting }
      exch := { u.exch with queryIn := if u.configured .north then some 2 else none }
      south := { u.south with gradeAt := u.clock.osc + 2 * fuPerMs }
      mon := { u.mon with evalIn := u.mon.interval * 1000 }
      rep := { u.rep with
        summaryIn := if u.rep.summaryInterval = 0 then none else some (u.rep.summaryInterval * 1000) }
      agent := { u.agent with address := 0x02C51A000000#48 ||| straps.setWidth 48 } }
    let supplied := exec (.powerGood dt straps) s
    let anew : Clock :=
      { value := 0, remainder := 0, rateA := 0, integI := 0, runCounter := 0, osc := u.clock.osc
        tickAt := u.clock.osc + fuPerMs }
    (s.phase = .powerReset →
      (s.resetPin = false → supplied = .next { ended anew with supplyGood := true }) ∧
      (s.resetPin = true → supplied = .next { u with supplyGood := true })) ∧
    (s.phase ≠ .powerReset → supplied = .next u) ∧
    (s.phase = .pinReset →
      released = .next (ended { u.clock with runCounter := 0, tickAt := u.clock.osc + fuPerMs }) ∧ asserted = .next u) ∧
    (s.phase = .powerReset →
      (s.supplyGood = true → released = .next (ended anew)) ∧
      (s.supplyGood = false → released = .next { u with resetPin := false }) ∧
      asserted = .next { u with resetPin := true }) ∧
    (s.phase = .running → released = .next { u with resetPin := false })

/-- A RESET is answered OK before it takes effect: the request leaves the queue, its response joins the origin queue of its
line if a place is free and is dropped and counted if not, and the reset is held. The hold ends when the response has begun to
leave or was dropped, or after 10 ms of run time, and not before; then a WARM or a FULL reset is made, which ends as soon as
it has taken effect (R171, R172). -/
def Obligations.ResetIsAnsweredThenHeldThenMade : Prop :=
  (∀ (s : State) (dt : Nat) (r : Request) (full : Bool),
    s.currentItem = some (r, if full then .resetFull else .resetWarm) →
    let u := s.runBy dt
    let answer := { u.response r .ok [{ status := .ok, content := [] }] with resetResponse := true }
    let hold : ResetHold := { full := full, offeredAt := s.clock.runCounter, released := false }
    exec (if full then .resetFull dt else .resetWarm dt) s = .next
      (if u.hasPlace r.line then
        (u.join r.line answer).setAgent { s.agent.endHandling with hold := some hold }
      else u.setAgent
        { s.agent.endHandling with
          hold := some { hold with released := true }
          responseDropped := min 65535 (s.agent.responseDropped + 1) })) ∧
  ∀ (s : State) (straps : BitVec 6) (h : ResetHold), s.phase = .running → s.agent.hold = some h →
    (h.released = true ∨ 10 ≤ (s.clock.runCounter - h.offeredAt).toNat →
      exec (.resetHoldExpiry straps) s = .next (if h.full then s.startFull.endReset straps else s.warmReset)) ∧
    (h.released = false → (s.clock.runCounter - h.offeredAt).toNat < 10 →
      exec (.resetHoldExpiry straps) s = .next s)

/-- A WARM reset: what each block keeps and what it clears, field by field. The timescale, A and I run on and the run counter
starts from 0 (R10); the lines keep their buffers, origin queues, counts and settings (R35), and an origin queue's RESET
response no longer has a hold to release; the classifier keeps all (R51); the pulse input, the exchange, the servo, the south
server, the dater, the monitor, the report engine and the agent go by R17, R70, R88 and R107, R118, R134, R153, R164 and R173.
LOCKED becomes HOLDOVER, and the holdover form starts again from U. Each discarded date record counts LOST_RECORD and goes,
with the loss it carried, to the pending gap count of its stream; that this is counted by the stream's instance is the model's
choice (log entry 38), and so is the 0 that R_prev reads while it is invalid (log entry 54). -/
def Obligations.WarmResetKeepsAndClears : Prop :=
  ∀ s : State, let t := s.warmReset
    let v := s.servo
    let state : ServoState := if v.state = .locked then .holdover else v.state
    let holds : Bool := state == .holdover || (state == .acquire && v.memory)
    let counted (held : Option HeldSample) (n : Nat) : Nat := if held.isSome then min 65535 (n + 1) else n
    (t.phase = s.phase ∧ t.supplyGood = s.supplyGood ∧ t.resetPin = s.resetPin ∧ t.straps = s.straps) ∧
    t.clock = { s.clock with runCounter := 0, tickAt := s.clock.osc + fuPerMs } ∧
    t.lines = { s.lines with north := t.lines.north, south := t.lines.south } ∧
    (∀ line, t.lineAt line = { s.lineAt line with
      origin := (s.lineAt line).origin.map fun f => { f with resetResponse := false } }) ∧
    t.cls = s.cls ∧
    t.pulse = { s.pulse with
      tentative := none, previousMark := none, queue := [], overrun := false,
      qualifier := if s.pulse.isActive then .releasing else .waiting } ∧
    t.exch = { s.exch with
      record := .empty, waitingQuery := none, issued := 0, missed := 0, liveN := false, liveP := false,
      pulseExpiry := none, lastRegular := none, windowN := [], windowP := [],
      queryIn := if s.configured .north then some 2 else none } ∧
    t.servo = { v with
      state := state, lockCounter := 0, unlockCounter := 0, alignPending := false, markN := none, markP := none
      revertIn := none, leaderClass := none, lastPi := none, stepOutcome := none, stepPending := false
      lastChange := none
      entryU := if holds then some v.uncertainty else none
      holdTime := if holds then some 0 else none } ∧
    t.south = { s.south with queue := [], waitingGrade := none, gradeAt := s.clock.osc + 2 * fuPerMs } ∧
    t.dater = { s.dater with streams := t.dater.streams, queue := [], lostRecord := t.dater.lostRecord } ∧
    t.dater.lostRecord = (if s.dater.queue = [] then s.dater.lostRecord
      else min 65535 (s.dater.lostRecord + s.dater.queue.length)) ∧
    (∀ k, k < s.dater.streams.length →
      (t.dater.stream k).lastDate = (s.dater.stream k).lastDate ∧
      (t.dater.stream k).nextSeq = (s.dater.stream k).nextSeq ∧ (t.dater.stream k).armed = true ∧
      (t.dater.stream k).beginning = (s.dater.stream k).beginning ∧
      (t.dater.stream k).gap =
        (s.dater.stream k).gap + ((s.dater.recordsOf k).map fun r => 1 + r.gap).sum) ∧
    t.mon = { s.mon with
      origins := s.mon.origins.map OriginEntry.unseen
      racks := s.mon.racks.map fun r => .cleared r.config
      settleCounter := 0, heldN := none, heldS := none, evalIn := s.mon.interval * 1000
      discardedByReset := counted s.mon.heldS (counted s.mon.heldN s.mon.discardedByReset) } ∧
    t.rep = { s.rep with
      notices := [], noticeOverflow := true, noticeWaiting := false, dateReportWaiting := false
      summaryWaiting := false
      dateGap := if s.dater.queue = [] then s.rep.dateGap else true
      summaryIn := if s.rep.summaryInterval = 0 then none else some (s.rep.summaryInterval * 1000) } ∧
    t.agent = { s.agent with queue := [], results := [], overflowed := false, hold := none }

/-! ## The timescale, the run counter and the boundaries -/

/-- Running is exact: in some oscillator time the value and the part below a fine unit together gain that time at one plus
A parts, carrying from the largest value to zero; two runnings one after the other are one running of their sum; nothing
else of the timing state moves. The part runs by its clock, and each scheduled start of a pulse line comes nearer by what the
timescale gains (R2, R161). A command from outside runs its time, cut at the slack: no further than short of the next second
boundary and to the next expiry, at once where a frame has been picked or an expiry is due, of the boot window (R20), the query
timer, the reply window and the pulse liveness (R55, R58, R66), holdover (R85, R97), the revert (R98), the evaluation and the
summary timer (R143, R158) or the hold of a reset (R171), and otherwise at the next tick (R8), grade (R115), debounce (R12),
latency (R131), holdoff (R156), or start or end of a pulse (R161). That time is so cut, and that a boundary is reached by its own
command alone, is the model's (log entries 1 and 7). -/
def Obligations.RunningIsExactAndAdditive : Prop :=
  (timescaleRange = 2 ^ 48 * 1000000000 * 65536 ∧ fuPerSecond = 1000000000 * 65536 ∧ fuPerMs = 1000000 * 65536) ∧
  (∀ (c : Clock) (a b : Nat), c.value < timescaleRange → c.remainder < 1000000000000 → -1000000000000 ≤ c.rateA →
    let t := c.advance a
    (t.value : Int) * 1000000000000 + t.remainder =
        ((c.value : Int) * 1000000000000 + c.remainder + a * (1000000000000 + c.rateA)) %
          ((timescaleRange : Int) * 1000000000000) ∧
      t.remainder < 1000000000000 ∧ t.osc = c.osc + a ∧ t.rateA = c.rateA ∧ t.integI = c.integI ∧
      t.runCounter = c.runCounter ∧ t.tickAt = c.tickAt ∧ c.advance (a + b) = t.advance b) ∧
  ∀ (s : State) (dt : Nat),
    let c := s.clock
    let v := s.servo
    let gain (n : Nat) : Nat := (c.remainder + n * (1000000000000 + c.rateA).toNat) / 1000000000000
    let picked (l : LineState) : Prop := l.transmit = .pickedPassing ∨ ∃ k, l.transmit = .pickedOwn k
    let reached (reading : BitVec 32) : Prop := (c.runCounter - reading).toNat < 2 ^ 31
    let th := (v.holdTime.getD 0).toNat
    let due : Prop :=
      (s.lines.mode = .boot ∧ 2 ≤ c.runCounter.toNat) ∨ s.exch.queryIn = some 0 ∨
      (∃ seq t1 expiry, s.exch.record = .opened seq t1 expiry ∧ reached expiry) ∨
      (s.exch.liveP = true ∧ ∃ e, s.exch.pulseExpiry = some e ∧ reached e) ∨
      ((v.state = .holdover ∨ (v.state = .acquire ∧ v.memory = true)) ∧
        (v.holdoverLimit * 1000 ≤ th ∨ 4294967294 ≤ v.entryU.getD 0 + (v.holdBound * th + 999999) / 1000000)) ∨
      v.revertIn = some 0 ∨ s.mon.evalIn = 0 ∨ s.rep.summaryIn = some 0 ∨
      ∃ h, s.agent.hold = some h ∧ (h.released = true ∨ 10 ≤ (c.runCounter - h.offeredAt).toNat)
    s.runFor dt = { s with
      clock := c.advance dt
      rep := { s.rep with
        pulseLines := s.rep.pulseLines.map fun p => { p with starts := p.starts.map fun x => x - gain dt } } } ∧
    s.runBy dt = s.runFor (min dt s.slack) ∧
    (c.remainder < 1000000000000 → -1000000000000 < c.rateA → ∀ n, n ≤ s.slack ↔
      gain n < fuPerSecond - c.value % fuPerSecond ∧
      (picked s.lines.north ∨ picked s.lines.south → n = 0) ∧
      (s.phase = .running →
        (due → n = 0) ∧ n ≤ c.tickAt - c.osc ∧ n ≤ s.south.gradeAt - c.osc ∧
        (∀ t, s.pulse.qualifier = .timing → s.pulse.tentative = some t → n ≤ t.endsAt - c.osc) ∧
        (∀ q rest, s.dater.queue = q :: rest → s.rep.collector ≠ 0 → s.rep.dateReportWaiting = false →
          n ≤ q.createdAt + 1000 * 65536 * s.dater.latency - c.osc) ∧
        (∀ e rest, s.rep.notices = e :: rest → s.rep.collector ≠ 0 → s.rep.noticeWaiting = false →
          n ≤ e.createdAt + 1000000 * 65536 * s.rep.holdoff - c.osc) ∧
        ∀ p ∈ s.rep.pulseLines, (∀ x ∈ p.starts, ∀ m, m < n → gain m < x) ∧ ∀ e, p.pulseEnd = some e → n ≤ e - c.osc))

/-- A step moves the value exactly, or to the nearer end of its range; the applied amount is the new value less the old;
the rate, I, the remainder and the run counter stand (R4). Every held arrival stamp, the tentative capture and every
t2 waiting for a Reply move by the applied amount (R13, R23, R110). -/
def Obligations.StepMovesTheValueAndEveryHeldStamp : Prop :=
  ∀ (s : State) (sigma : Int) (source : StepSource), s.clock.value < timescaleRange →
    let t := s.applyStep sigma source
    let exact : Int := s.clock.value + sigma
    let applied : Int := t.clock.value - s.clock.value
    (0 ≤ exact → exact < timescaleRange → (t.clock.value : Int) = exact ∧ applied = sigma) ∧
    (exact < 0 → t.clock.value = 0) ∧
    ((timescaleRange : Int) ≤ exact → t.clock.value = timescaleRange - 1) ∧
    t.clock = { s.clock with value := t.clock.value } ∧
    (∀ line, (t.lineAt line).buffer =
      (s.lineAt line).buffer.map fun p => { p with arrival := p.arrival.map (· + applied) }) ∧
    t.pulse.tentative = s.pulse.tentative.map (fun x => { x with value := x.value + applied }) ∧
    t.south.queue = s.south.queue.map (fun e => { e with t2 := e.t2 + applied })

/-- What each block does with a step announcement (R104): the exchange voids the outstanding Query and empties both windows
(R67); the drift monitor starts a settle period where the size reaches the judge limit (R148); the servo keeps the applied
amount, counts ACQUIRE and ALIGN steps, and meets the emptying of its window (R77, R87, R93); a pending swap is carried out
where a boundary is crossed (R48); the dater leaves its queue and open dates (R128); and the report engine takes the step
transition of R105, with the condition before and after it, the amount and the source, after the swap transition of R50, with
the first boundary crossed, where a swap is carried out. That the swap's comes first is the model's choice (log entry 51). -/
def Obligations.StepAnnouncementReachesEachBlock : Prop :=
  ∀ (s : State) (sigma : Int) (source : StepSource),
    let t := s.applyStep sigma source
    let applied : Int := t.clock.value - s.clock.value
    let crossed : Prop := s.clock.value / fuPerSecond < t.clock.value / fuPerSecond
    let condition : SubjectState := .servo s.servo.condition
    let stepped (r : ReportEngine) : ReportEngine :=
      r.transition s.clock.osc .servo condition condition (.step applied source t.servo.uncertainty)
    t.exch = { s.exch with record := .empty, waitingQuery := none, windowN := [], windowP := [] } ∧
    t.mon = (if s.mon.judgeLimit * 65536 ≤ applied.natAbs then
      { s.mon with settleCounter := s.mon.settlePeriod } else s.mon) ∧
    t.servo = { s.servo with
      lastStep := some applied
      stepCount := if source = .setTime then s.servo.stepCount else min 65535 (s.servo.stepCount + 1)
      stepPending := false
      lockCounter := 0 } ∧
    (s.cls.swapPending = true → crossed →
      t.cls = { s.cls with active := s.cls.active.other, swapPending := false } ∧
      t.rep = stepped (s.rep.transition s.clock.osc .swap (.bank s.cls.active) (.bank s.cls.active.other)
        (.swap (s.clock.value / fuPerSecond + 1)))) ∧
    (s.cls.swapPending = false ∨ ¬crossed → t.cls = s.cls ∧ t.dater = s.dater ∧ t.rep = stepped s.rep) ∧
    t.dater.queue = s.dater.queue ∧ t.dater.openN = s.dater.openN ∧ t.dater.openS = s.dater.openS

/-- Each millisecond of oscillator time the run counter adds one, modulo 2^32, and the measures kept on it advance: t_h,
the ages of the live-since marks, and the time to the query, revert, evaluation and summary expiries (R8). -/
def Obligations.TickAddsOneAndAdvancesTheMeasures : Prop :=
  ∀ s : State, s.phase = .running → s.tickIn ≤ s.slack →
    let u := s.runFor s.tickIn
    exec .runCounterTick s = .next
      { u with
        clock := { u.clock with runCounter := s.clock.runCounter + 1, tickAt := s.clock.tickAt + fuPerMs }
        exch := { s.exch with queryIn := s.exch.queryIn.map (· - 1) }
        servo := { s.servo with
          holdTime := s.servo.holdTime.map (· + 1)
          markN := s.servo.markN.map fun m => { m with age := m.age + 1 }
          markP := s.servo.markP.map fun m => { m with age := m.age + 1 }
          revertIn := s.servo.revertIn.map (· - 1) }
        mon := { s.mon with evalIn := s.mon.evalIn - 1 }
        rep := { u.rep with summaryIn := s.rep.summaryIn.map (· - 1) } }

/-- A boundary that nothing comes before is reached: the timescale stands at the next second, to within one fine unit past
it, after 2^48 − 1 at second 0 (R6, R7); each SECOND-mode line has one more start, its phase away (R161); and a pending swap
is carried out, or the classifier does nothing (R48). -/
def Obligations.BoundaryIsReachedByRunning : Prop :=
  ∀ s : State, s.figuresKept → (∀ d ∈ s.deadlines, s.clock.boundaryIn ≤ d) →
    let u := s.runFor s.clock.boundaryIn
    let k := u.clock.value / fuPerSecond
    let told := u.setRep { u.rep with
      pulseLines := u.rep.pulseLines.map fun p =>
        if p.mode = .second then { p with starts := p.starts ++ [p.phase * 65536] } else p }
    k = (s.clock.value / fuPerSecond + 1) % 2 ^ 48 ∧ u.clock.value % fuPerSecond ≤ 1 ∧
    exec .boundaryReached s = .next (if s.cls.swapPending then told.swapBanks k else told)

/-- A swap exchanges the bank roles and clears the flag, changing no entry and no match count (R48); it begins the stream of
every entry of the newly active bank whose new-stream flag is set, and no other (R49); and it gives the transition of the
swap subject with the bank numbers and the second (R50). -/
def Obligations.SwapExchangesTheBanks : Prop :=
  ∀ (s : State) (k : Nat),
    let t := s.swapBanks k
    t.cls = { s.cls with active := s.cls.active.other, swapPending := false } ∧
    (∀ i, i < s.dater.streams.length →
      t.dater.stream i =
        if ((s.cls.entries s.cls.active.other).getD i .blank).newStream then
          .fresh ((s.dater.stream i).beginning + 1)
        else s.dater.stream i) ∧
    t.dater.queue = s.dater.queue ∧ t.dater.openN = s.dater.openN ∧ t.dater.openS = s.dater.openS ∧
    t.rep = s.rep.transition s.clock.osc .swap (.bank s.cls.active) (.bank s.cls.active.other) (.swap k)

/-! ## The pulse input -/

/-- The qualifier's answers to the edges of the pulse input: a leading edge in WAITING is held and timed; one that ends
before the debounce width has elapsed is rejected and counted; one that ends once it has is qualified first, as at the
debounce expiry, and then leaves WAITING; a pulse that ends in RELEASING leaves WAITING (R11, R12). -/
def Obligations.PulseEdgesMoveTheQualifier : Prop :=
  ∀ (s : State) (dt : Nat),
    let u := s.runBy dt
    (s.phase = .running → s.pulse.isActive = false → s.pulse.qualifier = .waiting →
      exec (.pulseLeadingEdge dt) s = .next { u with pulse := { s.pulse with
        pinHigh := s.pulse.activeHigh
        qualifier := .timing
        tentative := some
          { value := u.clock.value, runCounter := s.clock.runCounter,
            endsAt := u.clock.osc + s.pulse.debounce * 65536 } } }) ∧
    (∀ t, s.pulse.isActive = true → s.pulse.qualifier = .timing → s.pulse.tentative = some t →
      (u.clock.osc < t.endsAt →
        exec (.pulseInputInactive dt) s = .next { u with pulse := { s.pulse with
          pinHigh := !s.pulse.activeHigh, qualifier := .waiting, tentative := none,
          rejected := min 65535 (s.pulse.rejected + 1) } }) ∧
      (s.phase = .running → t.endsAt ≤ u.clock.osc →
        exec (.pulseInputInactive dt) s = .next
          { u.qualify with pulse := { u.qualify.pulse with
            pinHigh := !s.pulse.activeHigh, qualifier := .waiting, tentative := none
            rejected := s.pulse.rejected } })) ∧
    (s.pulse.isActive = true → s.pulse.qualifier = .releasing →
      exec (.pulseInputInactive dt) s = .next { u with pulse := { s.pulse with
        pinHigh := !s.pulse.activeHigh, qualifier := .waiting } })

/-- When the debounce width has elapsed the pulse is qualified (R13): its record holds the held value, the held reading and
the REGULAR flag of R14; it joins the queue or, at eight records, sets OVERRUN (R15); the mark takes its reading either
way. One that is not REGULAR does nothing else at all. A REGULAR one, whether or not it found room, makes PULSE LIVE for 3,000
ms, with a LIVE event if it was LOST (R66), and then, where PULSE is configured, enters the pulse window as a sample (R65):
its θ is the value's distance from the nearest whole second, a half counted as plus half a second, d 0, the class and U the
pulse's own. A class of 15 enters as it is by the model's choice (log entry 52). -/
def Obligations.DebouncedPulseIsRecordedAndHandedOver : Prop :=
  (∀ (s : State) (t : Tentative), s.phase = .running → s.pulse.qualifier = .timing → s.pulse.tentative = some t →
    t.endsAt - s.clock.osc ≤ s.slack →
    let u := s.runFor (t.endsAt - s.clock.osc)
    let regular : Bool :=
      match s.pulse.previousMark with
      | some m => 999 ≤ (t.runCounter - m).toNat && (t.runCounter - m).toNat ≤ 1001
      | none => false
    let record : CaptureRecord := { value := t.value, runCounter := t.runCounter, regular := regular, soft := false }
    let pulse : PulseInput := { s.pulse with
      qualifier := .releasing
      tentative := none
      previousMark := some t.runCounter
      queue := if s.pulse.queue.length < 8 then s.pulse.queue ++ [record] else s.pulse.queue
      overrun := s.pulse.overrun || !(s.pulse.queue.length < 8 : Bool) }
    (regular = false → exec .debounceExpiry s = .next { u with pulse := pulse }) ∧
    (regular = true →
      let kept : State := { u with
        pulse := pulse
        exch := { s.exch with
          pulseExpiry := some (t.runCounter + 3000), lastRegular := some t.runCounter, liveP := true } }
      let live := if s.exch.liveP then kept else kept.liveEvent .pulse
      exec .debounceExpiry s = .next (
        if s.configured .pulse then
          live.enterSample .pulse
            { theta := pulseTheta t.value, delay := 0, leaderClass := s.exch.pulseClass, leaderU := s.exch.pulseU
              runCounter := t.runCounter }
        else live))) ∧
  ∀ value : Int,
    (∃ second : Int, value = second * fuPerSecond + pulseTheta value) ∧
    -(fuPerSecond : Int) < 2 * pulseTheta value ∧ 2 * pulseTheta value ≤ fuPerSecond

/-- The REGULAR test: a qualified pulse is REGULAR exactly when the mark is present and its reading less the mark, modulo
2^32, lies between 999 and 1,001; the mark then takes the pulse's reading, REGULAR or not, with room in the queue or not;
a rejected pulse and a SOFT capture leave it; every reset makes it absent (R14). -/
def Obligations.RegularTestComparesWithThePreviousMark : Prop :=
  (∀ (p : PulseInput) (t : Tentative),
    (p.captureOf t).regular = true ↔
      ∃ m, p.previousMark = some m ∧ 999 ≤ (t.runCounter - m).toNat ∧ (t.runCounter - m).toNat ≤ 1001) ∧
  (∀ (s : State) (t : Tentative), s.pulse.tentative = some t → s.qualify.pulse.previousMark = some t.runCounter) ∧
  (∀ p : PulseInput, p.deactivate.previousMark = p.previousMark) ∧
  (∀ (p : PulseInput) (c : CaptureRecord), (p.record c).previousMark = p.previousMark) ∧
  (∀ s : State, s.powerUp.pulse.previousMark = none ∧ s.startFull.pulse.previousMark = none ∧
    s.warmReset.pulse.previousMark = none)

/-- CAPTURE NOW makes a SOFT record of the value and the reading at its handling, SOFT set and REGULAR clear; it joins the
queue, or at eight records sets OVERRUN; the response carries the record either way, as a timing stamp, the reading in 4 bytes
and a byte with SOFT in bit 1 (R180); the pulse reference, the mark, the
qualifier and any capture in progress are left (R16). -/
def Obligations.CaptureNowRecordsThePresent : Prop :=
  ∀ (s : State) (dt : Nat) (r : Request), s.currentItem = some (r, .captureNow) →
    let u := s.runBy dt
    let record : CaptureRecord :=
      { value := u.clock.value, runCounter := u.clock.runCounter, regular := false, soft := true }
    exec (.captureNow dt) s = .next
      (State.finishItem
        { u with pulse := if s.pulse.queue.length < 8 then { s.pulse with queue := s.pulse.queue ++ [record] }
                          else { s.pulse with overrun := true } }
        r { status := .ok, content := stampBytes u.clock.value ++ beBytes 4 u.clock.runCounter.toNat ++ [2] })

/-- CAPTURE READ carries every record in the queue, oldest first, each as a timing stamp, the reading in 4 bytes and a byte with
REGULAR in bit 0 and SOFT in bit 1 (R180), with the OVERRUN mark and the rejected-pulse count as they
stood, and leaves the queue empty, the mark clear and the count 0 (R15). A held value that a step moved out of the timescale's range is sent as a free
value (log entry 12). -/
def Obligations.CaptureReadReturnsAndEmptiesTheQueue : Prop :=
  ∀ (s : State) (dt : Nat) (r : Request), s.currentItem = some (r, .captureRead) →
    exec (.captureRead dt) s = .next
      (State.finishItem { s.runBy dt with pulse := { s.pulse with queue := [], overrun := false, rejected := 0 } } r
        { status := .ok
          content := (s.pulse.queue.flatMap fun c => stampBytes c.value ++ beBytes 4 c.runCounter.toNat ++
            [(if c.regular then 1 else 0) ||| (if c.soft then 2 else 0)]) ++ [if s.pulse.overrun then 1 else 0] ++
            beBytes 2 s.pulse.rejected })

/-! ## The line pair -/

/-- The boot window ends when the run counter reaches 2 ms: ACTIVE (R20). BYPASS ON and BYPASS OFF are answered OK and move
the line pair between ACTIVE and commanded BYPASS, changing nothing where it already stands there (R21). The entry into
ACTIVE changes the state of the line pair, brings a pick to each idle arbiter (R33), and nothing else; the entry into
commanded BYPASS touches no block but the line pair and the agent. That BYPASS OFF changes nothing in boot BYPASS too is the
model's choice (log entry 3). At BYPASS ON each buffer's frames are converted one by one, and at the start of a FULL reset
each meets the reset (R22). One that has begun to leave or has been consumed is not changed by BYPASS ON; the start of a FULL
reset leaves the first alone too, and has the second reach no block. Any other ACTIVE frame loses its arrival stamp, its
classification and its edits; entering commanded BYPASS, it is consumed for the agent if its payload start has come, which the
model takes as a payload byte having come (log entry 33), and it is a management frame addressed to the part. A converted frame
that has already ended goes to the agent at once, line N's first (log entry 48), and an arbiter whose pick has not begun to
leave picks again (log entry 42). -/
def Obligations.LinePairModesAndBypassEntry : Prop :=
  (∀ s : State, s.phase = .running → s.lines.mode = .boot → 2 ≤ s.clock.runCounter.toNat →
    exec .bootWindowEnd s = .next s.enterActive) ∧
  (∀ (s : State) (dt : Nat) (r : Request), s.currentItem = some (r, .bypassOff) →
    exec (.bypassOff dt) s = .next (State.finishItem
      (if s.lines.mode = .commanded then (s.runBy dt).enterActive else s.runBy dt) r { status := .ok, content := [] })) ∧
  (∀ (s : State) (dt : Nat) (r : Request), s.currentItem = some (r, .bypassOn) →
    exec (.bypassOn dt) s = .next (State.finishItem
      (if s.lines.mode = .commanded then s.runBy dt else (s.runBy dt).enterBypass) r { status := .ok, content := [] })) ∧
  (∀ s : State,
    let active := { s with lines := { s.lines with mode := .active } }
    (∀ line, s.enterActive.lineAt line =
      { s.lineAt line with
        transmit := if (s.lineAt line).transmit = .idle then active.pickFor line else (s.lineAt line).transmit }) ∧
    s.enterActive = { s with lines := { s.lines with
      mode := .active, north := s.enterActive.lines.north, south := s.enterActive.lines.south } }) ∧
  (∀ s : State, let t := s.enterBypass
    let converted (line : Line) : List Passage := (s.lineAt line).buffer.map s.convertFrame
    let settled (p : Passage) : Bool := p.consumer.isSome && p.status != .arriving
    let given (line : Line) (v : State) : State :=
      ((converted line).filter settled).foldl (fun v p => if p.status = .good then v.takeRequest line p.bytes else v) v
    t.lines = { s.lines with mode := .commanded, north := t.lines.north, south := t.lines.south } ∧
      (∀ line, t.lineAt line = { s.lineAt line with
        buffer := (converted line).filter fun p => !settled p
        transmit := if (s.lineAt line).transmit = .idle ∨ (s.lineAt line).departing = true then t.pickFor line
          else (s.lineAt line).transmit }) ∧
      t.agent = (given .south (given .north s)).agent ∧
      t.clock = s.clock ∧ t.pulse = s.pulse ∧ t.cls = s.cls ∧ t.exch = s.exch ∧ t.servo = s.servo ∧
      t.south = s.south ∧ t.dater = s.dater ∧ t.mon = s.mon ∧ t.rep = s.rep) ∧
  (∀ (s : State) (line : Line),
    (s.startFull.lineAt line).buffer = (s.lineAt line).buffer.map fun p => p.meetFull s.clock.osc) ∧
  ∀ (s : State) (p : Passage),
    (p.departedAt.isSome = true ∨ p.consumer.isSome = true → s.convertFrame p = p) ∧
    (p.departedAt = none → p.consumer = none → p.treatment = .active →
      let q := s.convertFrame p
      q = { p with
        treatment := .commanded, arrival := none, classification := none, edits := []
        payloadStarted := q.payloadStarted, consumer := q.consumer } ∧
      (q.consumer = some .agent ↔ q.payloadStarted = true ∧
        destinationOf p.bytes = some s.agent.address ∧ typeOf p.bytes = some s.lines.managementType) ∧
      (q.consumer = some .agent ∨ q.consumer = none) ∧
      (q.payloadStarted = true ↔ payloadStart p.bytes < p.bytes.length ∧
        (p.classification = some .complete ∨ p.status ≠ .arriving ∨ payloadStart p.bytes < p.arrived s.clock.osc))) ∧
    (p.departedAt.isSome = true → p.meetFull s.clock.osc = p) ∧
    (p.departedAt = none → p.consumer.isSome = true → p.meetFull s.clock.osc = { p with consumer := some .nobody }) ∧
    (p.departedAt = none → p.consumer = none →
      ∃ b, p.meetFull s.clock.osc =
        { p with treatment := .boot, arrival := none, classification := none, edits := [], payloadStarted := b })

/-- The admission of a frame (R26). With 9,216 bytes free it joins the elastic buffer of its line with the record that R24
and R40 give it: in ACTIVE the arrival stamp, the active bank and a pending classification; in BYPASS none of them. With
less free it is dropped and counted as an overrun. In boot BYPASS it is ready at once, and an idle arbiter picks (R33). The occupancy of a buffer is the
bytes of its frames that have arrived and have not been sent, at 25 Gb/s in whole bytes, and none of a frame that was cut (that
they are so counted is DEDUCED, log entry 6). -/
def Obligations.FirstByteIsAdmittedOrCounted : Prop :=
  (∀ (s : State) (line : Line) (x : LineState) (q : Passage),
    let l := s.lineAt line
    s.lineAt .north = s.lines.north ∧ s.lineAt .south = s.lines.south ∧
      s.setLine .north x = { s with lines := { s.lines with north := x } } ∧
      s.setLine .south x = { s with lines := { s.lines with south := x } } ∧
      l.arriving = l.buffer.find? (fun p => p.status = .arriving) ∧
      s.setArriving line q =
        s.setLine line { l with buffer := l.buffer.map fun p => if p.status = .arriving then q else p }) ∧
  (∀ (buffer : List Passage) (osc : Nat),
    let passed (since : Nat) : Nat := (osc - since) * 25 / 8 / 65536
    let come (p : Passage) : Nat := if p.status = .arriving then min p.bytes.length (passed p.firstAt) else p.bytes.length
    (∀ p : Passage, (p.departedAt = none → p.sent osc = 0) ∧
      ∀ t, p.departedAt = some t → p.sent osc = min (come p) (passed t)) ∧
    occupancy buffer osc = (buffer.map fun p => if p.cutAt.isSome then 0 else come p - p.sent osc).sum) ∧
  ∀ (s : State) (dt : Nat) (line : Line) (bytes : List Byte), bytes ≠ [] → (s.lineAt line).arriving = none →
    let u := s.runBy dt
    let l := s.lineAt line
    let inActive : Bool := s.lines.mode == .active
    let record : Passage :=
      { bytes := bytes, treatment := s.lines.mode
        arrival := if inActive then some (u.clock.value : Int) else none
        firstAt := u.clock.osc
        notedBank := if inActive then some s.cls.active else none
        payloadStarted := false
        classification := if inActive then some .pending else none
        consumer := none, edits := [], status := .arriving, departedAt := none, residence := none, cutAt := none }
    let admitted := u.setLine line { l with buffer := l.buffer ++ [record] }
    (occupancy l.buffer u.clock.osc + 9216 ≤ 65536 →
      exec (.frameFirstByte dt line bytes) s =
        .next (if s.lines.mode = .boot then admitted.pickIfIdle line.other else admitted)) ∧
    (65536 < occupancy l.buffer u.clock.osc + 9216 →
      exec (.frameFirstByte dt line bytes) s =
        .next (u.setLine line { l with overruns := min 65535 (l.overruns + 1) }))

/-- The places of a frame's fields: the destination in bytes 0 to 5, the source in the next six, the type in the two before the
payload start, the payload after it, one VLAN tag skipped (R41, R174). Fixed recognition (R28). In ACTIVE, at the completion of classification, a frame addressed to the part is consumed by its
type, kind, line and domain; one of the timing type that suits no row of the table is consumed and dropped, and counted
MISDIRECTED. That a frame too short to show its kind and domain is one of these is the model's inference (DEDUCED, log entry 36),
and where the two types were one, which R169 never lets stand, the management type would be taken first by the model's choice
(log entry 66). In commanded BYPASS, at the payload start, a management frame addressed to the part is consumed, and any other
is ready to leave (R25). Nothing else changes. -/
def Obligations.RecognitionConsumesByTypeKindLineAndDomain : Prop :=
  (∀ bytes : List Byte,
    let start : Nat := if (bytes.drop 12).take 2 = [0x81, 0x00] then 18 else 14
    payloadStart bytes = start ∧
      (∀ a, destinationOf bytes = some a ↔ bytes.take 6 = beBytes 6 a.toNat) ∧
      (∀ a, sourceOf bytes = some a ↔ (bytes.drop 6).take 6 = beBytes 6 a.toNat) ∧
      (∀ t, typeOf bytes = some t ↔ (bytes.drop (start - 2)).take 2 = beBytes 2 t.toNat) ∧
      (∀ n, payloadByte bytes n = bytes[start + n]?) ∧
      payloadOf bytes = (bytes.take (bytes.length - 4)).drop start) ∧
  ∀ (s : State) (dt : Nat) (line : Line) (p : Passage), (s.lineAt line).arriving = some p →
    let u := s.runBy dt
    let addressed : Prop := destinationOf p.bytes = some s.agent.address
    let timing : Prop := typeOf p.bytes = some s.lines.timingType ∧ typeOf p.bytes ≠ some s.lines.managementType
    let kindIs (kind : Byte) (domain : Nat) : Prop :=
      payloadByte p.bytes 1 = some kind ∧ (payloadByte p.bytes 2).map BitVec.toNat = some domain
    (p.classification = some .pending → addressed →
      let consumedBy (c : Consumer) :=
        u.setArriving line { p with classification := some .complete, consumer := some c }
      (typeOf p.bytes = some s.lines.managementType →
        exec (.classificationComplete dt line) s = .next (consumedBy .agent)) ∧
      (timing → line = .north → kindIs 2 s.exch.northDomain →
        exec (.classificationComplete dt line) s = .next (consumedBy .exchange)) ∧
      (timing → line = .south → kindIs 1 s.south.domain →
        exec (.classificationComplete dt line) s = .next (consumedBy .south)) ∧
      (timing → ¬(line = .north ∧ kindIs 2 s.exch.northDomain) →
        ¬(line = .south ∧ kindIs 1 s.south.domain) →
        let t := consumedBy .nobody
        exec (.classificationComplete dt line) s = .next (t.setLine line
          { t.lineAt line with misdirected := min 65535 ((s.lineAt line).misdirected + 1) }))) ∧
    (p.treatment = .commanded → p.consumer = none → p.payloadStarted = false →
      payloadStart p.bytes < p.bytes.length →
      (addressed → typeOf p.bytes = some s.lines.managementType →
        exec (.bypassPayloadStart dt line) s =
          .next (u.setArriving line { p with payloadStarted := true, consumer := some .agent })) ∧
      (¬addressed ∨ typeOf p.bytes ≠ some s.lines.managementType →
        exec (.bypassPayloadStart dt line) s =
          .next ((u.setArriving line { p with payloadStarted := true }).pickIfIdle line.other)))

/-- An entry fits a frame where it is enabled, its line is the frame's or EITHER, and its type, its source and each of its byte
terms, where present, hold of bytes that have arrived (R41, R42). The issue stamp of an entry is the 10 bytes at its offset,
where the frame has them and they are an instant (R45). A passing frame completes its classification (R24, R43 to R45): the first entry of the noted bank that fits counts a
match, its SAMPLE is handed over and then its DATE settled, and the frame is ready with the correction add of R30 and the
stamp-field write of R44. A frame of fewer than 64 bytes counts its match and has its hand-offs withdrawn (R125). With no
entry fitting only the correction add is given. -/
def Obligations.PassingFrameIsClassifiedByItsFirstFit : Prop :=
  (∀ (e : ClassEntry) (line : Line) (bytes : List Byte),
    let start : Nat := if (bytes.drop 12).take 2 = [0x81, 0x00] then 18 else 14
    let number (place width : Nat) : Nat := ((bytes.drop place).take width).foldl (fun n b => n * 256 + b.toNat) 0
    (e.fits line bytes = true ↔
      e.enabled = true ∧ (e.line = .either ∨ (e.line = .north ∧ line = .north) ∨ (e.line = .south ∧ line = .south)) ∧
        (∀ t, e.typeValue = some t → (bytes.drop (start - 2)).take 2 = beBytes 2 t.toNat) ∧
        (∀ a, e.source = some a → (bytes.drop 6).take 6 = beBytes 6 a.toNat) ∧
        ∀ t, some t ∈ e.terms → ∃ b, bytes[start + t.offset]? = some b ∧ b &&& t.mask = t.value &&& t.mask) ∧
    (e.issueOffset = none → e.issueStamp bytes = none) ∧
    ∀ n, e.issueOffset = some n →
      let place := start + n
      let nanos := number (place + 6) 4
      (bytes.length < place + 10 ∨ 1000000000 ≤ nanos → e.issueStamp bytes = none) ∧
      (place + 10 ≤ bytes.length → nanos < 1000000000 →
        e.issueStamp bytes = some { seconds := number place 6, nanos := nanos, fraction := 0 })) ∧
  ∀ (s : State) (dt : Nat) (line : Line) (p : Passage) (bank : Bank),
    (s.lineAt line).arriving = some p → p.classification = some .pending → p.notedBank = some bank →
    destinationOf p.bytes ≠ some s.agent.address ∨
      (typeOf p.bytes ≠ some s.lines.managementType ∧ typeOf p.bytes ≠ some s.lines.timingType) →
    let u := s.runBy dt
    let first : List Edit :=
      if s.lines.transitCorrection = true ∧ typeOf p.bytes = some s.lines.timingType ∧
          payloadByte p.bytes 0 = some 2 ∧ payloadStart p.bytes + 26 ≤ p.bytes.length
      then [.correctionAdd] else []
    let ready (t : State) (more : List Edit) :=
      (t.setArriving line { p with classification := some .complete, edits := first ++ more }).pickIfIdle line.other
    let entries := s.cls.entries bank
    ((∀ e ∈ entries, e.fits line p.bytes = false) →
      exec (.classificationComplete dt line) s = .next (ready u [])) ∧
    (∀ (k : Nat) (e : ClassEntry), entries[k]? = some e → e.fits line p.bytes = true →
      (∀ j e', j < k → entries[j]? = some e' → e'.fits line p.bytes = false) →
      let counted := { u with cls :=
        { s.cls with matchCounts := s.cls.matchCounts.modify k fun n => min 4294967295 (n + 1) } }
      (p.bytes.length < 64 → exec (.classificationComplete dt line) s = .next (ready counted [])) ∧
      ∀ source, 64 ≤ p.bytes.length → sourceOf p.bytes = some source →
        let sampled :=
          match if e.sample then e.issueStamp p.bytes else none with
          | some issue => { counted with mon := s.mon.sampleHandoff line source issue (p.arrival.getD 0) }
          | none => counted
        let hand : DateHandoff :=
          { stream := k, arrival := p.arrival.getD 0, offset := e.datingOffset, stampOffset := e.stampOffset
            source := source, line := line, payloadStart := payloadStart p.bytes
            issue := if e.sample then (sampled.mon.heldSample line).map (·.sample) else none }
        (e.date = false → exec (.classificationComplete dt line) s = .next (ready sampled [])) ∧
        (e.date = true → exec (.classificationComplete dt line) s = .next (ready (sampled.settle hand)
          (match e.stampOffset with
           | some n => [.stampField n (s.dater.settled hand).1]
           | none => []))))

/-- The last byte of a frame (R24, R26, R29). Short and not begun: a length error, and the frame is dropped with no
frame-end event. Of legal length: good or bad by its check sequence, bad counted; a passing frame takes the status, and the
frame-end event goes to the monitor, at that reading of the run counter, and to the dater, which does nothing without an open
date; a consumed frame is released and, if good, given to its block, a request to the agent, a
Reply to the north exchange, a Query to the south server (R28). At a
9,217th byte: a length error, and a bad frame-end event; a frame not begun is dropped. By the model's choice: a short frame
that has begun to leave, which BYPASS alone allows, is counted and leaves as it arrived (log entry 8); an over-long frame in
transmission is cut at the bytes sent by then, counted at the line rate (log entries 9 and 6); a line that had picked a frame which is then dropped picks again where
no passing frame is left for it (repickDropped), a pick that R33 does not name (DEDUCED, log entry 43); and the end of an over-long
frame does nothing (log entry 3). -/
def Obligations.FrameEndSettlesTheFrame : Prop :=
  (∀ (s : State) (line : Line) (bytes : List Byte) (arrival : Int),
    s.deliver line .agent bytes arrival = s.takeRequest line bytes ∧
      s.deliver line .exchange bytes arrival = s.takeReplyFrame bytes arrival ∧
      s.deliver line .south bytes arrival = s.takeQueryFrame bytes arrival ∧
      s.deliver line .nobody bytes arrival = s) ∧
  (∀ (s : State) (line : Line) (good : Bool) (length : Nat),
    s.frameEndEvent line good length =
        State.closeDate { s with mon := s.mon.frameEnd line good s.clock.runCounter } line good length ∧
      (s.dater.openDate line = none → s.closeDate line good length = s) ∧
      s.dater.openDate .north = s.dater.openN ∧ s.dater.openDate .south = s.dater.openS) ∧
  (∀ (s : State) (line : Line),
    let stranded : Prop := (s.lineAt line).transmit = .pickedPassing ∧
      ∀ q ∈ (s.lineAt line.other).buffer, q.consumer.isSome = true
    (stranded → s.repickDropped line = s.pick line) ∧ (¬stranded → s.repickDropped line = s)) ∧
  (∀ p : Passage, p.mayEnd = true ↔
    (p.treatment = .active → p.classification = some .complete) ∧
    (p.treatment = .commanded → p.consumer.isSome = true ∨ p.payloadStarted = true ∨
      p.bytes.length ≤ payloadStart p.bytes)) ∧
  ∀ (s : State) (dt : Nat) (line : Line) (p : Passage), (s.lineAt line).arriving = some p → p.mayEnd = true →
    let u := s.runBy dt
    let l := s.lineAt line
    let n := p.bytes.length
    let good : Bool := p.bytes.drop (n - 4) == checkSequence (p.bytes.take (n - 4))
    let others := l.buffer.filter fun q => q.status ≠ .arriving
    let withIt (q : Passage) := l.buffer.map fun x => if x.status = .arriving then q else x
    let short := { l with lengthErrors := min 65535 (l.lengthErrors + 1) }
    let tested := { l with badCheck := if good then l.badCheck else min 65535 (l.badCheck + 1) }
    (n < 64 → p.departedAt = none →
      exec (.frameEnd dt line) s = .next ((u.setLine line { short with buffer := others }).repickDropped line.other)) ∧
    (n < 64 → p.departedAt.isSome = true →
      exec (.frameEnd dt line) s = .next (u.setLine line { short with buffer := withIt { p with status := .bad } })) ∧
    (64 ≤ n → n ≤ 9216 → p.consumer = none →
      let kept := { tested with buffer := withIt { p with status := if good then .good else .bad } }
      exec (.frameEnd dt line) s = .next ((u.setLine line kept).frameEndEvent line good n)) ∧
    (∀ c, 64 ≤ n → n ≤ 9216 → p.consumer = some c →
      let released := (u.setLine line { tested with buffer := others }).frameEndEvent line good n
      exec (.frameEnd dt line) s =
        .next (if good then released.deliver line c p.bytes (p.arrival.getD 0) else released)) ∧
    (9216 < n → exec (.frameEnd dt line) s = .next u ∧
      (p.departedAt = none → exec (.frameOverlength dt line) s = .next (State.frameEndEvent
        ((u.setLine line { short with buffer := others }).repickDropped line.other) line false n)) ∧
      (p.departedAt.isSome = true → exec (.frameOverlength dt line) s = .next (State.frameEndEvent
        (u.setLine line { short with
          buffer := withIt { p with status := .bad, cutAt := some (min 9217 (p.sent u.clock.osc)) } })
        line false n)))

/-- The start of a frame's departure (R23, R31, R32). The oldest passing frame gets its residence, the running since its
arrival stamp (carried through the end of the timescale's range by the model's choice, log entry 32), and starts to be sent.
An own frame leaves its origin queue with its marked fields written; the departure of the Query the record waits for, which is
the last one built (log entry 58), opens it with that stamp and the effective reply window (R58), and that of an earlier one,
voided since, does nothing (R57); that of a RESET's response releases the hold (R171); and the freed
place is offered. -/
def Obligations.DepartureStampsTheFrame : Prop :=
  ∀ (s : State) (line : Line),
    let l := s.lineAt line
    let b := s.lineAt line.other
    (∀ before p after, l.transmit = .pickedPassing → b.buffer = before ++ p :: after →
      (∀ q ∈ before, q.consumer.isSome = true) → p.consumer = none →
      let gone := { p with
        departedAt := some s.clock.osc
        residence := p.arrival.map fun a => ((s.clock.value : Int) - a) % (timescaleRange : Int) }
      exec (.frameDeparture line) s = .next
        ((s.setLine line.other { b with buffer := before ++ gone :: after }).setLine line
          { l with transmit := .sendingPassing })) ∧
    ∀ (i : Nat) (f : OwnFrame), l.transmit = .pickedOwn i → l.origin[i]? = some f →
      let bytes := f.departing s.clock.value s.ownClass s.servo.uncertainty
      let left := s.setLine line { l with origin := l.origin.eraseIdx i, transmit := .sendingOwn bytes }
      let window := min s.exch.replyWindow (125 * 2 ^ (s.exch.queryExp + 3).toNat)
      let record : QueryRecord :=
        match s.exch.record with
        | .waiting seq =>
          if f.queryNumber = some s.exch.built then
            .opened seq s.clock.value (s.clock.runCounter + BitVec.ofNat 32 window)
          else .waiting seq
        | other => other
      let freed := s.agent.hold.map fun h => { h with released := true }
      let told : State :=
        { left with
          exch := { s.exch with record := record }
          agent := if f.resetResponse then { s.agent with hold := freed } else s.agent }
      exec (.frameDeparture line) s = .next (told.fill line)

/-- A timing stamp is 6 bytes of seconds, 4 of nanoseconds and 2 of fine units (R174); one outside the timescale's range is 12
bytes of a free value (log entry 12). What an own frame carries as its block builds it, by the layouts of R174, R175 and R180 to R183: the header from the part's
line address, tagged where a tag is given; a Query (R57), a Reply (R112) and a Grade (R116) behind their timing header; a
response with its status and its items (R180); a Notice, a Date Report and a Summary (R159) behind their report header, each
Notice entry in 26 bytes with its states' codes and the snapshot of its subject, and each date record by its flags. A rack's rate
that 4 signed bytes do not hold is sent as a free value (log entry 13), and the flags of R183's lists stand from bit 0 up, by the
model's choice (log entry 63). A date record's
held, short, unlocked, gap, origin and issue flags are bits 0 to 5. The source byte of a servo condition's snapshot is 0 by the
model's choice (log entry 57). And what it carries as it leaves (R31, R112, R174): a Query's t1, and a Reply's t3, class and U, are written in
their places; nothing else is changed; and the frame is padded with zeros to 60 bytes. -/
def Obligations.OwnFramesLeaveWithTheirMarkedFieldsWritten : Prop :=
  let place {α : Type} [BEq α] (l : List α) (x : α) : Byte := BitVec.ofNat 8 (l.idxOf x)
  let bits (l : List Bool) : Byte := BitVec.ofNat 8 ((l.zipIdx.map fun x => if x.1 then 2 ^ x.2 else 0).sum)
  let condition (c : Condition) : Byte := BitVec.ofNat 8 ([ServoState.free, .acquire, .locked, .holdover].idxOf c.state +
    (if c.held then 4 else 0) + (if c.memory then 8 else 0) + 16 * [Ref.north, .pulse, .none].idxOf c.active)
  (∀ (width : Nat) (n : Nat) (x : Int),
    (beBytes width n).length = width ∧
      (beBytes width n).foldl (fun k b => k * 256 + b.toNat) 0 = n % 256 ^ width ∧
      signedBytes width x = beBytes width (x % (256 ^ width : Nat)).toNat) ∧
  (∀ v : Int, (stampBytes v).length = 12 ∧ (0 ≤ v → v < 2 ^ 48 * 1000000000 * 65536 →
    let nanoseconds := v.toNat / 65536
    stampBytes v = beBytes 6 (nanoseconds / 1000000000) ++ beBytes 4 (nanoseconds % 1000000000) ++
      beBytes 2 (v.toNat % 65536))) ∧
  (∀ s : State,
    let address := s.agent.address.toNat
    let sender := beBytes 8 (address * 65536 + 1)
    let header (dest : Address) (tag : Option (BitVec 16)) (type : BitVec 16) : List Byte :=
      beBytes 6 dest.toNat ++ beBytes 6 address ++
        (match tag with
         | some x => [0x81, 0x00] ++ beBytes 2 x.toNat
         | none => []) ++ beBytes 2 type.toNat
    let timing (kind : Byte) (domain : Nat) (seq : BitVec 16) : List Byte :=
      [2, kind] ++ beBytes 1 domain ++ [0] ++ beBytes 2 seq.toNat ++ sender ++ beBytes 8 0
    let report (kind : Byte) (seq : BitVec 16) (count : Nat) : List Byte :=
      [1, kind] ++ beBytes 2 seq.toNat ++ sender ++ beBytes 1 count
    let is (f : OwnFrame) (kind : OwnKind) (start : Nat) (bytes : List Byte) : Prop :=
      f.kind = kind ∧ f.start = start ∧ f.bytes = bytes ∧ f.resetResponse = false
    let state : Byte := match s.servo.state with
      | .free => 0
      | .acquire => 1
      | .locked => 2
      | .holdover => 3
    let placed (tag : Option (BitVec 16)) : Nat := if tag = none then 14 else 18
    is s.buildQuery .query 14
      (header s.exch.leader none s.lines.timingType ++ timing 1 s.exch.northDomain s.exch.nextSeq ++ beBytes 12 0) ∧
    is s.buildGrade .grade 14
      (header s.south.group none s.lines.timingType ++ timing 3 s.south.domain s.south.gradeSeq ++
        beBytes 1 s.ownClass ++ [state] ++ signedBytes 1 s.south.gradeExp ++ beBytes 4 s.servo.uncertainty) ∧
    (∀ e, is (s.buildReply e) .reply (placed e.tag)
      (header e.requester e.tag s.lines.timingType ++ timing 2 e.domain e.seq ++ beBytes 8 e.senderId.toNat ++
        stampBytes e.t2 ++ beBytes 12 0 ++ signedBytes 8 e.cFwd ++ beBytes 5 0)) ∧
    (∀ (r : Request) status results,
      let code := place [Status.ok, .clamped, .badCommand, .badIndex, .badValue, .duplicate, .pending, .alreadyPending,
        .badState]
      is (s.response r status results) .response (placed r.tag)
        (header r.source r.tag s.lines.managementType ++ [1, 2] ++ (r.body.drop 2).take 2 ++ [code status] ++
          beBytes 1 results.length ++
          results.flatMap fun x => [code x.status] ++ beBytes 2 x.content.length ++ x.content)) ∧
    (∃ sentRate : Int → List Byte,
      (∀ x, (sentRate x).length = 4 ∧ (-(2 ^ 31) ≤ x → x < 2 ^ 31 → sentRate x = signedBytes 4 x)) ∧
      let rack (q : Rack) : List Byte :=
        [place [RackState.quiet, .unjudged, .inStep, .watch, .drifting] q.state,
          bits [q.mean.isSome, q.rate.isSome, q.split, q.drill]] ++ signedBytes 4 (q.mean.getD 0) ++
          (q.rate.elim (beBytes 4 0) sentRate) ++ beBytes 2 q.members
      let faults (l : LineState) : Bool := 0 < l.badCheck || 0 < l.lengthErrors || 0 < l.overruns
      let conditions : List Bool :=
        [s.mon.racks.any fun q => q.state == .watch || q.state == .drifting, s.mon.racks.any fun q => q.state == .drifting,
          s.mon.racks.any Rack.split, s.servo.state != .locked, s.servo.state == .holdover, s.rep.dateGap,
          s.rep.noticeOverflow, faults s.lines.north || faults s.lines.south]
      is (s.collectorFrame .summary s.summaryBytes) .summary (placed s.rep.collectorTag)
        (header s.rep.collector s.rep.collectorTag s.lines.managementType ++ report 19 s.rep.summarySeq 32 ++
          [condition s.servo.condition] ++ beBytes 1 s.ownClass ++ beBytes 4 s.servo.uncertainty ++
          signedBytes 4 s.clock.rateA ++ beBytes 2 s.dater.queue.length ++ [bits conditions] ++ s.mon.racks.flatMap rack)) ∧
    (∀ entries, is (s.buildNotice entries) .notice (placed s.rep.collectorTag)
      (header s.rep.collector s.rep.collectorTag s.lines.managementType ++
        report 18 s.rep.noticeSeq entries.length ++ entries.flatMap NoticeEntry.sentBytes)) ∧
    (∀ records, is (s.buildDateReport records) .dateReport (placed s.rep.collectorTag)
      (header s.rep.collector s.rep.collectorTag s.lines.managementType ++
        report 17 s.rep.dateReportSeq records.length ++ records.flatMap DateRecord.sentBytes))) ∧
  (∀ e : NoticeEntry,
    let subject : Byte × Nat := match e.subject with
      | .rack k => (1, k)
      | .server j => (2, j)
      | .servo => (3, 0)
      | .streamGap k => (4, k)
      | .swap => (5, 0)
    let code : SubjectState → Byte
      | .rack x => place [RackState.quiet, .unjudged, .inStep, .watch, .drifting] x
      | .server x => place [ServerState.unseen, .settling, .tracking, .stray, .silent] x
      | .servo c => condition c
      | .gap losing => if losing then 1 else 0
      | .bank b => place [Bank.bank0, .bank1] b
    e.sentBytes.length = 26 ∧
    e.sentBytes.take 6 =
      [subject.1] ++ beBytes 2 subject.2 ++ [code e.firstOld, code e.latestNew] ++ beBytes 1 e.count ∧
    (∀ mean rate spread members split drill, e.snapshot = .rack mean rate spread members split drill →
      ∃ sent : List Byte, sent.length = 4 ∧
        (∀ x, rate.getD 0 = x → -(2 ^ 31) ≤ x → x < 2 ^ 31 → sent = signedBytes 4 x) ∧
        e.sentBytes.drop 6 = [bits [mean.isSome, rate.isSome, spread.isSome, split, drill]] ++
          signedBytes 4 (mean.getD 0) ++ sent ++ signedBytes 4 (spread.getD 0) ++ beBytes 2 members ++ beBytes 5 0) ∧
    (∀ filtered k, e.snapshot = .server filtered k →
      e.sentBytes.drop 6 = [bits [filtered.isSome]] ++ signedBytes 4 (filtered.getD 0) ++ beBytes 1 k ++ beBytes 14 0) ∧
    (∀ u c, e.snapshot = .condition u c → e.sentBytes.drop 6 = [0] ++ beBytes 4 u ++ beBytes 1 c ++ beBytes 14 0) ∧
    (∀ applied source u, e.snapshot = .step applied source u →
      let code : Byte := match source with
        | .acquire => 0
        | .align => 1
        | .setTime => 2
      e.sentBytes.drop 6 = [1] ++ beBytes 4 u ++ [0] ++ signedBytes 12 applied ++ [code, 0]) ∧
    (∀ lost gap, e.snapshot = .gap lost gap →
      e.sentBytes.drop 6 = beBytes 4 lost.toNat ++ beBytes 4 gap.toNat ++ beBytes 12 0) ∧
    (∀ second, e.snapshot = .swap second → e.sentBytes.drop 6 = beBytes 6 second ++ beBytes 14 0)) ∧
  (∀ r : DateRecord, ∃ flags : Byte,
    (∀ i : Fin 8, flags.getLsbD i =
      [r.held, r.short, r.state != .locked, r.gap != 0, r.origin.isSome, r.issueOffset.isSome, false, false].getD i false) ∧
    r.sentBytes = beBytes 1 r.stream ++ [flags] ++ [r.state.code] ++ beBytes 4 r.seq.toNat ++
      beBytes 6 (r.date / 1000000000) ++ beBytes 4 (r.date % 1000000000) ++ beBytes 4 r.uncertainty ++
      (if r.gap = 0 then [] else beBytes 4 r.gap.toNat) ++ (r.origin.elim [] fun i => beBytes 2 i) ++
      (r.issueOffset.elim [] fun x => signedBytes 4 x)) ∧
  ∀ (f : OwnFrame) (stamp : Int) (ownClass u : Nat),
    let padded (bytes : List Byte) := bytes ++ List.replicate (60 - bytes.length) 0
    (f.kind = .query → f.start + 34 ≤ f.bytes.length →
      f.departing stamp ownClass u =
        padded (f.bytes.take (f.start + 22) ++ stampBytes stamp ++ f.bytes.drop (f.start + 34))) ∧
    (f.kind = .reply → f.start + 67 ≤ f.bytes.length →
      f.departing stamp ownClass u =
        padded (f.bytes.take (f.start + 42) ++ stampBytes stamp ++ (f.bytes.drop (f.start + 54)).take 8 ++
          beBytes 1 ownClass ++ beBytes 4 u ++ f.bytes.drop (f.start + 67))) ∧
    (f.kind ≠ .query → f.kind ≠ .reply → f.departing stamp ownClass u = padded f.bytes)

/-- The end of a transmission (R27, R33): an own frame ends with the check sequence over its bytes as sent; the oldest
passing frame, once its last byte has come, leaves its buffer as sent; and the arbiter picks again. A passing frame still
arriving is not overtaken (R25). -/
def Obligations.TransmitEndSendsTheCheckSequenceAndPicks : Prop :=
  ∀ (s : State) (dt : Nat) (line : Line),
    let u := s.runBy dt
    let l := s.lineAt line
    let b := s.lineAt line.other
    (∀ bytes, l.transmit = .sendingOwn bytes →
      exec (.transmitEnd dt line) s = .next (State.pick
        (u.setLine line { l with egress := some (bytes ++ checkSequence bytes), transmit := .idle }) line)) ∧
    ∀ before p after, l.transmit = .sendingPassing → b.buffer = before ++ p :: after →
      (∀ q ∈ before, q.consumer.isSome = true) → p.consumer = none →
      (p.status ≠ .arriving →
        exec (.transmitEnd dt line) s = .next (State.pick
          ((u.setLine line.other { b with buffer := before ++ after }).setLine line
            { l with egress := some p.sentBytes, transmit := .idle }) line)) ∧
      (p.status = .arriving → exec (.transmitEnd dt line) s = .next u)

/-- The check sequence: the remainder of R174, of every byte before it, each entering the division least significant bit first,
the register starting at all ones and inverted at the end, the coefficient of x^31 in the least significant bit of the first
byte. A frame is good where its last four bytes are that of the bytes before them (R26). The check sequence of a frame as sent
(R27). A computed one is correct; a stomped one is its bitwise inverse and is never
correct; a frame nothing was written into leaves as it arrived; one that arrived good leaves good; one that arrived bad, or
was cut at the greatest length (R26), never leaves good. That a BYPASS frame too is cut at the greatest length is inferred from
R26, which makes no exception (DEDUCED, log entry 10). -/
def Obligations.BadFramesNeverLeaveGood : Prop :=
  (∀ bytes : List Byte,
    let generator : BitVec 32 :=
      ([26, 23, 22, 16, 12, 11, 10, 8, 7, 5, 4, 2, 1, 0].map fun k => 1#32 <<< k).foldl (fun x y => x ||| y) 0
    let divide (r : BitVec 32) (bit : Bool) : BitVec 32 := if r.msb != bit then (r <<< 1) ^^^ generator else r <<< 1
    let bits : List Bool := bytes.flatMap fun b => (List.range 8).map fun k => b.getLsbD k
    let remainder := ~~~(bits.foldl divide (BitVec.allOnes 32))
    (checkSequence bytes).length = 4 ∧
    (∀ i j, i < 4 → j < 8 → ∃ b, (checkSequence bytes)[i]? = some b ∧
      b.getLsbD j = remainder.getLsbD (31 - (8 * i + j))) ∧
    (checkGood bytes = true ↔ bytes.drop (bytes.length - 4) = checkSequence (bytes.take (bytes.length - 4))) ∧
    checkGood (bytes ++ checkSequence bytes) = true ∧ checkGood (bytes ++ stompedSequence bytes) = false ∧
      stompedSequence bytes = (checkSequence bytes).map fun b => ~~~b) ∧
  ∀ p : Passage,
    (p.cutAt = none → p.edits = [] → p.sentBytes = p.bytes) ∧
    (p.cutAt = none → p.status = .good → checkGood p.bytes = true → checkGood p.sentBytes = true) ∧
    (p.cutAt = none → p.status = .bad → checkGood p.bytes = false → checkGood p.sentBytes = false) ∧
    (p.cutAt.isSome = true → checkGood p.sentBytes = false)

/-- The two edits as a frame leaves. The correction add puts the correction as it arrived plus the residence, saturated at
±(2^63 − 1), in its place (R30); the stamp-field write puts the date's seconds and nanoseconds in the ten bytes of its field
(R123). Each leaves every byte before and after its field, up to the check sequence, as it arrived; a field that does not
lie inside the frame is not written, and a frame in which nothing was written leaves with its arrival check sequence,
also where it arrived bad, as the model infers from R27 (DEDUCED, log entry 31). A frame that carries both has the correction
added and then the date written, over it where the two fields share bytes; that order is the model's inference from R30 and R44
(DEDUCED, log entry 30). -/
def Obligations.EditsWriteTheirFieldAndNoOther : Prop :=
  (∀ (bytes : List Byte) (k : Nat) (x : Int), -(2 ^ 63) ≤ x → x < 2 ^ 63 →
    (intAt bytes k 8 = some x ↔ (bytes.drop k).take 8 = signedBytes 8 x)) ∧
  ∀ p : Passage, p.cutAt = none →
    let start := payloadStart p.bytes
    (∀ r : Int, p.residence = some r → p.edits = [.correctionAdd] → start + 26 ≤ p.bytes.length →
      ∃ c, intAt p.bytes (start + 14) 8 = some c ∧
        withoutCheck p.sentBytes =
          p.bytes.take (start + 14) ++
            signedBytes 8 (max (-(2 ^ 63 - 1)) (min (2 ^ 63 - 1) (c + r))) ++
            (withoutCheck p.bytes).drop (start + 22)) ∧
    (∀ (r : Int) offset date, p.residence = some r → p.edits = [.correctionAdd, .stampField offset date] →
      start + 26 ≤ p.bytes.length →
      ∃ c, intAt p.bytes (start + 14) 8 = some c ∧
        let b := withoutCheck p.bytes
        let corrected := b.take (start + 14) ++ signedBytes 8 (max (-(2 ^ 63 - 1)) (min (2 ^ 63 - 1) (c + r))) ++
          b.drop (start + 22)
        (start + offset + 14 ≤ p.bytes.length →
          withoutCheck p.sentBytes =
            corrected.take (start + offset) ++ beBytes 6 (date / 1000000000) ++ beBytes 4 (date % 1000000000) ++
              corrected.drop (start + offset + 10)) ∧
        (p.bytes.length < start + offset + 14 → withoutCheck p.sentBytes = corrected)) ∧
    (∀ offset date, p.edits = [.stampField offset date] →
      (start + offset + 14 ≤ p.bytes.length →
        withoutCheck p.sentBytes =
          p.bytes.take (start + offset) ++ beBytes 6 (date / 1000000000) ++ beBytes 4 (date % 1000000000) ++
            (withoutCheck p.bytes).drop (start + offset + 10)) ∧
      (p.bytes.length < start + offset + 14 → p.sentBytes = p.bytes))

/-- The arbiter's pick (R33): in ACTIVE, with an own frame in the origin queue and the feeding buffer's occupancy within the
injection limit, it takes the own frame whose kind stands first in the priority order, the first joined of that kind.
Otherwise it takes the oldest passing frame if that is ready, and otherwise none. A passing frame is ready that has not begun
to leave: an ACTIVE one once its classification is complete, with 64 bytes or more, one of commanded BYPASS at its payload
start, and one of boot BYPASS at once (R20, R25, R26). An own frame that joins stands last in its
queue and brings a pick to an idle line, and where the line has picked a passing frame that has not begun to leave the pick is
made over both (that it stands otherwise is the model's choice, log entry 43). Each free place of a queue is offered (R32): line
S to the head of the reply queue (R111) and then the waiting Grade, line N to the waiting Query, and the collector's line then to
the Notice, of the oldest 16 entries (R156), the Date Report, of the oldest 32 records (R131), and the Summary (R158), each
taking the next sequence of its kind. -/
def Obligations.ArbiterPicksByPriorityWithinTheLimit : Prop :=
  (∀ p : Passage, p.ready = true ↔
    p.consumer = none ∧ p.departedAt = none ∧
      (p.treatment = .active → p.classification = some .complete ∧ 64 ≤ p.bytes.length) ∧
      (p.treatment = .commanded → p.payloadStarted = true)) ∧
  (∀ (s : State) (line : Line),
    s.pick line = s.setLine line { s.lineAt line with transmit := s.pickFor line } ∧
      s.pickIfIdle line = (if (s.lineAt line).transmit = .idle then s.pick line else s) ∧
      (s.hasPlace line = true ↔ (s.lineAt line).origin.length < 8)) ∧
  (∀ (s : State) (line : Line) (f : OwnFrame),
    let l := s.lineAt line
    let queued := s.setLine line { l with origin := l.origin ++ [f] }
    (l.transmit = .idle ∨ l.transmit = .pickedPassing →
      s.join line f = s.setLine line { l with origin := l.origin ++ [f], transmit := queued.pickFor line }) ∧
    (l.transmit ≠ .idle → l.transmit ≠ .pickedPassing → s.join line f = queued)) ∧
  (∀ (s : State) (line : Line),
    (8 ≤ (s.lineAt line).origin.length ∨ s.offer line = none → s.fill line = s) ∧
    ∀ f t, (s.lineAt line).origin.length < 8 → s.offer line = some (f, t) → s.fill line = (t.join line f).fill line) ∧
  (∀ s : State,
    let reported : Option (OwnFrame × State) :=
      let later (x : ReportEngine) (d : Dater) : State := { s with rep := x, dater := d }
      if s.rep.noticeWaiting then
        let t := later { s.rep with notices := s.rep.notices.drop 16, noticeSeq := s.rep.noticeSeq + 1 } s.dater
        some (s.buildNotice (s.rep.notices.take 16), t.setRep { t.rep with noticeWaiting := t.noticeReady })
      else if s.rep.dateReportWaiting then
        let t := later { s.rep with dateReportSeq := s.rep.dateReportSeq + 1 }
          { s.dater with queue := s.dater.queue.drop 32 }
        some (s.buildDateReport (s.dater.queue.take 32), t.setRep { t.rep with dateReportWaiting := t.dateReady })
      else if s.rep.summaryWaiting then
        some (s.collectorFrame .summary s.summaryBytes,
          later { s.rep with summaryWaiting := false, summarySeq := s.rep.summarySeq + 1 } s.dater)
      else none
    let collected (line : Line) := if s.rep.collectorLine = line then reported else none
    (∀ e rest, s.south.queue = e :: rest →
      s.offer .south = some (s.buildReply e, { s with south := { s.south with queue := rest } })) ∧
    (∀ f, s.south.queue = [] → s.south.waitingGrade = some f →
      s.offer .south = some (f, { s with south := { s.south with waitingGrade := none } })) ∧
    (s.south.queue = [] → s.south.waitingGrade = none → s.offer .south = collected .south) ∧
    (∀ f, s.exch.waitingQuery = some f →
      s.offer .north = some (f, { s with exch := { s.exch with waitingQuery := none } })) ∧
    (s.exch.waitingQuery = none → s.offer .north = collected .north)) ∧
  ∀ (s : State) (line : Line),
    let feeding := (s.lineAt line.other).buffer
    let origin := (s.lineAt line).origin
    let order : List OwnKind := [.reply, .query, .grade, .response, .notice, .dateReport, .summary]
    let ownTurn : Prop :=
      s.lines.mode = .active ∧ occupancy feeding s.clock.osc ≤ s.lines.injectionLimit ∧ origin ≠ []
    (ownTurn → ∃ i f, origin[i]? = some f ∧ s.pickFor line = .pickedOwn i ∧
      ∀ j g, origin[j]? = some g →
        order.idxOf f.kind ≤ order.idxOf g.kind ∧ (g.kind = f.kind → i ≤ j)) ∧
    (¬ownTurn →
      (∀ before p after, feeding = before ++ p :: after → (∀ q ∈ before, q.consumer.isSome = true) →
        p.consumer = none → s.pickFor line = if p.ready then .pickedPassing else .idle) ∧
      ((∀ q ∈ feeding, q.consumer.isSome = true) → s.pickFor line = .idle))

/-! ## Dating -/

/-- The settle of a date (R120 to R122): the candidate date is the held arrival stamp plus the dating offset, to the nearest
nanosecond, within the range of dates; one later than the stream's last date stands, and any other becomes the last date
plus one nanosecond, HELD; the last date advances to it at once; a stream whose last date is the largest begins afresh
first. The open date takes U, the servo's state, the origin index and the issue offset of that instant. -/
def Obligations.SettleKeepsDatesRising : Prop :=
  ∀ (s : State) (h : DateHandoff), h.stream < s.dater.streams.length →
    let before := s.dater.stream h.stream
    let t := s.settle h
    let after := t.dater.stream h.stream
    let largest : Nat := 2 ^ 48 * 1000000000 - 1
    let candidate := (max 0 (min (largest : Int) (roundDiv (h.arrival + h.offset * 65536) 65536))).toNat
    (∃ o, t.dater.openDate h.line = some o ∧ after.lastDate = some o.date ∧ o.stream = h.stream ∧
      o.beginning = after.beginning ∧ o.uncertainty = s.servo.uncertainty ∧ o.state = s.servo.state ∧
      o.origin = s.mon.lookup h.source ∧ o.issueOffset = h.issue ∧ o.stampOffset = h.stampOffset ∧
      o.payloadStart = h.payloadStart ∧
      (before.lastDate = none → o.date = candidate ∧ o.held = false) ∧
      (∀ last, before.lastDate = some last → last ≠ largest →
        last < o.date ∧ (last < candidate → o.date = candidate ∧ o.held = false) ∧
          (candidate ≤ last → o.date = last + 1 ∧ o.held = true)) ∧
      (before.lastDate = some largest → o.date = candidate ∧ o.held = false)) ∧
    (before.lastDate = some largest →
      after = { StreamState.fresh (before.beginning + 1) with lastDate := after.lastDate }) ∧
    (before.lastDate ≠ some largest → after = { before with lastDate := after.lastDate }) ∧
    (∀ k, k ≠ h.stream → t.dater.stream k = s.dater.stream k) ∧ t.dater.queue = s.dater.queue ∧
    t.dater.openDate h.line.other = s.dater.openDate h.line.other ∧ t = { s with dater := t.dater }

/-- The frame-end event at the dater (R124, R126, R129). Where the stream has begun again since the settle the open date is
orphaned and counted, of a bad frame too, which R126 does not except (DEDUCED, log entry 41). A bad frame gives no record. A good one gives the record with the stream's next sequence; with room in
the date queue it enters with the pending gap count, which becomes 0, and arms the gap notice, and the date queue's readiness is applied as it then stands (R131); with none it is lost: the gap
grows by one, DATE_GAP latches, LOST_RECORD counts, and an armed notice is given and disarmed (R130). That a record is made so also
where the other line's open date of the stream has ended first with the later date is the model's choice (log entry 69). -/
def Obligations.FrameEndMakesOrLosesTheDateRecord : Prop :=
  (∀ s : State, s.refreshDateReport =
    State.fill { s with rep := { s.rep with dateReportWaiting := s.dateReady } } s.rep.collectorLine) ∧
  (∀ (d : Dater) (x : Option OpenDate),
    d.setOpenDate .north x = { d with openN := x } ∧ d.setOpenDate .south x = { d with openS := x }) ∧
  ∀ (s : State) (line : Line) (good : Bool) (length : Nat) (o : OpenDate), s.dater.openDate line = some o →
    let x := s.dater.stream o.stream
    let closed := s.dater.setOpenDate line none
    let changed (f : StreamState → StreamState) := { closed with streams := s.dater.streams.modify o.stream f }
    let record : DateRecord :=
      { stream := o.stream, beginning := o.beginning, seq := x.nextSeq, date := o.date, uncertainty := o.uncertainty
        state := o.state, held := o.held
        short := match o.stampOffset with
          | some n => length < o.payloadStart + n + 10 + 4
          | none => false
        gap := x.gap, origin := o.origin, issueOffset := o.issueOffset, createdAt := s.clock.osc }
    (x.beginning ≠ o.beginning →
      s.closeDate line good length =
        { s with dater := { closed with orphaned := min 65535 (s.dater.orphaned + 1) } }) ∧
    (x.beginning = o.beginning → good = false → s.closeDate line good length = { s with dater := closed }) ∧
    (x.beginning = o.beginning → good = true → s.dater.queue.length < 1024 →
      s.closeDate line good length = State.refreshDateReport
        { s with dater := { changed (fun y => { y with nextSeq := y.nextSeq + 1, gap := 0, armed := true }) with
          queue := s.dater.queue ++ [record] } }) ∧
    (x.beginning = o.beginning → good = true → 1024 ≤ s.dater.queue.length →
      let lost : State :=
        { s with
          dater := { changed (fun y => { y with nextSeq := y.nextSeq + 1, gap := y.gap + 1, armed := false }) with
            lostRecord := min 65535 (s.dater.lostRecord + 1) }
          rep := { s.rep with dateGap := true } }
      s.closeDate line good length =
        if x.armed then lost.transition (.streamGap o.stream) (.gap false) (.gap true) (.gap x.nextSeq (x.gap + 1))
        else lost)

/-! ## The north exchange and the references -/

/-- The query timer's expiry sets the next one by the interval then in force (R55) and meets the record (R56): EMPTY, a Query
is built with the next sequence and offered to line N (R57; the number it
bears is the model's, log entry 58); WAITING, a miss; OPEN, the window is closed with a miss and then
a Query is built. A window that expires empties the record and counts a miss (R59). A miss adds one to the missed count and,
with NORTH LIVE and the count at K or more, makes NORTH LOST with a LOST event (R63), and otherwise does nothing more. The
pulse liveness expiry makes PULSE LOST with a LOST event (R66). -/
def Obligations.QueryTimerWindowsAndMisses : Prop :=
  (∀ s : State, s.phase = .running → s.exch.queryIn = some 0 →
    let due : State := { s with exch := { s.exch with queryIn := some (125 * 2 ^ (s.exch.queryExp + 3).toNat) } }
    let issue (t : State) : State :=
      State.fill { t with exch := { t.exch with
        record := .waiting t.exch.nextSeq, waitingQuery := some t.buildQuery, built := t.exch.built + 1
        nextSeq := t.exch.nextSeq + 1, issued := min 32768 (t.exch.issued + 1) } } .north
    (s.exch.record = .empty → exec .queryTimerExpiry s = .next (issue due)) ∧
    (∀ seq, s.exch.record = .waiting seq → exec .queryTimerExpiry s = .next due.countMiss) ∧
    (∀ seq t1 expiry, s.exch.record = .opened seq t1 expiry →
      exec .queryTimerExpiry s =
        .next (issue (State.countMiss { due with exch := { due.exch with record := .empty } })))) ∧
  (∀ (s : State) (seq : BitVec 16) (t1 : Int) (expiry : BitVec 32), s.phase = .running →
    s.exch.record = .opened seq t1 expiry → (s.clock.runCounter - expiry).toNat < 2 ^ 31 →
    exec .replyWindowExpiry s = .next (State.countMiss { s with exch := { s.exch with record := .empty } })) ∧
  (∀ s : State,
    let missed := min 65535 (s.exch.missed + 1)
    (s.exch.liveN = true → s.exch.missedLimit ≤ missed →
      s.countMiss = State.lostEvent { s with exch := { s.exch with missed := missed, liveN := false } } .north) ∧
    (s.exch.liveN = false ∨ missed < s.exch.missedLimit →
      s.countMiss = { s with exch := { s.exch with missed := missed } })) ∧
  (∀ (s : State) (e : BitVec 32), s.phase = .running → s.exch.liveP = true → s.exch.pulseExpiry = some e →
    (s.clock.runCounter - e).toNat < 2 ^ 31 →
    exec .pulseLivenessExpiry s =
      .next (State.lostEvent { s with exch := { s.exch with liveP := false, pulseExpiry := none } } .pulse))

/-- LOST and LIVE events (R89, R95, R105). At a LOST event the live-since mark goes, and with the
primary's a revert expiry that stood (log entry 24). Naming the active reference in AUTO it is a loss: in LOCKED the
servo switches to the other reference where that is available, its window emptied, and otherwise enters HOLDOVER; in ACQUIRE
it switches likewise or stays. That the entry into HOLDOVER leaves the lock and unlock counters and the step-pending flag as
they stand is the model's choice (log entry 45). Each entry with memory takes U into U_entry and starts t_h from 0 (R84). In every other case
only the mark and the revert expiry move. At a LIVE event the mark is set, its age 0. Naming a configured reference in AUTO it
is an offer: in ACQUIRE on another reference that is not LIVE the servo switches to it, its window emptied; in LOCKED the
revert test is made; in every other case only the mark and the revert expiry move. A change of condition is given once, with
the U and class after it, and its run-counter reading is kept (R106). -/
def Obligations.LossSwitchesOrHoldsOver : Prop :=
  (∀ (v : Servo) (e : Exchange) (m : Option LiveMark) (w : List Sample),
    v.mark .north = v.markN ∧ v.mark .pulse = v.markP ∧ v.mark .none = none ∧
      v.setMark .north m = { v with markN := m } ∧ v.setMark .pulse m = { v with markP := m } ∧
      e.window .north = e.windowN ∧ e.window .pulse = e.windowP ∧
      e.setWindow .north w = { e with windowN := w } ∧ e.setWindow .pulse w = { e with windowP := w } ∧
      e.window .none = [] ∧ e.setWindow .none w = e ∧
      Ref.north.other = .pulse ∧ Ref.pulse.other = .north ∧ Ref.none.other = .none) ∧
  (∀ (s : State) (r : Ref), r ≠ .none →
    let t := s.lostEvent r
    let other := s.servo.active.other
    let loss : Prop := s.servo.held = false ∧ s.servo.active = r
    let kept (v : Servo) : Servo :=
      { v with markN := t.servo.markN, markP := t.servo.markP, revertIn := t.servo.revertIn,
               lastChange := t.servo.lastChange }
    t.servo.mark r = none ∧ t.servo.mark r.other = s.servo.mark r.other ∧
    t.servo.revertIn = (if s.servo.primary = r ∧ s.servo.mark r ≠ none then none else s.servo.revertIn) ∧
    t.servo.lastChange =
      (if t.servo.condition = s.servo.condition then s.servo.lastChange else some s.clock.runCounter) ∧
    (loss → s.servo.state = .locked ∨ s.servo.state = .acquire → s.available other = true →
      t.servo = kept { s.servo with
        state := .acquire, active := other, lockCounter := 0, unlockCounter := 0, stepPending := false
        entryU := if s.servo.memory then some s.servo.uncertainty else none
        holdTime := if s.servo.memory then some 0 else none } ∧
      t.exch = s.exch.setWindow other []) ∧
    (loss → s.servo.state = .locked → s.available other = false →
      t.servo = kept { s.servo with state := .holdover, entryU := some s.servo.uncertainty, holdTime := some 0 } ∧
      t.exch = s.exch) ∧
    (¬loss ∨ (s.servo.state ≠ .locked ∧ (s.servo.state = .acquire → s.available other = false)) →
      t.servo = kept s.servo ∧ t.exch = s.exch) ∧
    t.rep = (if t.servo.condition = s.servo.condition then s.rep
      else s.rep.transition s.clock.osc .servo (.servo s.servo.condition) (.servo t.servo.condition)
        (.condition t.servo.uncertainty t.ownClass)) ∧
    t = { s with servo := t.servo, exch := t.exch, rep := t.rep }) ∧
  ∀ (s : State) (r : Ref), r ≠ .none →
    let t := s.liveEvent r
    let marked := s.setServo ((s.servo.setMark r (some { since := s.clock.runCounter, age := 0 })).reschedule s.servo)
    let offer : Prop := s.servo.held = false ∧ s.configured r = true
    let switch : Prop := offer ∧ s.servo.state = .acquire ∧ s.servo.active ≠ r ∧ s.live s.servo.active = false
    let revert : Prop := offer ∧ s.servo.state = .locked ∧ marked.revertPasses = true
    let entered (x : Ref) : Servo := { s.servo with
      state := .acquire, active := x, lockCounter := 0, unlockCounter := 0, stepPending := false
      entryU := if s.servo.memory then some s.servo.uncertainty else none
      holdTime := if s.servo.memory then some 0 else none
      markN := t.servo.markN, markP := t.servo.markP, revertIn := t.servo.revertIn, lastChange := t.servo.lastChange }
    t.servo.mark r = some { since := s.clock.runCounter, age := 0 } ∧ t.servo.mark r.other = s.servo.mark r.other ∧
    t.servo.revertIn = marked.servo.revertIn ∧
    t.servo.lastChange =
      (if t.servo.condition = s.servo.condition then s.servo.lastChange else some s.clock.runCounter) ∧
    (switch → t.servo = entered r ∧ t.exch = s.exch.setWindow r []) ∧
    (revert → t.servo = entered s.servo.primary ∧ t.exch = s.exch.setWindow s.servo.primary []) ∧
    (¬switch → ¬revert → t.exch = s.exch ∧ t.servo = { s.servo with
      markN := t.servo.markN, markP := t.servo.markP, revertIn := t.servo.revertIn }) ∧
    t.rep = (if t.servo.condition = s.servo.condition then s.rep
      else s.rep.transition s.clock.osc .servo (.servo s.servo.condition) (.servo t.servo.condition)
        (.condition t.servo.uncertainty t.ownClass)) ∧
    t = { s with servo := t.servo, exch := t.exch, rep := t.rep }

/-- A Reply is readable where its version is 2 and it has 67 payload bytes, and its fields stand at their places (R175, R176).
The taking of a Reply (R60 to R62). One that fails a test of R60 is a STRAY_REPLY and no more. Otherwise the sequence
decides: matching the OPEN record, STRAY_REPLY, or LATE. A matching one empties the record; with leader class 15 or more it
counts a miss; with any other it is used: the missed count is 0 and NORTH LIVE, with a LIVE event if it was LOST, and the
round trip gives a sample to the north window, or counts BAD_DELAY. -/
def Obligations.RepliesAreMatchedBySequence : Prop :=
  (∀ bytes : List Byte,
    let p := (bytes.take (bytes.length - 4)).drop (if (bytes.drop 12).take 2 = [0x81, 0x00] then 18 else 14)
    let field (offset width : Nat) : Nat := ((p.drop offset).take width).foldl (fun n b => n * 256 + b.toNat) 0
    let signed (offset : Nat) : Int :=
      if field offset 8 < 2 ^ 63 then field offset 8 else (field offset 8 : Int) - 2 ^ 64
    let stamp (offset : Nat) : RawStamp :=
      { seconds := field offset 6, nanos := field (offset + 6) 4, fraction := field (offset + 10) 2 }
    (p.length < 67 ∨ p[0]? ≠ some 2 → readReply bytes = none) ∧
    (67 ≤ p.length → p[0]? = some 2 → readReply bytes = some {
      seq := BitVec.ofNat 16 (field 4 2), correction := signed 14, requester := BitVec.ofNat 64 (field 22 8)
      t2 := stamp 30, t3 := stamp 42, cFwd := signed 54, leaderClass := field 62 1, leaderU := field 63 4 })) ∧
  ∀ (s : State) (bytes : List Byte) (t4 : Int),
    let stray : State := { s with exch := { s.exch with strayReply := min 65535 (s.exch.strayReply + 1) } }
    (readReply bytes = none ∨ sourceOf bytes ≠ some s.exch.leader → s.takeReplyFrame bytes t4 = stray) ∧
    ∀ f, readReply bytes = some f → sourceOf bytes = some s.exch.leader →
      (f.requester.toNat ≠ s.agent.address.toNat * 65536 + 1 → s.takeReplyFrame bytes t4 = stray) ∧
      (f.requester.toNat = s.agent.address.toNat * 65536 + 1 →
        (∀ t1 expiry, s.exch.record = .opened f.seq t1 expiry →
          let closed : State := { s with exch := { s.exch with record := .empty } }
          let used : State := { s with exch := { s.exch with record := .empty, missed := 0, liveN := true } }
          let live := if s.exch.liveN then used else used.liveEvent .north
          (15 ≤ f.leaderClass → s.takeReplyFrame bytes t4 = closed.countMiss) ∧
          (f.leaderClass < 15 → roundTrip t1 t4 s.servo.alpha f = none →
            s.takeReplyFrame bytes t4 =
              { live with exch := { live.exch with badDelay := min 65535 (s.exch.badDelay + 1) } }) ∧
          (∀ x, f.leaderClass < 15 → roundTrip t1 t4 s.servo.alpha f = some x →
            s.takeReplyFrame bytes t4 = live.enterSample .north
              { theta := x.theta, delay := x.delay, leaderClass := f.leaderClass, leaderU := f.leaderU
                runCounter := s.clock.runCounter })) ∧
        (s.exch.record = .waiting f.seq → s.takeReplyFrame bytes t4 = stray) ∧
        ((∀ t1 expiry, s.exch.record ≠ .opened f.seq t1 expiry) → s.exch.record ≠ .waiting f.seq →
          s.takeReplyFrame bytes t4 =
            if 0 < s.exch.issued ∧ (s.exch.nextSeq - 1 - f.seq).toNat < s.exch.issued then
              { s with exch := { s.exch with late := min 65535 (s.exch.late + 1) } }
            else stray))

/-- A Query is readable where its version is 2 and it has 34 payload bytes, and its fields stand at their places, the reported
delay where its flag is set (R175, R176). The taking of a Query (R109, R110, R113). An unreadable one, or one from a group address, is BAD_QUERY and no more.
Otherwise it is sampled: UNKNOWN_ORIGIN; no report, no count; BAD_REPORT; or a sample of t1 + d_rep + c_fwd − t2 handed to the
monitor. Then it joins the reply queue with its stamps and goes on to the south line, or at 16 entries is DROPPED_QUERY. The
monitor applies a Query sample whose entry and rack are enabled (R140); it forms a storage sample at a SAMPLE hand-off, holds it
to the frame's end, and applies it there if the frame was good and the entry still holds the address in a rack that takes
storage samples, and otherwise counts UNKNOWN_STORAGE or IGNORED_SAMPLE (R141). A sample is applied with the rack's drill offset,
saturated: in UNSEEN and SILENT it starts F and the sample count, in the other states F moves by the filter, and SETTLING ends at
n_s samples (R142). A storage sample is applied with the nominal delay its rack then has, which a write since the hand-off may
have given it (R139; DEDUCED, log entry 61); that the rack is the one its entry then names is the model's choice (log entry 68).
An address is held by the first enabled entry with it (R136), which R137 leaves the only one. -/
def Obligations.QueriesAreSampledAndQueued : Prop :=
  (∀ bytes : List Byte,
    let p := (bytes.take (bytes.length - 4)).drop (if (bytes.drop 12).take 2 = [0x81, 0x00] then 18 else 14)
    let field (offset width : Nat) : Nat := ((p.drop offset).take width).foldl (fun n b => n * 256 + b.toNat) 0
    let signed (offset : Nat) : Int :=
      if field offset 8 < 2 ^ 63 then field offset 8 else (field offset 8 : Int) - 2 ^ 64
    let stamp (offset : Nat) : RawStamp :=
      { seconds := field offset 6, nanos := field (offset + 6) 4, fraction := field (offset + 10) 2 }
    let flagged : Prop := field 3 1 % 2 = 1
    (p.length < 34 ∨ p[0]? ≠ some 2 → readQuery bytes = none) ∧
    (34 ≤ p.length → p[0]? = some 2 → (flagged → 38 ≤ p.length) → ∃ f, readQuery bytes = some f ∧
      f.seq = BitVec.ofNat 16 (field 4 2) ∧ f.senderId = BitVec.ofNat 64 (field 6 8) ∧ f.correction = signed 14 ∧
      f.t1 = stamp 22 ∧ (flagged → f.reported = some (field 34 4)) ∧ (¬flagged → f.reported = none))) ∧
  (∀ (m : Monitor) (a : Address),
    (∀ j, m.lookup a = some j ↔ (∃ e, m.origins[j]? = some e ∧ e.enabled = true ∧ e.source = a) ∧
      ∀ i e, i < j → m.origins[i]? = some e → ¬(e.enabled = true ∧ e.source = a)) ∧
    (∀ j e, m.origins[j]? = some e → m.origin j = e) ∧ (∀ k q, m.racks[k]? = some q → m.rack k = q) ∧
    m.heldSample .north = m.heldN ∧ m.heldSample .south = m.heldS ∧
    ∀ h, m.setHeldSample .north h = { m with heldN := h } ∧ m.setHeldSample .south h = { m with heldS := h }) ∧
  (∀ (m : Monitor) (now : BitVec 32), 1 ≤ m.settleCount →
    let rackOf (j : Nat) : RackConfig := (m.rack (m.origin j).rack).config
    let limited (x : Int) : Int := max (-2000000000) (min 2000000000 x)
    let ignored (n : Monitor) : Monitor := { n with ignoredSample := min 65535 (m.ignoredSample + 1) }
    let learned (query : Bool) (x : Int) (e : OriginEntry) : OriginEntry :=
      let starts : Bool := e.state == .unseen || e.state == .silent
      let f := e.filtered.getD 0
      let count := if starts then 1 else min 65535 (e.sampleCount + 1)
      { e with
        filtered := some (if starts then x else f + roundDiv (x - f) (2 ^ m.filterExp))
        sampleCount := count
        state := if starts || e.state == .settling then
            (if m.settleCount ≤ count then .tracking else .settling) else e.state
        lastSample := some x, lastAt := some now
        queryCount := if query then min 65535 (e.queryCount + 1) else e.queryCount
        storageCount := if query then e.storageCount else min 65535 (e.storageCount + 1) }
    let applied (n : Monitor) (j : Nat) (query : Bool) (sample : Int) : Monitor :=
      { n with origins := m.origins.modify j (learned query (limited (sample + (rackOf j).drillOffset))) }
    let formed (j : Nat) (residual : Int) : Int :=
      limited (roundDiv (residual + (rackOf j).nominalDelay * 65536) 65536)
    let stores (j : Nat) : Prop := (rackOf j).enabled = true ∧ (rackOf j).storageSamples = true
    (∀ (j : Nat) (sample : Int),
      let taken : Prop := (m.origin j).enabled = true ∧ (rackOf j).enabled = true
      (taken → m.takeQuerySample j sample now = applied m j true sample) ∧
      (¬taken → m.takeQuerySample j sample now = ignored m)) ∧
    (∀ (line : Line) (source : Address) (issue : RawStamp) (arrival : Int),
      let t := m.sampleHandoff line source issue arrival
      (m.lookup source = none → t = { m with unknownStorage := min 65535 (m.unknownStorage + 1) }) ∧
      ∀ j, m.lookup source = some j →
        (¬stores j → t = ignored m) ∧
        (stores j →
          let residual := issue.fineUnits - arrival
          t = m.setHeldSample line (some
            { index := j, source := source, residual := residual, sample := formed j residual }))) ∧
    ∀ (line : Line) (good : Bool),
      (m.heldSample line = none → m.frameEnd line good now = m) ∧
      ∀ h, m.heldSample line = some h →
        let freed := m.setHeldSample line none
        let taken : Prop := good = true ∧ (m.origin h.index).enabled = true ∧
          (m.origin h.index).source = h.source ∧ stores h.index
        (taken → m.frameEnd line good now = applied freed h.index false (formed h.index h.residual)) ∧
        (¬taken → m.frameEnd line good now = ignored freed)) ∧
  ∀ (s : State) (bytes : List Byte) (t2 : Int),
    let bad : State := { s with south := { s.south with badQuery := min 65535 (s.south.badQuery + 1) } }
    (readQuery bytes = none → s.takeQueryFrame bytes t2 = bad) ∧
    ∀ f source, readQuery bytes = some f → sourceOf bytes = some source →
      (source.getLsbD 40 = true → s.takeQueryFrame bytes t2 = bad) ∧
      (source.getLsbD 40 = false →
        let sampled : State :=
          match s.mon.lookup source, f.reported with
          | none, _ => { s with south := { s.south with unknownOrigin := min 65535 (s.south.unknownOrigin + 1) } }
          | some _, none => s
          | some j, some d =>
            if 10000000 < d ∨ 1000000000 ≤ f.t1.nanos then
              { s with south := { s.south with badReport := min 65535 (s.south.badReport + 1) } }
            else
              let offset := roundDiv (f.t1.fineUnits + d * 65536 + f.correction - t2) 65536
              { s with
                mon := s.mon.takeQuerySample j (max (-2000000000) (min 2000000000 offset)) s.clock.runCounter }
        let entry : ReplyEntry :=
          { requester := source, tag := tagOf bytes
            domain := ((payloadByte bytes 2).map BitVec.toNat).getD s.south.domain
            senderId := f.senderId, seq := f.seq, t2 := t2, cFwd := f.correction, takenAt := s.clock.runCounter }
        (s.south.queue.length < 16 → s.takeQueryFrame bytes t2 =
          State.fill { sampled with south := { sampled.south with queue := s.south.queue ++ [entry] } } .south) ∧
        (16 ≤ s.south.queue.length → s.takeQueryFrame bytes t2 =
          { sampled with south :=
            { sampled.south with droppedQuery := min 65535 (s.south.droppedQuery + 1) } }))

/-! ## The servo -/

/-- The selected sample is the newest of those of least d, wherever the active window holds any (R76); and the step test reads
the two newest samples (R77): STEP where both lie beyond the step limit and agree within it, HOLD where the newest lies beyond
it otherwise, STEER where it does not. A sample enters its window, the oldest leaving at W, and the servo is given the event
(R64). It first makes the selection over the window of the active reference (R75). In AUTO: in ACQUIRE, STEP is a step of minus
the newest θ (R78), HOLD sets the step-pending flag, and STEER is the PI update and the lock test, LOCKED being entered with a
full window, the lock counter at 4 or more and no step pending, and then the revert test made (R93); in LOCKED it is the PI
update, U and the unlock test, which at its third failure running enters ACQUIRE on the window as it stands (R94); in FREE and
HOLDOVER a sample of an available reference that is the primary, or while the primary is not available, enters ACQUIRE, its
window emptied (R92). In HELD the ALIGN test is a step of minus the newest θ (R100). A sample of another reference does no more.
A change of condition is given once (R105). -/
def Obligations.SelectionAndStepTest : Prop :=
  (∀ w : List Sample,
    (w = [] → selectSample w = none) ∧
    (w ≠ [] → ∃ before x after, w = before ++ x :: after ∧ selectSample w = some x ∧
      (∀ y ∈ before, x.delay ≤ y.delay) ∧ ∀ y ∈ after, x.delay < y.delay)) ∧
  (∀ (w : List Sample) (x y : Sample) (limit : Nat),
    (stepTest (w ++ [y, x]) limit = .step ↔
      limit < x.theta.natAbs ∧ limit < y.theta.natAbs ∧ (x.theta - y.theta).natAbs ≤ limit) ∧
    (stepTest (w ++ [y, x]) limit = .steer ↔ x.theta.natAbs ≤ limit) ∧
    (stepTest [x] limit = .steer ↔ x.theta.natAbs ≤ limit) ∧ (stepTest [x] limit = .hold ↔ limit < x.theta.natAbs)) ∧
  (∀ (s : State) (r : Ref) (x : Sample),
    let w := s.exch.window r ++ [x]
    s.enterSample r x =
      State.sampleEntered { s with exch := s.exch.setWindow r (w.drop (w.length - s.exch.windowSize)) } r) ∧
  (∀ (s : State) (r : Ref) (old : List Sample) (newest x : Sample),
    s.servo.active = r → s.activeWindow = old ++ [newest] → selectSample (old ++ [newest]) = some x →
    let v : Servo := { s.servo with leaderClass := some x.leaderClass }
    let chosen : State := { s with servo := v }
    let t := s.sampleEntered r
    let outcome := stepTest (old ++ [newest]) (65536 * v.stepLimit)
    let steered := chosen.piUpdate x
    let counter : Nat := if x.theta.natAbs ≤ 65536 * v.lockLimit then min 255 (v.lockCounter + 1) else 0
    let moved : State := { steered with servo := { steered.servo with
      stepOutcome := some .steer, stepPending := false, lockCounter := counter } }
    let locks : Prop := old.length + 1 = s.exch.windowSize ∧ 4 ≤ counter
    let judged : State := { steered with servo := { steered.servo with lockedU := lockedForm x } }
    let beyond : Prop := 65536 * max v.unlockLimit v.lockLimit < x.theta.natAbs
    (v.held = false → v.state = .acquire →
      (outcome = .step → t = State.applyStep
        { chosen with servo := { v with stepOutcome := some .step, lockCounter := 0 } } (-newest.theta) .acquire) ∧
      (outcome = .hold → t = { chosen with servo :=
        { v with stepOutcome := some .hold, stepPending := true, lockCounter := 0 } }) ∧
      (outcome = .steer → ¬locks → t = moved) ∧
      (outcome = .steer → locks → t = s.tracked fun _ => State.revertTest { moved with servo := { moved.servo with
        state := .locked, memory := true, lockCounter := 0, unlockCounter := 0, lockedU := lockedForm x
        entryU := none, holdTime := none } })) ∧
    (v.held = false → v.state = .locked →
      (¬beyond → t = { judged with servo := { judged.servo with unlockCounter := 0 } }) ∧
      (beyond → v.unlockCounter < 2 →
        t = { judged with servo := { judged.servo with unlockCounter := v.unlockCounter + 1 } }) ∧
      (beyond → 2 ≤ v.unlockCounter → t = s.tracked fun _ => { judged with servo := { judged.servo with
        state := .acquire, lockCounter := 0, unlockCounter := 0, stepPending := false
        entryU := if v.memory then some (lockedForm x) else none
        holdTime := if v.memory then some 0 else none } })) ∧
    (v.held = true → v.alignPending = false → t = chosen) ∧
    (v.held = true → v.alignPending = true →
      let stepped := chosen.applyStep (-newest.theta) .align
      t = { stepped with servo := { stepped.servo with alignPending := false } })) ∧
  ∀ (s : State) (r : Ref),
    let chosen := if s.servo.active = r then s.select else s
    let t := s.sampleEntered r
    let leads : Prop := s.available r = true ∧ (r = s.servo.primary ∨ s.available s.servo.primary = false)
    (s.servo.held = false → s.servo.state = .free ∨ s.servo.state = .holdover →
      (leads → t = s.tracked fun _ => { chosen with
        servo := { chosen.servo with
          state := .acquire, active := r, lockCounter := 0, unlockCounter := 0, stepPending := false
          entryU := if s.servo.memory then some s.servo.uncertainty else none
          holdTime := if s.servo.memory then some 0 else none }
        exch := s.exch.setWindow r [] }) ∧
      (¬leads → t = chosen)) ∧
    (s.servo.active ≠ r → s.servo.held = true ∨ s.servo.state = .acquire ∨ s.servo.state = .locked → t = s)

/-- The legs of a round trip are a = t2 − t1 − c_fwd and b = t4 − t3 − c_rev, and a leader stamp whose nanoseconds are no
instant gives no sample (R72, R74). The halvings, divisions and roundings of the servo go to the nearest integer, a half away from zero (00_scope.md). So θ is
half of b − a − α and d half of a + b (R73), a d outside 0 to 10 ms giving no sample (R74); and a PI update forms θ_ps, P and
ΔI with the shift of R80, and then I and A, each clamped to ±A_max, I before A (R79 to R81). -/
def Obligations.ServoArithmetic : Prop :=
  (∀ (n : Int) (d : Nat), 0 < d →
    2 * (n - d * roundDiv n d).natAbs ≤ d ∧
      (2 * (n - d * roundDiv n d).natAbs = d → n.natAbs < (d * roundDiv n d).natAbs)) ∧
  (∀ (t1 t4 alpha : Int) (f : ReplyFields),
    let instant (x : RawStamp) : Int := ((x.seconds * 1000000000 + x.nanos) * 65536 + x.fraction : Nat)
    (1000000000 ≤ f.t2.nanos ∨ 1000000000 ≤ f.t3.nanos → roundTrip t1 t4 alpha f = none) ∧
    (f.t2.nanos < 1000000000 → f.t3.nanos < 1000000000 →
      roundTrip t1 t4 alpha f =
        offsetDelay (instant f.t2 - t1 - f.cFwd) (t4 - instant f.t3 - f.correction) alpha)) ∧
  (∀ a b alpha : Int,
    let d := roundDiv (a + b) 2
    (0 ≤ d → d ≤ 655360000000 →
      offsetDelay a b alpha = some { theta := roundDiv (b - a - alpha * 65536) 2, delay := d.toNat }) ∧
    (d < 0 ∨ 655360000000 < d → offsetDelay a b alpha = none)) ∧
  ∀ (s : State) (x : Sample),
    let ps := max (-1000000000000) (min 1000000000000 (roundDiv (x.theta * 1000) 65536))
    let q : Int := if s.servo.active = .north then s.exch.queryExp else 0
    let shift := ((s.servo.integExp : Int) + s.servo.propExp - q).toNat
    let p := roundDiv (-ps) (2 ^ s.servo.propExp)
    let incr := roundDiv (-ps) (2 ^ shift)
    let limit (v : Int) : Int := max (-(s.servo.aMax : Int)) (min s.servo.aMax v)
    s.piUpdate x = { s with
      clock := { s.clock with
        integI := limit (s.clock.integI + incr), rateA := limit (limit (s.clock.integI + incr) + p) }
      servo := { s.servo with lastPi := some { thetaPs := ps, prop := p, incr := incr } } }

/-- The end of holdover (R97): at t_h reaching the holdover limit, at the ceiling (R85), and at a write that brings either
about (R71). HOLDOVER goes to FREE, the memory flag clears, and in AUTO the active reference becomes NONE; ACQUIRE with memory
stays without it; U_entry and t_h go, and one transition is given. A write that brings neither about, and any write outside
HOLDOVER and ACQUIRE with memory, only stores its value. A numeric value is answered OK as it was written, and CLAMPED with the
stored value where the clamp acted (R168). -/
def Obligations.HoldoverEndsByLimitOrCeiling : Prop :=
  (∀ stored value : Int, clampResult stored value =
    if stored = value then { status := .ok, content := [] }
    else { status := .clamped, content := signedBytes 8 stored }) ∧
  (∀ (s : State) (dt : Nat) (r : Request) (v : BitVec 64),
    s.servo.state = .free ∨ s.servo.state = .locked ∨ (s.servo.state = .acquire ∧ s.servo.memory = false) →
    let limit := max 1 (min 1048576 v.toInt)
    let value := max 1 (min 10000000 v.toInt)
    let stored (servo : Servo) : State := { s.runBy dt with servo := servo }
    (s.currentItem = some (r, .writeSetting 29 v) → exec (.writeHoldoverLimit dt) s =
      .next ((stored { s.servo with holdoverLimit := limit.toNat }).finishItem r (clampResult limit v.toInt))) ∧
    (s.currentItem = some (r, .writeSetting 22 v) → exec (.writeHoldoverBound dt) s =
      .next ((stored { s.servo with holdBound := value.toNat }).finishItem r (clampResult value v.toInt)))) ∧
  ∀ s : State, s.servo.state = .holdover ∨ (s.servo.state = .acquire ∧ s.servo.memory = true) →
    let ended (v : Servo) : Servo :=
      { v with
        state := if v.state = .holdover then .free else v.state
        memory := false
        active := if v.state = .holdover ∧ v.held = false then .none else v.active
        entryU := none, holdTime := none, lastChange := some s.clock.runCounter }
    let figures : Snapshot := .condition 4294967295 (if s.servo.state = .holdover then 15 else 14)
    let finished (t : State) : State :=
      State.transition { t with servo := ended t.servo } .servo (.servo s.servo.condition)
        (.servo (ended t.servo).condition) figures
    let th := (s.servo.holdTime.getD 0).toNat
    let grown (h : Nat) : Nat := s.servo.entryU.getD 0 + (h * th + 999999) / 1000000
    (s.phase = .running → s.servo.holdoverLimit * 1000 ≤ th → exec .holdoverLimitExpiry s = .next (finished s)) ∧
    (s.phase = .running → 4294967294 ≤ grown s.servo.holdBound → exec .uCeiling s = .next (finished s)) ∧
    (∀ (dt : Nat) (r : Request) (v : BitVec 64), s.currentItem = some (r, .writeSetting 29 v) →
      let x := max 1 (min 1048576 v.toInt)
      let t : State := { s.runBy dt with servo := { s.servo with holdoverLimit := x.toNat } }
      exec (.writeHoldoverLimit dt) s =
        .next (State.finishItem (if x.toNat * 1000 ≤ th then finished t else t) r (clampResult x v.toInt))) ∧
    (∀ (dt : Nat) (r : Request) (v : BitVec 64), s.currentItem = some (r, .writeSetting 22 v) →
      let x := max 1 (min 10000000 v.toInt)
      let t : State := { s.runBy dt with servo := { s.servo with holdBound := x.toNat } }
      exec (.writeHoldoverBound dt) s =
        .next (State.finishItem (if 4294967294 ≤ grown x.toNat then finished t else t) r (clampResult x v.toInt)))

/-- The revert (R98). The test passes exactly when the mode is AUTO, the state LOCKED, the active reference the effective
secondary, revert enable on, and the primary available with a mark at least the revert time old. It is made at the revert
expiry and at a write of revert enable or the revert time. The expiry is scheduled anew where the primary's mark or the revert
time changes, for the instant at which the one reaches the other, and an expiry that is due otherwise stands (its form is the
model's, log entry 24). A write of revert enable takes 1 for on, by the
model's choice (log entry 64). Passing, the primary becomes active with its window emptied, and
the state is ACQUIRE with memory, U_entry taking U and t_h starting from 0. A change of condition that an event makes is given
once, with U and the class after it, and its run-counter reading is kept (R105, R106). -/
def Obligations.RevertReturnsToThePrimary : Prop :=
  (∀ (s : State) (event : State → State),
    let t := event s
    (t.servo.condition = s.servo.condition → s.tracked event = t) ∧
    (t.servo.condition ≠ s.servo.condition → s.tracked event =
      { t with
        servo := { t.servo with lastChange := some t.clock.runCounter }
        rep := t.rep.transition t.clock.osc .servo (.servo s.servo.condition) (.servo t.servo.condition)
          (.condition t.servo.uncertainty t.ownClass) })) ∧
  (∀ v old : Servo,
    (v.mark v.primary = old.mark old.primary → v.revertTime = old.revertTime → v.reschedule old = v) ∧
    (v.mark v.primary ≠ old.mark old.primary ∨ v.revertTime ≠ old.revertTime →
      (v.mark v.primary = none → v.reschedule old = { v with revertIn := none }) ∧
      ∀ m, v.mark v.primary = some m →
        (m.age.toNat < v.revertTime * 1000 →
          v.reschedule old = { v with revertIn := some (v.revertTime * 1000 - m.age.toNat) }) ∧
        (v.revertTime * 1000 ≤ m.age.toNat → v.reschedule old = { v with revertIn := none }))) ∧
  ∀ s : State,
    let primary := s.servo.primary
    (s.revertPasses = true ↔
      s.servo.held = false ∧ s.servo.state = .locked ∧
        s.servo.active = (if s.servo.secondary = primary then .none else s.servo.secondary) ∧
        s.servo.revertEnable = true ∧ s.available primary = true ∧
        ∃ m, s.servo.mark primary = some m ∧ s.servo.revertTime * 1000 ≤ m.age.toNat) ∧
    (s.revertPasses = false → s.revertTest = s) ∧
    (s.revertPasses = true → s.servo.memory = true →
      s.revertTest = { s with
        servo := { s.servo with
          state := .acquire, active := primary, lockCounter := 0, unlockCounter := 0, stepPending := false
          entryU := some s.servo.lockedU, holdTime := some 0 }
        exch := s.exch.setWindow primary [] }) ∧
    (s.phase = .running → s.servo.revertIn = some 0 →
      exec .revertExpiry s =
        .next (s.tracked fun t => State.revertTest { t with servo := { t.servo with revertIn := none } })) ∧
    (∀ (dt : Nat) (r : Request) (v : BitVec 64),
      let test (enable : Bool) (time : Nat) : State := (s.runBy dt).tracked fun t =>
        State.revertTest { t with servo :=
          { t.servo with revertEnable := enable, revertTime := time }.reschedule t.servo }
      (s.currentItem = some (r, .writeSetting 25 v) →
        exec (.writeRevertSetting dt) s = .next (
          if v.toNat ≤ 1 then (test (v.toNat == 1) s.servo.revertTime).finishItem r { status := .ok, content := [] }
          else (s.runBy dt).finishItem r { status := .badValue, content := [] })) ∧
      (s.currentItem = some (r, .writeSetting 26 v) →
        let x := max 1 (min 3600 v.toInt)
        exec (.writeRevertSetting dt) s =
          .next ((test s.servo.revertEnable x.toNat).finishItem r (clampResult x v.toInt))))

/-- The mode commands (R99). SERVO HELD in AUTO takes LOCKED, ACQUIRE with memory and HOLDOVER to HOLDOVER and the rest to
FREE, U_entry taking U and t_h starting from 0 at an entry; A, I and the active reference stay. SERVO AUTO in HELD clears the
ALIGN-pending flag and enters ACQUIRE on the active reference, the primary or the secondary, the first that is available, and
otherwise on the active one if configured, or NONE; the window of the reference that becomes active is emptied. In the mode
it asks for, each changes nothing. Both are answered OK. -/
def Obligations.ServoModeCommands : Prop :=
  ∀ (s : State) (dt : Nat) (r : Request),
    let u := s.runBy dt
    let ok : ItemResult := { status := .ok, content := [] }
    let v := s.servo
    let toHoldover : Bool := v.state == .locked || (v.state == .acquire && v.memory)
    let secondary : Ref := if v.secondary = v.primary then .none else v.secondary
    let choice : Ref :=
      if s.available v.active then v.active
      else if s.available v.primary then v.primary
      else if s.available secondary then secondary
      else if s.configured v.active then v.active else .none
    (s.currentItem = some (r, .servoHeld) → v.held = true → exec (.servoHeld dt) s = .next (u.finishItem r ok)) ∧
    (s.currentItem = some (r, .servoHeld) → v.held = false →
      exec (.servoHeld dt) s = .next (State.finishItem (u.tracked fun t => { t with servo := { v with
        state := if toHoldover || v.state == .holdover then .holdover else .free
        held := true, lockCounter := 0, unlockCounter := 0, stepPending := false
        entryU := if toHoldover then some v.uncertainty else v.entryU
        holdTime := if toHoldover then some 0 else v.holdTime } }) r ok)) ∧
    (s.currentItem = some (r, .servoAuto) → v.held = false → exec (.servoAuto dt) s = .next (u.finishItem r ok)) ∧
    (s.currentItem = some (r, .servoAuto) → v.held = true →
      exec (.servoAuto dt) s = .next (State.finishItem (u.tracked fun t => { t with
        servo := { v with
          state := .acquire, held := false, alignPending := false, active := choice
          lockCounter := 0, unlockCounter := 0, stepPending := false
          entryU := if v.memory then some v.uncertainty else none
          holdTime := if v.memory then some 0 else none }
        exch := s.exch.setWindow choice [] }) r ok))

/-- SERVO ALIGN sets the ALIGN-pending flag in HELD and is refused with BAD_STATE in AUTO (R100). SERVO SET RATE in HELD sets I
and A to the rate clamped to ±A_max, answered CLAMPED with the stored value where the clamp acts, and is refused with BAD_STATE
in AUTO (R101; that the answer carries that value, in 8 bytes, where the last row of R180's table leaves it empty, is the
model's choice, log entry 17). SET TIME is refused with BAD_VALUE where its
nanoseconds are too large and with BAD_STATE outside FREE in AUTO; otherwise it is a step to the target, and HOLDOVER becomes
FREE without memory, the active reference kept (R5, R102). -/
def Obligations.AlignSetRateAndSetTime : Prop :=
  ∀ (s : State) (dt : Nat) (r : Request),
    let u := s.runBy dt
    (s.currentItem = some (r, .servoAlign) → exec (.servoAlign dt) s = .next (
      if s.servo.held then State.finishItem { u with servo := { s.servo with alignPending := true } } r
        { status := .ok, content := [] }
      else u.finishItem r { status := .badState, content := [] })) ∧
    (∀ rate, s.currentItem = some (r, .servoSetRate rate) →
      let x := max (-(s.servo.aMax : Int)) (min s.servo.aMax rate)
      exec (.servoSetRate dt) s = .next (
        if s.servo.held then State.finishItem { u with clock := { u.clock with integI := x, rateA := x } } r
          (if x = rate then { status := .ok, content := [] }
           else { status := .clamped, content := signedBytes 8 x })
        else u.finishItem r { status := .badState, content := [] })) ∧
    (∀ target, s.currentItem = some (r, .setTime target) →
      (1000000000 ≤ target.nanos →
        exec (.setTime dt) s = .next (u.finishItem r { status := .badValue, content := [] })) ∧
      (target.nanos < 1000000000 → s.servo.state ≠ .free → s.servo.held = false →
        exec (.setTime dt) s = .next (u.finishItem r { status := .badState, content := [] })) ∧
      (target.nanos < 1000000000 → s.servo.state = .free ∨ s.servo.held = true →
        exec (.setTime dt) s = .next (State.finishItem (u.tracked fun t =>
          let stepped := t.applyStep (target.fineUnits - u.clock.value) .setTime
          if s.servo.state = .holdover then
            { stepped with servo :=
              { stepped.servo with state := .free, memory := false, entryU := none, holdTime := none } }
          else stepped) r { status := .ok, content := [] })))

/-! ## The drift monitor -/

/-- An evaluation takes each enabled rack in index order, and then the settle counter falls by one and the next expiry is set
by the interval (R143, R148). For one enabled rack: the silence test (R144); the candidates, stray exclusion, S and SPLIT
(R145); m, R, the rate and DRILL over the TRACKING members (R146, R142); QUIET with none, UNJUDGED behind a closed gate, and
otherwise the state by R149 and R150, with R_prev valid for the next evaluation only then (R147). QUIET and UNJUDGED clear the
pending candidate and its count; that R_prev there keeps its value while it is invalid is the model's choice (log entry 62). A member that enters or
leaves STRAY gives its transition, with F and its rack, and then a rack that changes its state its own, with the figures after
the change (R151); that the members come by index is the model's choice (log entry 53). The configured fields, the other racks
and the other entries are left. The members of a rack are the enabled entries that name it, by index (R138), F of one is its
filtered offset, and S is the largest F of the candidates less the smallest (R145). -/
def Obligations.EvaluationJudgesEachEnabledRack : Prop :=
  (∀ (m : Monitor) (k : Nat),
    m.membersOf k = (List.range m.origins.length).filter (fun j => (m.origin j).enabled && (m.origin j).rack == k) ∧
      ∀ j, m.offsetOf j = (m.origin j).filtered.getD 0) ∧
  (∀ (l : List Int), (l = [] → spreadOf l = none) ∧
    ∀ hi ∈ l, ∀ lo ∈ l, (∀ x ∈ l, lo ≤ x ∧ x ≤ hi) → spreadOf l = some (hi - lo)) ∧
  (∀ s : State, s.phase = .running → s.mon.evalIn = 0 →
    let t := (List.range 32).foldl State.evaluateRack s
    exec .evaluation s = .next { t with mon := { t.mon with
      settleCounter := t.mon.settleCounter - 1, evalIn := t.mon.interval * 1000 } }) ∧
  (∀ (s : State) (k : Nat), (s.mon.rack k).config.enabled = false → s.evaluateRack k = s) ∧
  ∀ (s : State) (k : Nat), k < s.mon.racks.length → (s.mon.rack k).config.enabled = true →
    let t := s.evaluateRack k
    let old := s.mon.rack k
    let new := t.mon.rack k
    let member (j : Nat) : Bool := (s.mon.origin j).enabled && (s.mon.origin j).rack == k
    let longAgo (seen : Option (BitVec 32)) : Bool :=
      seen.any fun x => s.mon.silence * 1000 ≤ (s.clock.runCounter - x).toNat
    let silent (j : Nat) : Bool :=
      (s.mon.origin j).state != .unseen && (s.mon.origin j).state != .silent && longAgo (s.mon.origin j).lastAt
    let candidates := (s.mon.membersOf k).filter fun j =>
      !silent j && ((s.mon.origin j).state == .tracking || (s.mon.origin j).state == .stray)
    let offsets := candidates.map s.mon.offsetOf
    let mean0 := offsets.sum.tdiv offsets.length
    let near (x : Int) : Bool := ((x - mean0).natAbs : Int) ≤ old.config.strayLimit
    let few : Bool := 3 ≤ offsets.length && 2 * (offsets.filter near).length < offsets.length
    let figures := ((t.mon.membersOf k).filter fun j => (t.mon.origin j).state == .tracking).map t.mon.offsetOf
    let mean := figures.sum.tdiv figures.length
    let formed : Rack := { old with
      members := figures.length, spread := new.spread, split := new.split, drill := old.config.drillOffset != 0
      mean := if figures = [] then none else some mean
      rate := if figures ≠ [] ∧ old.prevValid = true then some ((mean - old.prevMean).tdiv s.mon.interval) else none }
    let closed : Prop := s.mon.judgeLimit < s.servo.uncertainty ∨ 0 < s.mon.settleCounter
    let decided := formed.confirm formed.candidate
    let stateOf (j : Nat) : ServerState :=
      if member j = false then (s.mon.origin j).state
      else if silent j then .silent
      else if j ∉ candidates then (s.mon.origin j).state
      else if offsets.length < 3 ∨ few = true ∨ near (s.mon.offsetOf j) = true then .tracking
      else .stray
    let told (r : ReportEngine) (j : Nat) (after : ServerState) : ReportEngine :=
      let before := (s.mon.origin j).state
      if before ≠ after ∧ (before = .stray ∨ after = .stray) then
        r.transition s.clock.osc (.server j) (.server before) (.server after)
          (.server (s.mon.origin j).filtered (s.mon.origin j).rack)
      else r
    let silenced := (s.mon.membersOf k).foldl (fun r j => if silent j then told r j .silent else r) s.rep
    let sorted := candidates.foldl (fun r j => told r j (stateOf j)) silenced
    t.rep = (if new.state = old.state then sorted
      else sorted.transition s.clock.osc (.rack k) (.rack old.state) (.rack new.state)
        (.rack new.mean new.rate new.spread new.members new.split new.drill)) ∧
    (∀ j, t.mon.origin j = { s.mon.origin j with state := stateOf j }) ∧
    new.spread = spreadOf offsets ∧
    (new.split = true ↔ few = true ∨ ∃ x, spreadOf offsets = some x ∧ old.config.spreadLimit ≤ x) ∧
    new = { formed with
      rate := new.rate, state := new.state, pending := new.pending, pendingCount := new.pendingCount
      prevMean := new.prevMean, prevValid := new.prevValid, lastTransition := new.lastTransition } ∧
    new.rate = formed.rate ∧
    (figures = [] → new.state = .quiet ∧ new.pending = none ∧ new.pendingCount = 0 ∧ new.prevValid = false ∧
      new.prevMean = old.prevMean) ∧
    (figures ≠ [] → closed → new.state = .unjudged ∧ new.pending = none ∧ new.pendingCount = 0 ∧ new.prevValid = false ∧
      new.prevMean = old.prevMean) ∧
    (figures ≠ [] → ¬closed → new.state = decided.state ∧ new.pending = decided.pending ∧
      new.pendingCount = decided.pendingCount ∧ new.prevValid = true ∧ new.prevMean = mean) ∧
    new.lastTransition = (if new.state = old.state then old.lastTransition else some s.clock.runCounter) ∧
    (∀ i, i ≠ k → t.mon.rack i = s.mon.rack i) ∧
    t = { s with mon := { s.mon with origins := t.mon.origins, racks := t.mon.racks }, rep := t.rep }

/-- The candidate level of a rack, by the rows of R149 over the effective levels of R138, and the confirmation that its state
then follows, row by row of R150. -/
def Obligations.RackLevelsFollowTheirCandidates : Prop :=
  ∀ r : Rack,
    let atLeast (x : Option Int) (level : Int) : Prop := ∃ v, x = some v ∧ level ≤ v.natAbs
    let driftOn := max r.config.driftOn r.config.watchOn
    let driftOff := min r.config.driftOff driftOn
    let watchOff := min r.config.watchOff r.config.watchOn
    let drifting : Prop :=
      (atLeast r.mean driftOn ∨ atLeast r.rate r.config.rateOn) ∨
        (r.state = .drifting ∧ (atLeast r.mean driftOff ∨ atLeast r.rate (r.config.rateOn / 2)))
    let watch : Prop :=
      ¬drifting ∧ (atLeast r.mean r.config.watchOn ∨
        ((r.state = .watch ∨ r.state = .drifting) ∧ atLeast r.mean watchOff))
    let pend (state : RackState) (c : Level) (count : Nat) : Rack :=
      if r.config.confirm ≤ count then { r with state := c.state, pending := none, pendingCount := 0 }
      else { r with state := state, pending := some c, pendingCount := count }
    let unplaced : Prop := r.state = .quiet ∨ r.state = .unjudged
    (r.candidate = .drifting ↔ drifting) ∧ (r.candidate = .watch ↔ watch) ∧
    (r.candidate = .inStep ↔ ¬drifting ∧ ¬watch) ∧
    ∀ c : Level,
      (unplaced → c = .inStep → r.confirm c = { r with state := .inStep, pending := none, pendingCount := 0 }) ∧
      (unplaced → c ≠ .inStep → r.confirm c = pend .inStep c 1) ∧
      (¬unplaced → r.state = c.state → r.confirm c = { r with pending := none, pendingCount := 0 }) ∧
      (¬unplaced → r.state ≠ c.state → r.pending = some c → r.confirm c = pend r.state c (r.pendingCount + 1)) ∧
      (¬unplaced → r.state ≠ c.state → r.pending ≠ some c → r.confirm c = pend r.state c 1)

/-! ## The report engine -/

/-- The timers of the frames the part sends of its own. The grade timer builds a Grade, which supersedes one still waiting
(R115, R116); the summary timer holds a Summary waiting where the collector is set (R158); and the queue's latency and the
set's holdoff make the Date Report and the Notice wait (R131, R156). Each is then offered to its line. A write of a setting
that governs them applies at once: the batch threshold and the latency, and the collector address, by the readiness of R131
and R156, the address zero withdrawing all that wait; the collector line moves what waits; and the summary interval keeps,
starts or cancels the timer (R157, R158). The notice set takes a transition for a subject it holds into that entry, which keeps
its first old state and its age and counts one more; for another it adds an entry, or at 64 entries latches NOTICE_OVERFLOW and
counts NOTICE_DROPPED (R154, R155). That a collector address is the last six bytes of its value, whatever stands above them, is
the model's choice (log entry 21). -/
def Obligations.OwnFrameTimersAndReadiness : Prop :=
  (∀ (r : ReportEngine) (osc : Nat) (subject : Subject) (old new : SubjectState) (x : Snapshot),
    let t := r.transition osc subject old new x
    (∀ before e after, r.notices = before ++ e :: after → e.subject = subject →
      (∀ f ∈ before ++ after, f.subject ≠ subject) →
      t = { r with notices :=
        before ++ { e with latestNew := new, snapshot := x, count := min 255 (e.count + 1) } :: after }) ∧
    ((∀ f ∈ r.notices, f.subject ≠ subject) → r.notices.length < 64 →
      t = { r with notices := r.notices ++
        [{ subject := subject, firstOld := old, latestNew := new, snapshot := x, count := 1, createdAt := osc }] }) ∧
    ((∀ f ∈ r.notices, f.subject ≠ subject) → 64 ≤ r.notices.length →
      t = { r with noticeOverflow := true, noticeDropped := min 65535 (r.noticeDropped + 1) })) ∧
  (∀ s : State, s.phase = .running → s.south.gradeAt - s.clock.osc ≤ s.slack →
    let u := s.runFor (s.south.gradeAt - s.clock.osc)
    let superseded := if s.south.waitingGrade.isSome then min 65535 (s.south.gradeSuperseded + 1)
      else s.south.gradeSuperseded
    exec .gradeTimerExpiry s = .next (State.fill { u with south := { s.south with
      gradeSuperseded := superseded, waitingGrade := some u.buildGrade, gradeSeq := s.south.gradeSeq + 1
      gradeAt := s.south.gradeAt + 62500000 * 65536 * 2 ^ (s.south.gradeExp + 4).toNat } } .south)) ∧
  (∀ s : State, s.phase = .running → s.rep.summaryIn = some 0 →
    exec .summaryTimerExpiry s = .next (State.fill { s with rep := { s.rep with
      summaryIn := some (s.rep.summaryInterval * 1000)
      summaryWaiting := s.rep.summaryWaiting || s.rep.collector != 0 } } s.rep.collectorLine)) ∧
  (∀ (s : State) (q : DateRecord) (rest : List DateRecord), s.phase = .running → s.dater.queue = q :: rest →
    s.rep.collector ≠ 0 → s.rep.dateReportWaiting = false →
    let d := q.createdAt + 1000 * 65536 * s.dater.latency - s.clock.osc
    let u := s.runFor d
    d ≤ s.slack → exec .reportLatencyExpiry s =
      .next (State.fill { u with rep := { u.rep with dateReportWaiting := true } } s.rep.collectorLine)) ∧
  (∀ (s : State) (e : NoticeEntry) (rest : List NoticeEntry), s.phase = .running → s.rep.notices = e :: rest →
    s.rep.collector ≠ 0 → s.rep.noticeWaiting = false →
    let d := e.createdAt + 1000000 * 65536 * s.rep.holdoff - s.clock.osc
    let u := s.runFor d
    d ≤ s.slack → exec .noticeHoldoffExpiry s =
      .next (State.fill { u with rep := { u.rep with noticeWaiting := true } } s.rep.collectorLine)) ∧
  (∀ s : State,
    (s.dateReady = true ↔ s.rep.collector ≠ 0 ∧ ∃ q rest, s.dater.queue = q :: rest ∧
      (s.dater.batch ≤ s.dater.queue.length ∨ q.createdAt + 1000 * 65536 * s.dater.latency ≤ s.clock.osc)) ∧
    (s.noticeReady = true ↔ s.rep.collector ≠ 0 ∧ ∃ e rest, s.rep.notices = e :: rest ∧
      e.createdAt + 1000000 * 65536 * s.rep.holdoff ≤ s.clock.osc)) ∧
  ∀ (s : State) (dt : Nat) (r : Request) (v : BitVec 64),
    let u := s.runBy dt
    let ok : ItemResult := { status := .ok, content := [] }
    let drained (t : State) : State :=
      State.fill { t with rep := { t.rep with dateReportWaiting := t.dateReady } } t.rep.collectorLine
    (s.currentItem = some (r, .writeSetting 33 v) →
      let x := max 1 (min 32 v.toInt)
      exec (.writeDrainSetting dt) s = .next ((drained { u with dater := { s.dater with
        batch := x.toNat } }).finishItem r (clampResult x v.toInt))) ∧
    (s.currentItem = some (r, .writeSetting 34 v) →
      let x := max 100 (min 100000 v.toInt)
      exec (.writeDrainSetting dt) s = .next ((drained { u with dater := { s.dater with
        latency := x.toNat } }).finishItem r (clampResult x v.toInt))) ∧
    (s.currentItem = some (r, .writeSetting 41 v) →
      let t : State := { u with rep := { u.rep with collector := v.setWidth 48 } }
      let w : State := { t with rep := { t.rep with
        noticeWaiting := t.noticeReady, dateReportWaiting := t.dateReady
        summaryWaiting := s.rep.summaryWaiting && v.setWidth 48 != 0#48 } }
      exec (.writeCollectorAddress dt) s = .next ((w.fill s.rep.collectorLine).finishItem r ok)) ∧
    (s.currentItem = some (r, .writeSetting 42 v) →
      let line : Line := if v = 0 then .north else .south
      exec (.writeCollectorLine dt) s = .next (
        if v.toNat ≤ 1 then
          (State.fill { u with rep := { u.rep with collectorLine := line } } line).finishItem r ok
        else u.finishItem r { status := .badValue, content := [] })) ∧
    (s.currentItem = some (r, .writeSetting 45 v) →
      let x := max 0 (min 3600 v.toInt)
      let next : Option Nat :=
        if x = 0 then none
        else if s.rep.summaryInterval = 0 then some (x.toNat * 1000) else s.rep.summaryIn
      exec (.writeSummaryInterval dt) s = .next (State.finishItem { u with rep := { u.rep with
        summaryInterval := x.toNat, summaryIn := next
        summaryWaiting := s.rep.summaryWaiting && x != 0 } } r (clampResult x v.toInt)))

/-- The pulse lines. A line is asserted never in OFF, during its pulse in SECOND, and in ALARM while a subscribed condition of
R162 holds (R160, R162). A start, once the timescale has run the phase, asserts the line and puts its end one width of
oscillator time away, 0 meaning 500,000,000 ns, merging with a pulse in progress; at the end the line ceases to be asserted
(R161). A write of the mode or the polarity ends the pulse and discards the starts, and is refused outside its values
(R160). -/
def Obligations.PulseLinesStartEndAndRemode : Prop :=
  (∀ (s : State) (p : PulseLine),
    let holds (c : Nat) : Prop := p.subscriptions.getLsbD c = true
    let anyRack (f : Rack → Prop) : Prop := ∃ q ∈ s.mon.racks, f q
    let faults (l : LineState) : Prop := 0 < l.badCheck ∨ 0 < l.lengthErrors ∨ 0 < l.overruns
    (p.mode = .off → s.asserted p = false) ∧
    (p.mode = .second → (s.asserted p = true ↔ p.pulseEnd.isSome = true)) ∧
    (p.mode = .alarm → (s.asserted p = true ↔
      (holds 0 ∧ anyRack fun q => q.state = .watch ∨ q.state = .drifting) ∨ (holds 1 ∧ anyRack fun q => q.state = .drifting) ∨
      (holds 2 ∧ anyRack fun q => q.split = true) ∨ (holds 3 ∧ s.servo.state ≠ .locked) ∨
      (holds 4 ∧ s.servo.state = .holdover) ∨ (holds 5 ∧ s.rep.dateGap = true) ∨
      (holds 6 ∧ s.rep.noticeOverflow = true) ∨
      (holds 7 ∧ (faults s.lines.north ∨ faults s.lines.south)))) ∧
    (s.levelHigh p = true ↔ s.asserted p = p.activeHigh)) ∧
  (∀ (s : State) (k : Nat) (p : PulseLine) (x : Nat), s.figuresKept → s.rep.pulseLines[k]? = some p →
    p.starts.min? = some x → s.clock.timeFor x ≤ s.slack →
    let u := s.runFor (s.clock.timeFor x)
    let width := if p.width = 0 then 500000000 else p.width
    x ≤ s.clock.gain (s.clock.timeFor x) ∧
    exec (.pulseLineStart k) s = .next { u with rep := { u.rep with pulseLines := u.rep.pulseLines.modify k fun q =>
      { q with starts := q.starts.erase 0, pulseEnd := some (u.clock.osc + width * 65536) } } }) ∧
  (∀ (s : State) (k : Nat) (p : PulseLine) (e : Nat), s.rep.pulseLines[k]? = some p → p.pulseEnd = some e →
    e - s.clock.osc ≤ s.slack →
    let u := s.runFor (e - s.clock.osc)
    exec (.pulseLineEnd k) s = .next { u with rep := { u.rep with pulseLines := u.rep.pulseLines.modify k fun q =>
      { q with pulseEnd := none } } }) ∧
  ∀ (s : State) (dt k : Nat) (r : Request) (v : BitVec 64), k < 4 →
    let u := s.runBy dt
    let wrote (f : PulseLine → PulseLine) : State :=
      { u with rep := { u.rep with pulseLines := u.rep.pulseLines.modify k f } }
    (s.currentItem = some (r, .writeSetting (46 + 5 * k) v) →
      let mode : PulseMode := if v = 0 then .off else if v = 1 then .second else .alarm
      exec (.writePulseLineMode dt) s = .next (
        if v.toNat ≤ 2 then
          (wrote fun q => { q with mode := mode, starts := [], pulseEnd := none }).finishItem r
            { status := .ok, content := [] }
        else u.finishItem r { status := .badValue, content := [] })) ∧
    (s.currentItem = some (r, .writeSetting (47 + 5 * k) v) →
      exec (.writePulseLineMode dt) s = .next (
        if v.toNat ≤ 1 then
          (wrote fun q => { q with activeHigh := v == 0, starts := [], pulseEnd := none }).finishItem r
            { status := .ok, content := [] }
        else u.finishItem r { status := .badValue, content := [] }))

/-! ## Requests -/

/-- Requests, as they are taken, read and answered. A frame that reaches the agent is tested in order, and joins the
request queue or is counted MALFORMED, DISALLOWED or QUEUE_FULL (R165). A request of an unknown command is answered BAD_COMMAND
without items, and one whose item count or items do not suit BAD_VALUE with one such item for each of its own, with nothing
done (R168, R180). The item in handling is the one after those that have their results, of the oldest request, of a known command
and a suiting count, whose items all lie in the frame (R168, R179); its content is read by R178's table, and what has another
length, an unknown selector, target or operand, a flag byte above 1 or a count outside 1 to 16 asks for nothing and is refused
for its form (an action bit above bit 1, and a bank byte above 1, are refused so by the model's choice, log entries 49 and 50,
and by its choice too the bytes behind a clear presence byte are not tested, log entry 67).
An item refused for its form is answered BAD_VALUE in its turn, by its own row (R179; that row, and the items
of a request refused whole, are as log entry 19 says). An item
that is not the last leaves its result; the last brings the response, whose status is OK, CLAMPED or the first refusal (R168);
it joins its line's origin queue or is dropped and counted, and the request leaves the queue (R170). Its bytes are the header
to the requester with the request's VLAN tag, version and kind, the request's tag, the request status, the item count, and
each item's status, length and content (R180). The tag copied is the priority and the identifier of the request's, with a drop
flag of zero (R174). -/
def Obligations.RequestsAreAnswered : Prop :=
  (let byte (b : List Byte) (k : Nat) : Nat := ((b[k]?).map BitVec.toNat).getD 0
    let num (b : List Byte) (k width : Nat) : Nat := ((b.drop k).take width).foldl (fun n x => n * 256 + x.toNat) 0
    let signed (b : List Byte) (k : Nat) : Int :=
      if num b k 8 < 2 ^ 63 then num b k 8 else (num b k 8 : Int) - 2 ^ 64
    let flags (b : List Byte) (places : List Nat) : Prop := ∀ k ∈ places, byte b k ≤ 1
    let ranged (b : List Byte) (k : Nat) : Prop := 1 ≤ byte b k ∧ byte b k ≤ 16
    let optional (b : List Byte) (k width : Nat) : Option Nat :=
      if byte b k = 1 then some (num b (k + 1) width) else none
    let term (b : List Byte) (k : Nat) : Option ByteTerm :=
      if byte b k = 1 then some { offset := byte b (k + 1), value := BitVec.ofNat 8 (byte b (k + 2)),
                                  mask := BitVec.ofNat 8 (byte b (k + 3)) } else none
    let classEntry (b : List Byte) : ClassEntry :=
      { enabled := byte b 3 == 1
        line := if byte b 4 = 0 then .north else if byte b 4 = 1 then .south else .either
        typeValue := (optional b 5 2).map (BitVec.ofNat 16), source := (optional b 8 6).map (BitVec.ofNat 48)
        terms := [term b 15, term b 19, term b 23, term b 27]
        date := byte b 31 % 2 == 1, sample := byte b 31 / 2 % 2 == 1
        stampOffset := optional b 32 2, issueOffset := optional b 35 1, datingOffset := signed b 37
        newStream := byte b 45 == 1 }
    let rackEntry (b : List Byte) : RackConfig :=
      { enabled := byte b 3 == 1, watchOn := signed b 4, watchOff := signed b 12, driftOn := signed b 20
        driftOff := signed b 28, rateOn := signed b 36, spreadLimit := signed b 44, strayLimit := signed b 52
        confirm := signed b 60, nominalDelay := signed b 68, drillOffset := signed b 76, storageSamples := byte b 84 == 1 }
    let read (b : List Byte) : Option ReqItem :=
      if byte b 0 = 0 ∧ 3 ≤ b.length ∧ b.length ≤ 33 ∧ b.length % 2 = 1 then
        some (.readSettings ((List.range ((b.length - 1) / 2)).map fun k => num b (1 + 2 * k) 2))
      else if byte b 0 = 1 ∧ b.length = 5 ∧ flags b [1] ∧ ranged b 4 then
        some (.readClass (byte b 1 == 1) (num b 2 2) (byte b 4))
      else if byte b 0 = 2 ∧ b.length = 4 ∧ ranged b 3 then some (.readOrigin (num b 1 2) (byte b 3))
      else if byte b 0 = 3 ∧ b.length = 4 ∧ ranged b 3 then some (.readRack (num b 1 2) (byte b 3))
      else if byte b 0 = 4 ∧ b.length = 1 then some .readManagers
      else if byte b 0 = 5 ∧ b.length = 4 ∧ ranged b 3 then some (.readMatch (num b 1 2) (byte b 3))
      else if byte b 0 = 6 ∧ b.length = 4 ∧ ranged b 3 then some (.readStream (num b 1 2) (byte b 3))
      else if byte b 0 = 7 ∧ b.length = 2 ∧ byte b 1 ∈ [0, 2, 4, 5, 6, 8] then some (.readCounts (byte b 1))
      else if byte b 0 = 8 ∧ b.length = 2 ∧ 1 ≤ byte b 1 ∧ byte b 1 ≤ 7 then some (.readStatus (byte b 1))
      else none
    let write (b : List Byte) : Option ReqItem :=
      if byte b 0 = 0 ∧ b.length = 11 then some (.writeSetting (num b 1 2) (BitVec.ofNat 64 (num b 3 8)))
      else if byte b 0 = 1 ∧ b.length = 46 ∧ flags b [3, 5, 8, 15, 19, 23, 27, 32, 35, 45] ∧ byte b 31 < 4 then
        some (.writeClass (num b 1 2) (byte b 4) (classEntry b))
      else if byte b 0 = 2 ∧ b.length = 11 ∧ flags b [3] then
        some (.writeOrigin (num b 1 2) (byte b 3 == 1) (BitVec.ofNat 48 (num b 4 6)) (byte b 10))
      else if byte b 0 = 3 ∧ b.length = 85 ∧ flags b [3, 84] then some (.writeRack (num b 1 2) (rackEntry b))
      else if byte b 0 = 4 ∧ b.length = 11 then some (.writeManager (num b 1 2) (BitVec.ofNat 64 (num b 3 8)))
      else none
    let operand (b : List Byte) (first : Nat) (items : List ReqItem) : Option ReqItem :=
      if b.length = 1 ∧ first ≤ byte b 0 then items[byte b 0 - first]? else none
    let item (command : Nat) (b : List Byte) : Option ReqItem :=
      if command = 1 then read b
      else if command = 2 then write b
      else if command = 5 then
        if byte b 0 = 3 ∧ b.length = 9 then some (.servoSetRate (signed b 1))
        else operand b 0 [.servoAuto, .servoHeld, .servoAlign]
      else if command = 6 then
        if b.length = 12 then
          some (.setTime { seconds := num b 0 6, nanos := num b 6 4, fraction := num b 10 2 }) else none
      else if command = 7 then operand b 0 [.captureRead, .captureNow]
      else if command = 8 then operand b 1 [.clear true false, .clear false true, .clear true true]
      else if command = 10 then operand b 0 [.bypassOff, .bypassOn]
      else if command = 11 then operand b 0 [.resetWarm, .resetFull]
      else none
    ∀ r : Request,
      let suits : Prop :=
        if r.command = 3 ∨ r.command = 4 ∨ r.command = 9 then r.count = 0
        else if r.command ≤ 2 then 1 ≤ r.count ∧ r.count ≤ 16
        else r.count = 1
      r.responseItems = (if r.command = 3 ∨ r.command = 4 ∨ r.command = 9 then 1 else r.count) ∧
      r.command = byte r.body 4 ∧ r.count = byte r.body 5 ∧ (r.countSuits = true ↔ suits) ∧
      (∀ contents, r.contents = some contents ↔
        contents.length = r.count ∧ (∀ c ∈ contents, c.length < 2 ^ 16) ∧
          ∃ padding, r.body.drop 6 = (contents.flatMap fun c => beBytes 2 c.length ++ c) ++ padding) ∧
      (∀ n, r.itemAt n =
        if r.command = 3 then some .copy
        else if r.command = 4 then some .swap
        else if r.command = 9 then some .summary
        else r.contents.bind fun contents => contents[n]?.bind (item r.command)) ∧
      ∀ (s : State) (i : ReqItem), s.currentItem = some (r, i) ↔
        s.phase = .running ∧ s.agent.hold = none ∧ s.agent.queue.head? = some r ∧ 1 ≤ r.command ∧ r.command ≤ 11 ∧
          suits ∧ r.contents.isSome = true ∧ r.itemAt s.agent.results.length = some i) ∧
  (∀ (bytes : List Byte) (tag : BitVec 16), tagOf bytes = some tag ↔
    ∃ x y : Byte, (bytes.drop 12).take 4 = [0x81, 0x00, x, y] ∧ tag = (x &&& 0xEF#8) ++ y) ∧
  (∀ (s : State) (line : Line) (bytes : List Byte),
    let body := payloadOf bytes
    let readable : Prop := body[0]? = some 1 ∧ body[1]? = some 1 ∧ 6 ≤ body.length
    let counted (a : Agent) : State := { s with agent := a }
    let malformed := counted { s.agent with malformed := min 65535 (s.agent.malformed + 1) }
    (¬readable → s.takeRequest line bytes = malformed) ∧
    ∀ source, sourceOf bytes = some source →
      let listed : Prop := (∀ x ∈ s.agent.managers, x = none) ∨ some source ∈ s.agent.managers
      let allowed : Prop := (line = .north ∨ s.agent.southManagement = true) ∧ listed
      (source.getLsbD 40 = true → s.takeRequest line bytes = malformed) ∧
      (readable → source.getLsbD 40 = false → ¬allowed →
        s.takeRequest line bytes = counted { s.agent with disallowed := min 65535 (s.agent.disallowed + 1) }) ∧
      (readable → source.getLsbD 40 = false → allowed → 4 ≤ s.agent.queue.length →
        s.takeRequest line bytes = counted { s.agent with queueFull := min 65535 (s.agent.queueFull + 1) }) ∧
      (readable → source.getLsbD 40 = false → allowed → s.agent.queue.length < 4 →
        s.takeRequest line bytes = counted { s.agent with queue := s.agent.queue ++
          [{ line := line, source := source, tag := tagOf bytes, body := body }] })) ∧
  (∀ (s : State) (dt : Nat) (r : Request) (rest : List Request),
    s.phase = .running → s.agent.hold = none → s.agent.queue = r :: rest →
    let u := s.runBy dt
    (¬(1 ≤ r.command ∧ r.command ≤ 11) → exec (.requestBadCommand dt) s = .next (u.respond r .badCommand [])) ∧
    (1 ≤ r.command → r.command ≤ 11 → r.countSuits = false ∨ r.contents = none →
      exec (.requestBadItems dt) s = .next (u.respond r .badValue (List.replicate
        (if r.command = 3 ∨ r.command = 4 ∨ r.command = 9 then 1 else r.count)
        { status := .badValue, content := [] }))) ∧
    (1 ≤ r.command → r.command ≤ 11 → r.countSuits = true → r.contents.isSome = true →
      r.itemAt s.agent.results.length = none →
      exec (.requestBadItems dt) s = .next (u.finishItem r { status := .badValue, content := [] }))) ∧
  (∀ (s : State) (r : Request) (x : ItemResult),
    let results := s.agent.results ++ [x]
    (results.length ≠ r.responseItems → s.finishItem r x = { s with agent := { s.agent with results := results } }) ∧
    (results.length = r.responseItems → ∃ status, s.finishItem r x = s.respond r status results ∧
      ((∀ y ∈ results, y.status = .ok) → status = .ok) ∧
      ((∀ y ∈ results, y.status = .ok ∨ y.status = .clamped) → (∃ y ∈ results, y.status = .clamped) →
        status = .clamped) ∧
      ∀ before y after, results = before ++ y :: after →
        (∀ z ∈ before, z.status = .ok ∨ z.status = .clamped) → y.status ≠ .ok → y.status ≠ .clamped →
        status = y.status)) ∧
  (∀ (s : State) (r : Request) (status : Status) (results : List ItemResult),
    let code (x : Status) : Byte := BitVec.ofNat 8 ([Status.ok, .clamped, .badCommand, .badIndex, .badValue, .duplicate,
      .pending, .alreadyPending, .badState].idxOf x)
    let header : List Byte := beBytes 6 r.source.toNat ++ beBytes 6 s.agent.address.toNat ++
      (match r.tag with
       | some x => [0x81, 0x00] ++ beBytes 2 x.toNat
       | none => []) ++ beBytes 2 s.lines.managementType.toNat
    let answer := s.response r status results
    answer.kind = .response ∧ answer.start = (if r.tag = none then 14 else 18) ∧
      answer.bytes = header ++ [1, 2] ++ (r.body.drop 2).take 2 ++ [code status] ++ beBytes 1 results.length ++
        results.flatMap fun x => [code x.status] ++ beBytes 2 x.content.length ++ x.content) ∧
  ∀ (s : State) (r : Request) (status : Status) (results : List ItemResult),
    let ended : Agent := { s.agent with queue := s.agent.queue.tail, results := [], overflowed := false }
    ((s.lineAt r.line).origin.length < 8 → s.respond r status results =
      { s.join r.line (s.response r status results) with agent := ended }) ∧
    (8 ≤ (s.lineAt r.line).origin.length → s.respond r status results =
      { s with agent := { ended with responseDropped := min 65535 (s.agent.responseDropped + 1) } })

/-- A READ that changes nothing: settings, the class table by the role of its bank at that instant, the rack table with its
effective levels, the manager list and the stream table, as they then stand (R39, R133, R152, R166, R169), in the layouts of R178: a class-table entry's 43
bytes; a rack entry as it is written, then its effective levels, Rt_off and learned fields (R138); a stream's last date as a
timing stamp of fraction 0 (by the model's choice, log entry 16), next sequence, gap count and armed flag; and a manager place,
which where it is empty reads as its top bit with zeros below (by the model's choice, log entry 55). Each setting reads as its
stored value in the order of R169's catalogue: a number, an address, a choice by its position in its rule's list, a flag as 0 or
1, the subscriptions as their bits (R177); by the model's choice the settings that are on or off are flags, 1 for on (log entry
64), and an absent collector VLAN is its top bit with zeros below (log entry 56). R_prev reads 0 where a disabled rack holds it
invalid, and otherwise the last value it had (log entries 54 and 62). A range beyond its
table, and an id that names no setting, are refused whole with BAD_INDEX; the first item that does not fit, and each after it,
with BAD_VALUE (R168; an item fits where the frame of the
response, its header, the items before it, this one and 3 bytes for each item to come, with the check sequence, is of 9,216 bytes
or fewer; that room is kept for the items to come is DEDUCED, log entry 20). -/
def Obligations.ReadsThatClearNothing : Prop :=
  (∀ (s : State) (r : Request) (content : List Byte), s.fits r content = true ↔
    (if r.tag = none then 14 else 18) + 6 + (s.agent.results.map fun x => 3 + x.content.length).sum +
      (3 + content.length) + 3 * (r.responseItems - s.agent.results.length - 1) + 4 ≤ 9216) ∧
  ∀ (s : State) (dt : Nat) (r : Request),
    let u := s.runBy dt
    let value (x : Int) : List Byte := signedBytes 8 x
    let flag (b : Bool) : Byte := if b then 1 else 0
    let maybe (x : Option Int) : List Byte :=
      match x with
      | some v => 1 :: value v
      | none => 0 :: value 0
    let reading (x : Option (BitVec 32)) : List Byte := maybe (x.map fun t => (t.toNat : Int))
    let truth (b : Bool) : List Byte := value (if b then 1 else 0)
    let present (width : Nat) (x : Option Nat) : List Byte :=
      match x with
      | some n => 1 :: beBytes width n
      | none => 0 :: beBytes width 0
    let term (x : Option ByteTerm) : List Byte :=
      match x with
      | some t => [1] ++ beBytes 1 t.offset ++ [t.value, t.mask]
      | none => [0, 0, 0, 0]
    let classEntry (e : ClassEntry) : List Byte :=
      [flag e.enabled, BitVec.ofNat 8 ([EntryLine.north, .south, .either].idxOf e.line)] ++
        present 2 (e.typeValue.map BitVec.toNat) ++ present 6 (e.source.map BitVec.toNat) ++ e.terms.flatMap term ++
        [BitVec.ofNat 8 ((if e.date then 1 else 0) + if e.sample then 2 else 0)] ++ present 2 e.stampOffset ++
        present 1 e.issueOffset ++ value e.datingOffset ++ [flag e.newStream]
    let rackEntry (q : Rack) : List Byte :=
      let c := q.config
      let driftOn := max c.driftOn c.watchOn
      [flag c.enabled] ++
        [c.watchOn, c.watchOff, c.driftOn, c.driftOff, c.rateOn, c.spreadLimit, c.strayLimit, c.confirm, c.nominalDelay,
          c.drillOffset].flatMap value ++
        [flag c.storageSamples] ++
        [min c.watchOff c.watchOn, driftOn, min c.driftOff driftOn, c.rateOn / 2].flatMap value ++
        value ([RackState.quiet, .unjudged, .inStep, .watch, .drifting].idxOf q.state) ++ maybe q.mean ++
        value q.prevMean ++ truth q.prevValid ++ maybe q.rate ++ maybe q.spread ++ value q.members ++ truth q.split ++
        truth q.drill ++ maybe (q.pending.map fun c => ([Level.inStep, .watch, .drifting].idxOf c : Int)) ++
        value q.pendingCount ++ reading q.lastTransition
    let stream (x : StreamState) : List Byte :=
      (match x.lastDate with
       | some d => 1 :: (beBytes 6 (d / 1000000000) ++ beBytes 4 (d % 1000000000) ++ beBytes 2 0)
       | none => 0 :: beBytes 12 0) ++ value x.nextSeq.toNat ++ value x.gap.toNat ++ truth x.armed
    let place (x : Option Address) : List Byte :=
      match x with
      | some a => beBytes 8 a.toNat
      | none => beBytes 8 (2 ^ 63)
    let choice (b : Bool) : Int := if b then 1 else 0
    let low : List Int :=
      [s.agent.address.toNat, choice s.agent.southManagement, s.lines.timingType.toNat, s.lines.managementType.toNat,
        s.lines.injectionLimit, choice s.lines.transitCorrection, choice (!s.pulse.activeHigh), s.pulse.debounce,
        s.exch.leader.toNat, s.exch.northDomain, s.exch.queryExp, s.exch.replyWindow, s.exch.missedLimit,
        s.exch.windowSize, s.exch.pulseClass, s.exch.pulseU]
    let middle : List Int :=
      [s.servo.alpha, s.servo.propExp, s.servo.integExp, s.servo.aMax, s.servo.stepLimit, s.servo.holdBound,
        [Ref.north, .pulse, .none].idxOf s.servo.primary, [Ref.north, .pulse, .none].idxOf s.servo.secondary,
        choice s.servo.revertEnable, s.servo.revertTime, s.servo.lockLimit, s.servo.unlockLimit,
        s.servo.holdoverLimit, s.south.domain, s.south.gradeExp, s.south.group.toNat]
    let tag : Int := match s.rep.collectorTag with
      | some t => (t.toNat / 8192 * 4096 + t.toNat % 4096 : Nat)
      | none => -(2 ^ 63)
    let high : List Int :=
      [s.dater.batch, s.dater.latency, s.mon.filterExp, s.mon.settleCount, s.mon.silence, s.mon.interval,
        s.mon.judgeLimit, s.mon.settlePeriod, s.rep.collector.toNat, [Line.north, .south].idxOf s.rep.collectorLine,
        tag, s.rep.holdoff, s.rep.summaryInterval]
    let line (k : Nat) : List Int :=
      let p := s.rep.pulseLines.getD k .initial
      [[PulseMode.off, .second, .alarm].idxOf p.mode, choice (!p.activeHigh), p.phase, p.width, p.subscriptions.toNat]
    let settings := low ++ middle ++ high ++ (List.range 4).flatMap line
    let setting (id : Nat) : Option Int := if id = 0 then none else settings[id - 1]?
    let answered (c : Instr) (content : Option (List Byte)) : Prop :=
      (∀ b, content = some b → s.agent.overflowed = false → s.fits r b = true →
        exec c s = .next (u.finishItem r { status := .ok, content := b })) ∧
      (content = none → s.agent.overflowed = false →
        exec c s = .next (u.finishItem r { status := .badIndex, content := [] })) ∧
      (∀ b, content = some b → s.agent.overflowed = false → s.fits r b = false →
        exec c s = .next (State.finishItem { u with agent := { s.agent with overflowed := true } } r
          { status := .badValue, content := [] })) ∧
      (s.agent.overflowed = true → exec c s = .next (u.finishItem r { status := .badValue, content := [] }))
    (∀ id, s.settingValue id = setting id) ∧
    (∀ ids, s.currentItem = some (r, .readSettings ids) →
      answered (.readSettings dt) ((ids.mapM setting).map fun values => values.flatMap value)) ∧
    (∀ shadow first count, s.currentItem = some (r, .readClass shadow first count) →
      let entries := s.cls.entries (if shadow then s.cls.active.other else s.cls.active)
      answered (.readClassTable dt) (if first + count ≤ entries.length then
        some (((entries.drop first).take count).flatMap classEntry) else none)) ∧
    (∀ first count, s.currentItem = some (r, .readRack first count) →
      answered (.readRackTable dt) (if first + count ≤ s.mon.racks.length then
        some (((s.mon.racks.drop first).take count).flatMap rackEntry) else none)) ∧
    (∀ first count, s.currentItem = some (r, .readStream first count) →
      answered (.readStreamTable dt) (if first + count ≤ s.dater.streams.length then
        some (((s.dater.streams.drop first).take count).flatMap stream) else none)) ∧
    (s.currentItem = some (r, .readManagers) →
      answered (.readManagerList dt) (some (s.agent.managers.flatMap place)))

/-- A READ that clears what it returns: match counts (R39), the per-kind counts of origin entries (R152), a block's counts
(R178), and, among the items of a block's status, the servo's step count and the agent's counts (R87, R173). Each returns the
values before the clearing and clears nothing else, in the layouts of R178: an origin entry's configured and learned fields in
the order of R136, and a block's items in the order of R39, R69, R87 with R106, R117, R133, R152 or R173. What those rules leave
open of the items is as log entries 14, 15, 34 and 60 say. A range beyond its table is refused whole with BAD_INDEX, and a READ that
does not fit, and each after it, with BAD_VALUE, no count of any of them cleared (R168; an item fits where the frame of the
response, with it and 3 bytes for each item to come, is of 9,216 bytes or fewer; that room is kept for those is DEDUCED, log
entry 20). -/
def Obligations.ReadsThatClearWhatTheyReturn : Prop :=
  (∀ (s : State) (r : Request) (content : List Byte), s.fits r content = true ↔
    (if r.tag = none then 14 else 18) + 6 + ((s.agent.results.map fun x => x.content.length).sum + content.length) +
      3 * max r.responseItems (s.agent.results.length + 1) + 4 ≤ 9216) ∧
  ∀ (s : State) (dt : Nat) (r : Request),
    let u := s.runBy dt
    let value (x : Int) : List Byte := signedBytes 8 x
    let flag (b : Bool) : Byte := if b then 1 else 0
    let maybe (x : Option Int) : List Byte :=
      match x with
      | some v => 1 :: value v
      | none => 0 :: value 0
    let reading (x : Option (BitVec 32)) : List Byte := maybe (x.map fun t => (t.toNat : Int))
    let truth (b : Bool) : List Byte := value (if b then 1 else 0)
    let fine (x : Option Int) : List Byte :=
      match x with
      | some v => 1 :: signedBytes 12 v
      | none => 0 :: beBytes 12 0
    let counted (l : List (List Byte)) : List Byte := beBytes 2 l.length ++ l.flatten
    let servers : List ServerState := [.unseen, .settling, .tracking, .stray, .silent]
    let reference (x : Ref) : List Byte := value ([Ref.north, .pulse, .none].idxOf x)
    let record : List Byte :=
      match s.exch.record with
      | .empty => value 0 ++ maybe none ++ (0 :: beBytes 12 0) ++ maybe none
      | .waiting seq => value 1 ++ maybe (some seq.toNat) ++ (0 :: beBytes 12 0) ++ maybe none
      | .opened seq t1 expiry => value 2 ++ maybe (some seq.toNat) ++ (1 :: stampBytes t1) ++ maybe (some expiry.toNat)
    let window (w : List Sample) : List Byte :=
      counted (w.map fun x => signedBytes 12 x.theta ++ signedBytes 12 x.delay ++ value x.leaderClass ++ value x.leaderU ++
        value x.runCounter.toNat)
    let runTime (n : Nat) : List Byte := beBytes 8 (Config.runTimeCode n).toNat
    let v := s.servo
    let selection := selectSample s.activeWindow
    let status (block : Nat) : List Byte :=
      match block with
      | 1 => value ([Bank.bank0, .bank1].idxOf s.cls.active) ++ truth s.cls.swapPending
      | 2 => record ++ value s.exch.nextSeq.toNat ++ value s.exch.issued ++ value s.exch.missed ++ truth (!s.exch.liveN) ++
          truth (!s.exch.liveP) ++ reading s.exch.lastRegular ++ window s.exch.windowN ++ window s.exch.windowP
      | 3 =>
        value s.clock.rateA ++ value s.clock.integI ++ fine (selection.map Sample.theta) ++
          fine (selection.map fun x => (x.delay : Int)) ++ maybe (v.lastPi.map PiFigures.thetaPs) ++
          maybe (v.lastPi.map PiFigures.prop) ++ maybe (v.lastPi.map PiFigures.incr) ++
          maybe (v.stepOutcome.map fun x => ([StepOutcome.step, .hold, .steer].idxOf x : Int)) ++ truth v.stepPending ++
          value v.uncertainty ++ maybe (v.entryU.map fun n => (n : Int)) ++ maybe (v.holdTime.map fun t => (t.toNat : Int)) ++
          value v.stepCount ++ fine v.lastStep ++
          value ([ServoState.free, .acquire, .locked, .holdover].idxOf v.state) ++ truth v.held ++ truth v.memory ++
          reference v.active ++ reference v.primary ++ reference v.secondary ++
          reference (if v.secondary = v.primary then .none else v.secondary) ++ truth (s.available .north) ++
          truth (s.available .pulse) ++ reading (v.markN.map LiveMark.since) ++ reading (v.markP.map LiveMark.since) ++
          maybe (v.revertIn.map fun n => (n : Int)) ++ value v.lockCounter ++ value v.unlockCounter ++
          truth v.alignPending ++ value s.ownClass ++ maybe (v.leaderClass.map fun n => (n : Int)) ++ reading v.lastChange
      | 4 =>
        counted (s.south.queue.map fun e => value e.requester.toNat ++ value e.seq.toNat ++ value e.takenAt.toNat) ++
          maybe (s.south.waitingGrade.map fun _ => ((s.south.gradeSeq - 1).toNat : Int)) ++ value s.south.gradeSeq.toNat ++
          runTime (s.south.gradeAt - u.clock.osc)
      | 5 =>
        value s.dater.queue.length ++
          (match s.dater.queue.head? with
           | some q => 1 :: runTime (u.clock.osc - q.createdAt)
           | none => 0 :: value 0) ++
          truth s.rep.dateReportWaiting ++ value (s.dater.openN.toList.length + s.dater.openS.toList.length)
      | 6 => value s.mon.settleCounter ++ value s.mon.evalIn ++ (List.range 32).flatMap fun k => servers.flatMap fun x =>
          value (((s.mon.membersOf k).filter fun j => (s.mon.origin j).state == x).length)
      | 7 => [s.agent.malformed, s.agent.disallowed, s.agent.queueFull, s.agent.responseDropped,
          s.agent.queue.length].flatMap fun n : Nat => value n
      | _ => []
    let originEntry (e : OriginEntry) : List Byte :=
      [flag e.enabled] ++ beBytes 6 e.source.toNat ++ beBytes 1 e.rack ++ value (servers.idxOf e.state) ++
        maybe e.filtered ++ maybe e.lastSample ++ reading e.lastAt ++ value e.sampleCount ++ value e.queryCount ++
        value e.storageCount
    let refused (t : State) (status : Status) : Host.Outcome State Fault Refusal :=
      .next (t.finishItem r { status := status, content := [] })
    let answered (c : Instr) (t : State) (b : List Byte) : Prop :=
      (s.agent.overflowed = false → s.fits r b = true →
        exec c s = .next (t.finishItem r { status := .ok, content := b })) ∧
      (s.agent.overflowed = false → s.fits r b = false →
        exec c s = refused { u with agent := { s.agent with overflowed := true } } .badValue) ∧
      (s.agent.overflowed = true → exec c s = refused u .badValue)
    let beyond (c : Instr) : Prop :=
      exec c s = refused u (if s.agent.overflowed then .badValue else .badIndex)
    (∀ first count, s.currentItem = some (r, .readMatch first count) →
      let counts := s.cls.matchCounts
      let b := ((counts.drop first).take count).flatMap fun n : Nat => signedBytes 8 n
      let cleared := counts.take first ++ List.replicate count 0 ++ counts.drop (first + count)
      (first + count ≤ counts.length →
        answered (.readMatchCounts dt) { u with cls := { s.cls with matchCounts := cleared } } b) ∧
      (counts.length < first + count → beyond (.readMatchCounts dt))) ∧
    (∀ first count, s.currentItem = some (r, .readOrigin first count) →
      let entries := s.mon.origins
      let b := ((entries.drop first).take count).flatMap originEntry
      let cleared := entries.take first ++
        ((entries.drop first).take count).map (fun e => { e with queryCount := 0, storageCount := 0 }) ++
        entries.drop (first + count)
      (first + count ≤ entries.length →
        answered (.readOriginTable dt) { u with mon := { s.mon with origins := cleared } } b) ∧
      (entries.length < first + count → beyond (.readOriginTable dt))) ∧
    (∀ block, s.currentItem = some (r, .readCounts block) →
      let bytesOf (counts : List Nat) : List Byte := counts.flatMap fun n : Nat => signedBytes 8 n
      let four (l : LineState) : List Nat := [l.badCheck, l.lengthErrors, l.overruns, l.misdirected]
      let zeroed (l : LineState) : LineState :=
        { l with badCheck := 0, lengthErrors := 0, overruns := 0, misdirected := 0 }
      let done (counts : List Nat) (t : State) : Prop := answered (.readCountGroup dt) t (bytesOf counts)
      (block = 0 → done (four s.lines.north ++ four s.lines.south)
        { u with lines := { s.lines with north := zeroed s.lines.north, south := zeroed s.lines.south } }) ∧
      (block = 2 → done [s.exch.late, s.exch.strayReply, s.exch.badDelay]
        { u with exch := { s.exch with late := 0, strayReply := 0, badDelay := 0 } }) ∧
      (block = 4 → done
        [s.south.badQuery, s.south.droppedQuery, s.south.unknownOrigin, s.south.badReport, s.south.gradeSuperseded]
        { u with south := { s.south with
          badQuery := 0, droppedQuery := 0, unknownOrigin := 0, badReport := 0, gradeSuperseded := 0 } }) ∧
      (block = 5 → done [s.dater.lostRecord, s.dater.orphaned]
        { u with dater := { s.dater with lostRecord := 0, orphaned := 0 } }) ∧
      (block = 6 → done [s.mon.unknownStorage, s.mon.ignoredSample, s.mon.discardedByReset]
        { u with mon := { s.mon with unknownStorage := 0, ignoredSample := 0, discardedByReset := 0 } }) ∧
      (block = 8 → done [s.rep.noticeDropped] { u with rep := { u.rep with noticeDropped := 0 } })) ∧
    (∀ block, s.currentItem = some (r, .readStatus block) →
      answered (.readBlockStatus dt)
        (if block = 3 then { u with servo := { s.servo with stepCount := 0 } }
         else if block = 7 then
          { u with agent := { s.agent with malformed := 0, disallowed := 0, queueFull := 0, responseDropped := 0 } }
         else u) (status block))

/-! ## Writes of settings -/

/-- A write of a setting that has no step of its own (R169). A numeric tuning value is stored at its value or the nearer limit
of its range, and the answer is OK, or CLAMPED with the stored value (R168); a structural value is stored or refused with
BAD_VALUE; an id that names no setting is refused with BAD_INDEX. Every other setting reads as before, nothing else of the
state moves, and a refusal changes nothing: so a write of q leaves the query timer, and a write of g the grade timer, as they
run (R55, R115). A write of the notice holdoff applies to the set as it stands: its Notice waits exactly where the set is then
ready, and is offered (R156). That an address is the last six bytes of its value, and a subscription mask its last byte, whatever stands above
them, is the model's choice (log entry 21), and so is that an absent collector VLAN reads as its top bit with zeros below (log
entry 56), that the settings that are on or off are flags, 1 for on (log entry 64), and that a frame type beyond two bytes and a
VLAN value with other bits set are refused (log entry 65). -/
def Obligations.SettingsAreStoredClampedOrRefused : Prop :=
  ∀ (s : State) (dt : Nat) (r : Request) (id : Nat) (v : BitVec 64),
    s.currentItem = some (r, .writeSetting id v) →
    let u := s.runBy dt
    let stored (t : State) (x : Int) (answer : ItemResult) : Prop :=
      exec (.writeSetting dt) s = .next (t.finishItem r answer) ∧ t.settingValue id = some x ∧
        ∀ other, other ≠ id → t.settingValue other = u.settingValue other
    let lines (f : LinePair → LinePair) : State := { u with lines := f s.lines }
    let exch (f : Exchange → Exchange) : State := { u with exch := f s.exch }
    let servo (f : Servo → Servo) : State := { u with servo := f s.servo }
    let south (f : SouthServer → SouthServer) : State := { u with south := f s.south }
    let mon (f : Monitor → Monitor) : State := { u with mon := f s.mon }
    let rep (f : ReportEngine → ReportEngine) : State := { u with rep := f u.rep }
    let heldOff (n : Nat) : State :=
      let t := rep fun e => { e with holdoff := n }
      State.fill { t with rep := { t.rep with noticeWaiting := t.noticeReady } } s.rep.collectorLine
    let ok : ItemResult := { status := .ok, content := [] }
    let refused (status : Status) : Prop :=
      exec (.writeSetting dt) s = .next (u.finishItem r { status := status, content := [] })
    let clamped (lo hi : Int) (store : Int → State) : Prop :=
      let kept := max lo (min hi v.toInt)
      stored (store kept) kept (if kept = v.toInt then ok else { status := .clamped, content := signedBytes 8 kept })
    let numbers : List (Nat × Int × Int × (Int → State)) :=
      [(5, 2048, 49152, fun x => lines fun l => { l with injectionLimit := x.toNat }),
       (8, 100, 1000000, fun x => { u with pulse := { s.pulse with debounce := x.toNat } }),
       (11, -3, 4, fun x => exch fun e => { e with queryExp := x }),
       (12, 1, 1000, fun x => exch fun e => { e with replyWindow := x.toNat }),
       (13, 1, 16, fun x => exch fun e => { e with missedLimit := x.toNat }),
       (15, 0, 15, fun x => exch fun e => { e with pulseClass := x.toNat }),
       (16, 1, 1000000000, fun x => exch fun e => { e with pulseU := x.toNat }),
       (17, -1000000, 1000000, fun x => servo fun w => { w with alpha := x }),
       (18, 0, 10, fun x => servo fun w => { w with propExp := x.toNat }),
       (19, 0, 12, fun x => servo fun w => { w with integExp := x.toNat }),
       (21, 1000, 1000000000, fun x => servo fun w => { w with stepLimit := x.toNat }),
       (27, 10, 1000000, fun x => servo fun w => { w with lockLimit := x.toNat }),
       (28, 10, 10000000, fun x => servo fun w => { w with unlockLimit := x.toNat }),
       (31, -4, 4, fun x => south fun g => { g with gradeExp := x }),
       (35, 0, 6, fun x => mon fun m => { m with filterExp := x.toNat }),
       (37, 1, 3600, fun x => mon fun m => { m with silence := x.toNat }),
       (39, 10, 1000000000, fun x => mon fun m => { m with judgeLimit := x.toNat }),
       (40, 0, 16, fun x => mon fun m => { m with settlePeriod := x.toNat }),
       (44, 1, 1000, fun x => heldOff x.toNat)]
    (∀ x ∈ numbers, x.1 = id → clamped x.2.1 x.2.2.1 x.2.2.2) ∧
    (id = 2 ∨ id = 6 →
      let on : Bool := v == 1
      let t : State := if id = 2 then { u with agent := { s.agent with southManagement := on } }
        else lines fun l => { l with transitCorrection := on }
      (v.toNat ≤ 1 → stored t v.toNat ok) ∧ (1 < v.toNat → refused .badValue)) ∧
    (id = 10 ∨ id = 30 →
      let t : State := if id = 10 then exch fun e => { e with northDomain := v.toNat }
        else south fun g => { g with domain := v.toNat }
      (v.toNat ≤ 255 → stored t v.toNat ok) ∧ (255 < v.toNat → refused .badValue)) ∧
    (id = 1 ∨ id = 32 →
      let a : Address := v.setWidth 48
      let group : Bool := id == 32
      let t : State := if id = 1 then { u with agent := { s.agent with address := a } } else south fun g => { g with group := a }
      (a.getLsbD 40 = group → stored t a.toNat ok) ∧ (a.getLsbD 40 ≠ group → refused .badValue)) ∧
    (id = 3 ∨ id = 4 →
      let otherType := if id = 3 then s.lines.managementType else s.lines.timingType
      let legal : Prop :=
        0x0600 ≤ v.toNat ∧ v.toNat ≤ 0xFFFF ∧ v.toNat ≠ 0x8100 ∧ v.toNat ≠ otherType.toNat
      let type : BitVec 16 := v.setWidth 16
      let t : State := lines fun l => if id = 3 then { l with timingType := type } else { l with managementType := type }
      (legal → stored t v.toNat ok) ∧ (¬legal → refused .badValue)) ∧
    (id = 43 →
      let tagged (x : Option (BitVec 16)) : State := rep fun e => { e with collectorTag := x }
      let tag := BitVec.ofNat 16 (v.toNat / 4096 * 8192 + v.toNat % 4096)
      (v.getLsbD 63 = true → stored (tagged none) (-(2 ^ 63)) ok) ∧
      (v.toNat < 32768 → stored (tagged (some tag)) v.toNat ok) ∧
      (v.getLsbD 63 = false → 32768 ≤ v.toNat → refused .badValue)) ∧
    (∀ k, k < 4 → s.rep.pulseLines.length = 4 →
      let pulse (f : PulseLine → PulseLine) : State := rep fun e => { e with pulseLines := e.pulseLines.modify k f }
      (id = 48 + 5 * k → clamped 0 999999999 fun x => pulse fun p => { p with phase := x.toNat }) ∧
      (id = 49 + 5 * k → clamped 0 999999999 fun x => pulse fun p => { p with width := x.toNat }) ∧
      (id = 50 + 5 * k →
        let mask : BitVec 8 := v.setWidth 8
        stored (pulse fun p => { p with subscriptions := mask }) mask.toNat ok)) ∧
    (id = 0 ∨ 65 < id → refused .badIndex)

/-- The settings whose write acts at once on its own block: the pulse polarity, which discards a pulse being timed and sets
the qualifier by the input's level (R11, R12); A_max, which brings I and A within it (R71); E, which leaves the expiry
scheduled and invalidates every R_prev (R143, R146), each keeping its value by the model's choice (log entry 62); W, which shortens longer windows by their oldest samples, and where the
active one is shortened has the selection made again, and U in LOCKED (R64, R76, R83); and n_s, which moves entries between
SETTLING and TRACKING or STRAY (R142), each that leaves STRAY giving its transition (R151), by index by the model's choice (log
entry 53). -/
def Obligations.SettingsThatActAtOnce : Prop :=
  ∀ (s : State) (dt : Nat) (r : Request) (v : BitVec 64),
    let u := s.runBy dt
    (s.currentItem = some (r, .writeSetting 7 v) →
      exec (.writePulsePolarity dt) s = .next (
        if v.toNat ≤ 1 then State.finishItem { u with pulse := { s.pulse with
          activeHigh := v == 0, tentative := none
          qualifier := if s.pulse.pinHigh = (v == 0) then .releasing else .waiting } } r { status := .ok, content := [] }
        else u.finishItem r { status := .badValue, content := [] })) ∧
    (s.currentItem = some (r, .writeSetting 20 v) →
      let x := max 1000000 (min 200000000 v.toInt)
      let limit (y : Int) : Int := max (-x) (min x y)
      exec (.writeAMax dt) s = .next (State.finishItem { u with
        servo := { s.servo with aMax := x.toNat }
        clock := { u.clock with integI := limit s.clock.integI, rateA := limit s.clock.rateA } } r
        (clampResult x v.toInt))) ∧
    (s.currentItem = some (r, .writeSetting 38 v) →
      let x := max 1 (min 64 v.toInt)
      exec (.writeEvaluationInterval dt) s = .next (State.finishItem { u with mon := { s.mon with
        interval := x.toNat, racks := s.mon.racks.map fun k => { k with prevValid := false } } } r
        (clampResult x v.toInt))) ∧
    (s.currentItem = some (r, .writeSetting 14 v) →
      let x := (max 1 (min 16 v.toInt)).toNat
      let shorter (w : List Sample) : List Sample := w.drop (w.length - x)
      let active := shorter s.activeWindow
      let again : Option Sample := if x < s.activeWindow.length then selectSample active else none
      let servo : Servo := match again with
        | some y => { s.servo with
          leaderClass := some y.leaderClass
          lockedU := if s.servo.state = .locked then lockedForm y else s.servo.lockedU }
        | none => s.servo
      exec (.writeWindowSize dt) s = .next (State.finishItem { u with
        exch := { s.exch with windowSize := x, windowN := shorter s.exch.windowN, windowP := shorter s.exch.windowP }
        servo := servo } r (clampResult x v.toInt))) ∧
    (s.currentItem = some (r, .writeSetting 36 v) →
      let x := (max 1 (min 16 v.toInt)).toNat
      ∃ t : State, exec (.writeSettleCount dt) s = .next (t.finishItem r (clampResult x v.toInt)) ∧
        t = { u with mon := { s.mon with settleCount := x, origins := t.mon.origins }, rep := t.rep } ∧
        t.rep = (List.range s.mon.origins.length).foldl (fun rep j =>
          let e := s.mon.origin j
          if e.state = .stray ∧ e.sampleCount < x then
            rep.transition u.clock.osc (.server j) (.server .stray) (.server .settling) (.server e.filtered e.rack)
          else rep) u.rep ∧
        ∀ j, let e := s.mon.origin j
          t.mon.origin j = { e with state :=
            if (e.state = .tracking ∨ e.state = .stray) ∧ e.sampleCount < x then .settling
            else if e.state = .settling ∧ x ≤ e.sampleCount then .tracking else e.state })

/-- A reference is configured that the primary or the effective secondary names, NORTH with a leader address that is not zero,
and available that is configured and LIVE (R54, R90, R91). The configured references as a write of the leader address, the primary or the secondary changes them, as one event (R54,
R91). A group address and a value that names no reference are refused. A new address voids the outstanding Query while NORTH
is configured; NORTH ceasing to be configured stops the query timer, voids the Query, empties its window and leaves it LOST with
no miss; NORTH becoming configured starts the timer at once. Where the set changes: the active reference ceasing to be configured
is a loss, in AUTO a switch or an entry into HOLDOVER by R95, and in any mode it becomes NONE where it is still the one; PULSE
becoming configured while LIVE is an offer; and the revert test is made. Each entry with memory takes U into U_entry and starts
t_h from 0 (R84), and a change of condition gives one transition (R105). Where the set stays as it was the servo's condition
stays too. By the model's choice: a leader address is the last six bytes of its value, whatever stands above them (log entry
21); the live-since mark of NORTH goes with its liveness (log entry 23); the revert expiry is scheduled anew where the primary's
mark has changed and stands otherwise, due or not (log entries 24 and 39); and an entry into HOLDOVER leaves the unlock counter
(log entry 45). -/
def Obligations.ReferencesAreReconfigured : Prop :=
  (∀ (s : State),
    let named (x : Ref) : Prop := s.servo.primary = x ∨ (s.servo.secondary = x ∧ s.servo.secondary ≠ s.servo.primary)
    (s.configured .north = true ↔ named .north ∧ s.exch.leader ≠ 0) ∧ (s.configured .pulse = true ↔ named .pulse) ∧
      s.configured .none = false ∧ s.live .north = s.exch.liveN ∧ s.live .pulse = s.exch.liveP ∧ s.live .none = false ∧
      ∀ x, s.available x = true ↔ s.configured x = true ∧ s.live x = true) ∧
  ∀ (s : State) (dt : Nat) (r : Request) (id : Nat) (v : BitVec 64),
    s.currentItem = some (r, .writeSetting id v) → s.northKept →
    let u := s.runBy dt
    let c := if id = 9 then Instr.writeLeaderAddress dt else Instr.writeReference dt
    let named : Ref := if v = 0 then .north else if v = 1 then .pulse else .none
    let legal : Prop := if id = 9 then (v.setWidth 48).getLsbD 40 = false else v.toNat ≤ 2
    let leader := if id = 9 then v.setWidth 48 else s.exch.leader
    let primary := if id = 23 then named else s.servo.primary
    let secondary := if id = 24 then named else s.servo.secondary
    let active := s.servo.active
    let other := active.other
    id = 9 ∨ id = 23 ∨ id = 24 →
    (¬legal → exec c s = .next (u.finishItem r { status := .badValue, content := [] })) ∧
    (legal → ∃ t : State, exec c s = .next (t.finishItem r { status := .ok, content := [] }) ∧
      t = { u with exch := t.exch, servo := t.servo, rep := t.rep } ∧
      t.exch.leader = leader ∧ t.servo.primary = primary ∧ t.servo.secondary = secondary ∧ t.northKept ∧
      (let changed : Prop := ∃ x, t.configured x ≠ s.configured x
       let ceased : Prop := s.configured .north = true ∧ t.configured .north = false
       let begun : Prop := s.configured .north = false ∧ t.configured .north = true
       let voided : Exchange := { s.exch with leader := leader, record := .empty, waitingQuery := none }
       let exch : Exchange :=
         if ceased then { voided with queryIn := none, missed := 0, liveN := false, windowN := [] }
         else if begun then { s.exch with leader := leader, queryIn := some 0 }
         else if id = 9 ∧ s.configured .north = true then voided
         else { s.exch with leader := leader }
       let emptied : Prop := ceased ∧ active = .north
       let base : Servo := { s.servo with
         primary := primary, secondary := secondary
         markN := if ceased then none else s.servo.markN
         stepPending := if emptied then false else s.servo.stepPending
         lockCounter := if emptied then 0 else s.servo.lockCounter
         revertIn := t.servo.revertIn, lastChange := t.servo.lastChange }
       let entered (x : Ref) : Servo := { base with
         state := .acquire, active := x, lockCounter := 0, unlockCounter := 0, stepPending := false
         entryU := if s.servo.memory then some s.servo.uncertainty else none
         holdTime := if s.servo.memory then some 0 else none }
       let lost : Prop := changed ∧ active ≠ .none ∧ t.configured active = false
       let auto : Prop := s.servo.held = false
       let switch : Prop := auto ∧ lost ∧ (s.servo.state = .locked ∨ s.servo.state = .acquire) ∧ t.available other = true
       let falls : Prop := auto ∧ lost ∧ s.servo.state = .locked ∧ t.available other = false
       let offer : Prop := auto ∧ ¬lost ∧ s.configured .pulse = false ∧ t.available .pulse = true ∧
         s.servo.state = .acquire ∧ active ≠ .pulse ∧ t.live active = false
       let revert : Prop := auto ∧ ¬lost ∧ changed ∧ s.servo.state = .locked ∧
         active = (if secondary = primary then .none else secondary) ∧ s.servo.revertEnable = true ∧
         t.available primary = true ∧ ∃ m, t.servo.mark primary = some m ∧ s.servo.revertTime * 1000 ≤ m.age.toNat
       (switch → t.servo = entered other ∧ t.exch = exch.setWindow other []) ∧
       (falls → t.exch = exch ∧ t.servo =
         { base with state := .holdover, active := .none, entryU := some s.servo.uncertainty, holdTime := some 0 }) ∧
       (lost → ¬switch → ¬falls → t.exch = exch ∧ t.servo = { base with active := .none }) ∧
       (offer → t.servo = entered .pulse ∧ t.exch = exch.setWindow .pulse []) ∧
       (revert → t.servo = entered primary ∧ t.exch = exch.setWindow primary []) ∧
       (¬lost → ¬offer → ¬revert → t.exch = exch ∧ t.servo = base) ∧
       t.servo.revertIn =
         (if t.servo.mark primary ≠ s.servo.mark primary then none
          else if s.servo.mark primary = s.servo.mark s.servo.primary then s.servo.revertIn
          else match s.servo.mark primary with
            | some m =>
              if m.age.toNat < s.servo.revertTime * 1000 then some (s.servo.revertTime * 1000 - m.age.toNat) else none
            | none => none)) ∧
      t.servo.lastChange =
        (if t.servo.condition = s.servo.condition then s.servo.lastChange else some s.clock.runCounter) ∧
      t.rep = (if t.servo.condition = s.servo.condition then u.rep
        else u.rep.transition u.clock.osc .servo (.servo s.servo.condition) (.servo t.servo.condition)
          (.condition t.servo.uncertainty t.ownClass)))

/-! ## Tables and the other commands -/

/-- Writes of the tables, each tested in its rule's order, a refusal changing nothing: a class-table entry goes whole into the
shadow bank, its dating offset clamped (R38); an origin entry takes its configured fields and returns to UNSEEN (R137); a rack
entry takes its fields, each brought to the nearer limit of its range (R138), its learned fields kept, but that disabling it makes it QUIET with every learned field clear
and its members UNSEEN (R139), the members that leave STRAY and then the rack giving their transitions (R151); a manager place
takes an individual address or becomes empty (R166). The model's choices: the content of a CLAMPED answer has no target and
index (log entry 18); a server that returns to UNSEEN shows F absent in its transition (log entry 46); the members come by index
and before their rack (log entry 44); R_prev reads 0 while it is invalid (log entry 54); and the bits of a manager value between
its top bit and its address are not tested (log entry 21). -/
def Obligations.TableWritesTestThenStore : Prop :=
  ∀ (s : State) (dt : Nat) (r : Request),
    let u := s.runBy dt
    let ok : ItemResult := { status := .ok, content := [] }
    let refused (status : Status) := u.finishItem r { status := status, content := [] }
    (∀ index line e, s.currentItem = some (r, .writeClass index line e) →
      let shadow := s.cls.active.other
      let kept : ClassEntry := { e with datingOffset := max (-1000000) (min 1000000 e.datingOffset) }
      let legal : Prop := line ≤ 2 ∧ (∀ x ∈ e.terms, ∀ y, x = some y → y.offset ≤ 127) ∧
        (∀ n, e.stampOffset = some n → n ≤ 9188) ∧ (∀ n, e.issueOffset = some n → n ≤ 118) ∧
        ¬(e.date = true ∧ e.line = .either) ∧ ¬(e.sample = true ∧ e.issueOffset = none)
      (63 < index → exec (.writeClassEntry dt) s = .next (refused .badIndex)) ∧
      (index ≤ 63 → s.cls.swapPending = true → exec (.writeClassEntry dt) s = .next (refused .pending)) ∧
      (index ≤ 63 → s.cls.swapPending = false → ¬legal → exec (.writeClassEntry dt) s = .next (refused .badValue)) ∧
      (index ≤ 63 → s.cls.swapPending = false → legal → exec (.writeClassEntry dt) s = .next (State.finishItem
        { u with cls := s.cls.setEntries shadow ((s.cls.entries shadow).modify index fun _ => kept) } r
        (if kept = e then ok else { status := .clamped, content := kept.bytes })))) ∧
    (∀ index enabled source rack, s.currentItem = some (r, .writeOrigin index enabled source rack) →
      let taken : Prop := ∃ j x, s.mon.origins[j]? = some x ∧ j ≠ index ∧ x.enabled = true ∧ x.source = source
      (511 < index ∨ 31 < rack → exec (.writeOriginEntry dt) s = .next (refused .badIndex)) ∧
      (index ≤ 511 → rack ≤ 31 → source.getLsbD 40 = true →
        exec (.writeOriginEntry dt) s = .next (refused .badValue)) ∧
      (index ≤ 511 → rack ≤ 31 → source.getLsbD 40 = false → enabled = true → taken →
        exec (.writeOriginEntry dt) s = .next (refused .duplicate)) ∧
      (index ≤ 511 → rack ≤ 31 → source.getLsbD 40 = false → enabled = false ∨ ¬taken →
        let stored : State := { u with mon := { s.mon with origins := s.mon.origins.modify index fun _ =>
          { enabled := enabled, source := source, rack := rack, state := .unseen, filtered := none
            lastSample := none, lastAt := none, sampleCount := 0, queryCount := 0, storageCount := 0 } } }
        exec (.writeOriginEntry dt) s = .next (State.finishItem
          (if (s.mon.origin index).state = .stray then
            stored.transition (.server index) (.server .stray) (.server .unseen) (.server none rack)
           else stored) r ok))) ∧
    (∀ index c, s.currentItem = some (r, .writeRack index c) →
      let within (lo hi x : Int) : Int := max lo (min hi x)
      let level := within 1 2000000000
      let limit := within 1 4000000000
      let stored : RackConfig :=
        { enabled := c.enabled, watchOn := level c.watchOn, watchOff := level c.watchOff, driftOn := level c.driftOn
          driftOff := level c.driftOff, rateOn := within 2 1000000 c.rateOn, spreadLimit := limit c.spreadLimit
          strayLimit := limit c.strayLimit, confirm := within 1 8 c.confirm
          nominalDelay := within 0 10000000 c.nominalDelay
          drillOffset := within (-100000000) 100000000 c.drillOffset, storageSamples := c.storageSamples }
      (31 < index → exec (.writeRackEntry dt) s = .next (refused .badIndex)) ∧
      (index ≤ 31 → s.mon.racks.length = 32 → ∃ t : State,
        exec (.writeRackEntry dt) s = .next (t.finishItem r
          (if stored = c then ok else { status := .clamped, content := stored.bytes })) ∧
        (let old := s.mon.rack index
         let disabling : Prop := old.config.enabled = true ∧ c.enabled = false
         (¬disabling → t = { u with mon := { s.mon with
            racks := s.mon.racks.modify index fun k => { k with config := stored } } }) ∧
         (disabling →
            t = { u with mon := { s.mon with origins := t.mon.origins, racks := t.mon.racks }, rep := t.rep } ∧
            t.mon.rack index = { Rack.cleared stored with lastTransition :=
              if old.state = .quiet then old.lastTransition else some s.clock.runCounter } ∧
            (let told := (s.mon.membersOf index).foldl (fun rep j =>
              if (s.mon.origin j).state = .stray then
                rep.transition u.clock.osc (.server j) (.server .stray) (.server .unseen) (.server none index)
              else rep) u.rep
             t.rep = if old.state = .quiet then told
              else told.transition u.clock.osc (.rack index) (.rack old.state) (.rack .quiet)
                (.rack none none none 0 false false)) ∧
            (∀ i, i ≠ index → t.mon.rack i = s.mon.rack i) ∧
            ∀ j, let e := s.mon.origin j
              t.mon.origin j = if e.enabled = true ∧ e.rack = index then
                { OriginEntry.initial with enabled := true, source := e.source, rack := index } else e)))) ∧
    (∀ index v, s.currentItem = some (r, .writeManager index v) →
      let address := v.setWidth 48
      let placed (x : Option Address) := State.finishItem
        { u with agent := { s.agent with managers := s.agent.managers.modify index fun _ => x } } r ok
      (3 < index → exec (.writeManagerPlace dt) s = .next (refused .badIndex)) ∧
      (index ≤ 3 → v.getLsbD 63 = true → exec (.writeManagerPlace dt) s = .next (placed none)) ∧
      (index ≤ 3 → v.getLsbD 63 = false → address.getLsbD 40 = true →
        exec (.writeManagerPlace dt) s = .next (refused .badValue)) ∧
      (index ≤ 3 → v.getLsbD 63 = false → address.getLsbD 40 = false →
        exec (.writeManagerPlace dt) s = .next (placed (some address))))

/-- COPY puts all of the active bank into the shadow bank, the match counts and the streams unchanged, and SWAP sets the
swap-pending flag, each unless the flag is set already, which it answers PENDING and ALREADY_PENDING (R46, R47). CLEAR clears
the latches it names and no condition else (R163). SUMMARY answers the Summary of that instant, from its version byte on (R181,
R183), and takes the next Summary sequence, whether or not the collector is set (R159). A rack's rate that 4 signed bytes do not
hold is sent as a free value (log entry 13), and the flags of a rack record stand from bit 0 up, by the model's choice (log
entry 63). -/
def Obligations.CopySwapClearAndSummary : Prop :=
  ∀ (s : State) (dt : Nat) (r : Request),
    let u := s.runBy dt
    let answer (t : State) (status : Status) (content : List Byte) : Host.Outcome State Fault Refusal :=
      .next (t.finishItem r { status := status, content := content })
    (s.currentItem = some (r, .copy) → exec (.copy dt) s =
      if s.cls.swapPending then answer u .pending []
      else answer { u with cls := match s.cls.active with
        | .bank0 => { s.cls with bank1 := s.cls.bank0 }
        | .bank1 => { s.cls with bank0 := s.cls.bank1 } } .ok []) ∧
    (s.currentItem = some (r, .swap) → exec (.swap dt) s =
      if s.cls.swapPending then answer u .alreadyPending []
      else answer { u with cls := { s.cls with swapPending := true } } .ok []) ∧
    (∀ dateGap noticeOverflow, s.currentItem = some (r, .clear dateGap noticeOverflow) → exec (.clear dt) s =
      answer { u with rep := { u.rep with
        dateGap := if dateGap then false else s.rep.dateGap
        noticeOverflow := if noticeOverflow then false else s.rep.noticeOverflow } } .ok []) ∧
    ∃ sentRate : Int → List Byte,
      (∀ x, (sentRate x).length = 4 ∧ (-(2 ^ 31) ≤ x → x < 2 ^ 31 → sentRate x = signedBytes 4 x)) ∧
      let place {α : Type} [BEq α] (l : List α) (x : α) : Byte := BitVec.ofNat 8 (l.idxOf x)
      let bits (l : List Bool) : Byte := BitVec.ofNat 8 ((l.zipIdx.map fun x => if x.1 then 2 ^ x.2 else 0).sum)
      let condition : Byte := BitVec.ofNat 8 ([ServoState.free, .acquire, .locked, .holdover].idxOf s.servo.state +
        (if s.servo.held then 4 else 0) + (if s.servo.memory then 8 else 0) +
        16 * [Ref.north, .pulse, .none].idxOf s.servo.active)
      let rack (q : Rack) : List Byte :=
        [place [RackState.quiet, .unjudged, .inStep, .watch, .drifting] q.state,
          bits [q.mean.isSome, q.rate.isSome, q.split, q.drill]] ++ signedBytes 4 (q.mean.getD 0) ++
          (q.rate.elim (beBytes 4 0) sentRate) ++ beBytes 2 q.members
      let faults (l : LineState) : Bool := 0 < l.badCheck || 0 < l.lengthErrors || 0 < l.overruns
      let conditions : List Bool :=
        [s.mon.racks.any fun q => q.state == .watch || q.state == .drifting, s.mon.racks.any fun q => q.state == .drifting,
          s.mon.racks.any Rack.split, s.servo.state != .locked, s.servo.state == .holdover, s.rep.dateGap,
          s.rep.noticeOverflow, faults s.lines.north || faults s.lines.south]
      (s.currentItem = some (r, .summary) → exec (.summary dt) s =
        answer { u with rep := { u.rep with summarySeq := s.rep.summarySeq + 1 } } .ok
          ([1, 19] ++ beBytes 2 s.rep.summarySeq.toNat ++ beBytes 8 (s.agent.address.toNat * 65536 + 1) ++ [32, condition] ++
            beBytes 1 s.ownClass ++ beBytes 4 s.servo.uncertainty ++ signedBytes 4 s.clock.rateA ++
            beBytes 2 s.dater.queue.length ++ [bits conditions] ++ s.mon.racks.flatMap rack))

end Statements
end

