-- ==== Sys2Proof/Laws/State.lean ====
section
/-! SUPPORT. One lemma per field per update of the state, so that no later proof unfolds a record update. -/

namespace Sys2Proof.Machine

/-! ### `State.setPhase` -/

@[simp] theorem State.setPhase_pending (s : State) (x : Phase) : (s.setPhase x).pending = s.pending := rfl
@[simp] theorem State.setPhase_phase (s : State) (x : Phase) : (s.setPhase x).phase = x := rfl
@[simp] theorem State.setPhase_supplyGood (s : State) (x : Phase) : (s.setPhase x).supplyGood = s.supplyGood := rfl
@[simp] theorem State.setPhase_resetPin (s : State) (x : Phase) : (s.setPhase x).resetPin = s.resetPin := rfl
@[simp] theorem State.setPhase_straps (s : State) (x : Phase) : (s.setPhase x).straps = s.straps := rfl
@[simp] theorem State.setPhase_free (s : State) (x : Phase) : (s.setPhase x).free = s.free := rfl
@[simp] theorem State.setPhase_clock (s : State) (x : Phase) : (s.setPhase x).clock = s.clock := rfl
@[simp] theorem State.setPhase_pulse (s : State) (x : Phase) : (s.setPhase x).pulse = s.pulse := rfl
@[simp] theorem State.setPhase_lines (s : State) (x : Phase) : (s.setPhase x).lines = s.lines := rfl
@[simp] theorem State.setPhase_cls (s : State) (x : Phase) : (s.setPhase x).cls = s.cls := rfl
@[simp] theorem State.setPhase_exch (s : State) (x : Phase) : (s.setPhase x).exch = s.exch := rfl
@[simp] theorem State.setPhase_servo (s : State) (x : Phase) : (s.setPhase x).servo = s.servo := rfl
@[simp] theorem State.setPhase_south (s : State) (x : Phase) : (s.setPhase x).south = s.south := rfl
@[simp] theorem State.setPhase_dater (s : State) (x : Phase) : (s.setPhase x).dater = s.dater := rfl
@[simp] theorem State.setPhase_mon (s : State) (x : Phase) : (s.setPhase x).mon = s.mon := rfl
@[simp] theorem State.setPhase_rep (s : State) (x : Phase) : (s.setPhase x).rep = s.rep := rfl
@[simp] theorem State.setPhase_agent (s : State) (x : Phase) : (s.setPhase x).agent = s.agent := rfl
@[simp] theorem State.setPhase_setPhase (s : State) (x y : Phase) : (s.setPhase x).setPhase y = s.setPhase y := rfl
@[simp] theorem State.setPhase_self (s : State) : s.setPhase s.phase = s := rfl

/-! ### `State.setClock` -/

@[simp] theorem State.setClock_pending (s : State) (x : Clock) : (s.setClock x).pending = s.pending := rfl
@[simp] theorem State.setClock_phase (s : State) (x : Clock) : (s.setClock x).phase = s.phase := rfl
@[simp] theorem State.setClock_supplyGood (s : State) (x : Clock) : (s.setClock x).supplyGood = s.supplyGood := rfl
@[simp] theorem State.setClock_resetPin (s : State) (x : Clock) : (s.setClock x).resetPin = s.resetPin := rfl
@[simp] theorem State.setClock_straps (s : State) (x : Clock) : (s.setClock x).straps = s.straps := rfl
@[simp] theorem State.setClock_free (s : State) (x : Clock) : (s.setClock x).free = s.free := rfl
@[simp] theorem State.setClock_clock (s : State) (x : Clock) : (s.setClock x).clock = x := rfl
@[simp] theorem State.setClock_pulse (s : State) (x : Clock) : (s.setClock x).pulse = s.pulse := rfl
@[simp] theorem State.setClock_lines (s : State) (x : Clock) : (s.setClock x).lines = s.lines := rfl
@[simp] theorem State.setClock_cls (s : State) (x : Clock) : (s.setClock x).cls = s.cls := rfl
@[simp] theorem State.setClock_exch (s : State) (x : Clock) : (s.setClock x).exch = s.exch := rfl
@[simp] theorem State.setClock_servo (s : State) (x : Clock) : (s.setClock x).servo = s.servo := rfl
@[simp] theorem State.setClock_south (s : State) (x : Clock) : (s.setClock x).south = s.south := rfl
@[simp] theorem State.setClock_dater (s : State) (x : Clock) : (s.setClock x).dater = s.dater := rfl
@[simp] theorem State.setClock_mon (s : State) (x : Clock) : (s.setClock x).mon = s.mon := rfl
@[simp] theorem State.setClock_rep (s : State) (x : Clock) : (s.setClock x).rep = s.rep := rfl
@[simp] theorem State.setClock_agent (s : State) (x : Clock) : (s.setClock x).agent = s.agent := rfl
@[simp] theorem State.setClock_setClock (s : State) (x y : Clock) : (s.setClock x).setClock y = s.setClock y := rfl
@[simp] theorem State.setClock_self (s : State) : s.setClock s.clock = s := rfl

/-! ### `State.setPulse` -/

@[simp] theorem State.setPulse_pending (s : State) (x : PulseInput) : (s.setPulse x).pending = s.pending := rfl
@[simp] theorem State.setPulse_phase (s : State) (x : PulseInput) : (s.setPulse x).phase = s.phase := rfl
@[simp] theorem State.setPulse_supplyGood (s : State) (x : PulseInput) : (s.setPulse x).supplyGood = s.supplyGood := rfl
@[simp] theorem State.setPulse_resetPin (s : State) (x : PulseInput) : (s.setPulse x).resetPin = s.resetPin := rfl
@[simp] theorem State.setPulse_straps (s : State) (x : PulseInput) : (s.setPulse x).straps = s.straps := rfl
@[simp] theorem State.setPulse_free (s : State) (x : PulseInput) : (s.setPulse x).free = s.free := rfl
@[simp] theorem State.setPulse_clock (s : State) (x : PulseInput) : (s.setPulse x).clock = s.clock := rfl
@[simp] theorem State.setPulse_pulse (s : State) (x : PulseInput) : (s.setPulse x).pulse = x := rfl
@[simp] theorem State.setPulse_lines (s : State) (x : PulseInput) : (s.setPulse x).lines = s.lines := rfl
@[simp] theorem State.setPulse_cls (s : State) (x : PulseInput) : (s.setPulse x).cls = s.cls := rfl
@[simp] theorem State.setPulse_exch (s : State) (x : PulseInput) : (s.setPulse x).exch = s.exch := rfl
@[simp] theorem State.setPulse_servo (s : State) (x : PulseInput) : (s.setPulse x).servo = s.servo := rfl
@[simp] theorem State.setPulse_south (s : State) (x : PulseInput) : (s.setPulse x).south = s.south := rfl
@[simp] theorem State.setPulse_dater (s : State) (x : PulseInput) : (s.setPulse x).dater = s.dater := rfl
@[simp] theorem State.setPulse_mon (s : State) (x : PulseInput) : (s.setPulse x).mon = s.mon := rfl
@[simp] theorem State.setPulse_rep (s : State) (x : PulseInput) : (s.setPulse x).rep = s.rep := rfl
@[simp] theorem State.setPulse_agent (s : State) (x : PulseInput) : (s.setPulse x).agent = s.agent := rfl
@[simp] theorem State.setPulse_setPulse (s : State) (x y : PulseInput) : (s.setPulse x).setPulse y = s.setPulse y := rfl
@[simp] theorem State.setPulse_self (s : State) : s.setPulse s.pulse = s := rfl

/-! ### `State.setLines` -/

@[simp] theorem State.setLines_pending (s : State) (x : LinePair) : (s.setLines x).pending = s.pending := rfl
@[simp] theorem State.setLines_phase (s : State) (x : LinePair) : (s.setLines x).phase = s.phase := rfl
@[simp] theorem State.setLines_supplyGood (s : State) (x : LinePair) : (s.setLines x).supplyGood = s.supplyGood := rfl
@[simp] theorem State.setLines_resetPin (s : State) (x : LinePair) : (s.setLines x).resetPin = s.resetPin := rfl
@[simp] theorem State.setLines_straps (s : State) (x : LinePair) : (s.setLines x).straps = s.straps := rfl
@[simp] theorem State.setLines_free (s : State) (x : LinePair) : (s.setLines x).free = s.free := rfl
@[simp] theorem State.setLines_clock (s : State) (x : LinePair) : (s.setLines x).clock = s.clock := rfl
@[simp] theorem State.setLines_pulse (s : State) (x : LinePair) : (s.setLines x).pulse = s.pulse := rfl
@[simp] theorem State.setLines_lines (s : State) (x : LinePair) : (s.setLines x).lines = x := rfl
@[simp] theorem State.setLines_cls (s : State) (x : LinePair) : (s.setLines x).cls = s.cls := rfl
@[simp] theorem State.setLines_exch (s : State) (x : LinePair) : (s.setLines x).exch = s.exch := rfl
@[simp] theorem State.setLines_servo (s : State) (x : LinePair) : (s.setLines x).servo = s.servo := rfl
@[simp] theorem State.setLines_south (s : State) (x : LinePair) : (s.setLines x).south = s.south := rfl
@[simp] theorem State.setLines_dater (s : State) (x : LinePair) : (s.setLines x).dater = s.dater := rfl
@[simp] theorem State.setLines_mon (s : State) (x : LinePair) : (s.setLines x).mon = s.mon := rfl
@[simp] theorem State.setLines_rep (s : State) (x : LinePair) : (s.setLines x).rep = s.rep := rfl
@[simp] theorem State.setLines_agent (s : State) (x : LinePair) : (s.setLines x).agent = s.agent := rfl
@[simp] theorem State.setLines_setLines (s : State) (x y : LinePair) : (s.setLines x).setLines y = s.setLines y := rfl
@[simp] theorem State.setLines_self (s : State) : s.setLines s.lines = s := rfl

/-! ### `State.setCls` -/

@[simp] theorem State.setCls_pending (s : State) (x : Classifier) : (s.setCls x).pending = s.pending := rfl
@[simp] theorem State.setCls_phase (s : State) (x : Classifier) : (s.setCls x).phase = s.phase := rfl
@[simp] theorem State.setCls_supplyGood (s : State) (x : Classifier) : (s.setCls x).supplyGood = s.supplyGood := rfl
@[simp] theorem State.setCls_resetPin (s : State) (x : Classifier) : (s.setCls x).resetPin = s.resetPin := rfl
@[simp] theorem State.setCls_straps (s : State) (x : Classifier) : (s.setCls x).straps = s.straps := rfl
@[simp] theorem State.setCls_free (s : State) (x : Classifier) : (s.setCls x).free = s.free := rfl
@[simp] theorem State.setCls_clock (s : State) (x : Classifier) : (s.setCls x).clock = s.clock := rfl
@[simp] theorem State.setCls_pulse (s : State) (x : Classifier) : (s.setCls x).pulse = s.pulse := rfl
@[simp] theorem State.setCls_lines (s : State) (x : Classifier) : (s.setCls x).lines = s.lines := rfl
@[simp] theorem State.setCls_cls (s : State) (x : Classifier) : (s.setCls x).cls = x := rfl
@[simp] theorem State.setCls_exch (s : State) (x : Classifier) : (s.setCls x).exch = s.exch := rfl
@[simp] theorem State.setCls_servo (s : State) (x : Classifier) : (s.setCls x).servo = s.servo := rfl
@[simp] theorem State.setCls_south (s : State) (x : Classifier) : (s.setCls x).south = s.south := rfl
@[simp] theorem State.setCls_dater (s : State) (x : Classifier) : (s.setCls x).dater = s.dater := rfl
@[simp] theorem State.setCls_mon (s : State) (x : Classifier) : (s.setCls x).mon = s.mon := rfl
@[simp] theorem State.setCls_rep (s : State) (x : Classifier) : (s.setCls x).rep = s.rep := rfl
@[simp] theorem State.setCls_agent (s : State) (x : Classifier) : (s.setCls x).agent = s.agent := rfl
@[simp] theorem State.setCls_setCls (s : State) (x y : Classifier) : (s.setCls x).setCls y = s.setCls y := rfl
@[simp] theorem State.setCls_self (s : State) : s.setCls s.cls = s := rfl

/-! ### `State.setExch` -/

@[simp] theorem State.setExch_pending (s : State) (x : Exchange) : (s.setExch x).pending = s.pending := rfl
@[simp] theorem State.setExch_phase (s : State) (x : Exchange) : (s.setExch x).phase = s.phase := rfl
@[simp] theorem State.setExch_supplyGood (s : State) (x : Exchange) : (s.setExch x).supplyGood = s.supplyGood := rfl
@[simp] theorem State.setExch_resetPin (s : State) (x : Exchange) : (s.setExch x).resetPin = s.resetPin := rfl
@[simp] theorem State.setExch_straps (s : State) (x : Exchange) : (s.setExch x).straps = s.straps := rfl
@[simp] theorem State.setExch_free (s : State) (x : Exchange) : (s.setExch x).free = s.free := rfl
@[simp] theorem State.setExch_clock (s : State) (x : Exchange) : (s.setExch x).clock = s.clock := rfl
@[simp] theorem State.setExch_pulse (s : State) (x : Exchange) : (s.setExch x).pulse = s.pulse := rfl
@[simp] theorem State.setExch_lines (s : State) (x : Exchange) : (s.setExch x).lines = s.lines := rfl
@[simp] theorem State.setExch_cls (s : State) (x : Exchange) : (s.setExch x).cls = s.cls := rfl
@[simp] theorem State.setExch_exch (s : State) (x : Exchange) : (s.setExch x).exch = x := rfl
@[simp] theorem State.setExch_servo (s : State) (x : Exchange) : (s.setExch x).servo = s.servo := rfl
@[simp] theorem State.setExch_south (s : State) (x : Exchange) : (s.setExch x).south = s.south := rfl
@[simp] theorem State.setExch_dater (s : State) (x : Exchange) : (s.setExch x).dater = s.dater := rfl
@[simp] theorem State.setExch_mon (s : State) (x : Exchange) : (s.setExch x).mon = s.mon := rfl
@[simp] theorem State.setExch_rep (s : State) (x : Exchange) : (s.setExch x).rep = s.rep := rfl
@[simp] theorem State.setExch_agent (s : State) (x : Exchange) : (s.setExch x).agent = s.agent := rfl
@[simp] theorem State.setExch_setExch (s : State) (x y : Exchange) : (s.setExch x).setExch y = s.setExch y := rfl
@[simp] theorem State.setExch_self (s : State) : s.setExch s.exch = s := rfl

/-! ### `State.setServo` -/

@[simp] theorem State.setServo_pending (s : State) (x : Servo) : (s.setServo x).pending = s.pending := rfl
@[simp] theorem State.setServo_phase (s : State) (x : Servo) : (s.setServo x).phase = s.phase := rfl
@[simp] theorem State.setServo_supplyGood (s : State) (x : Servo) : (s.setServo x).supplyGood = s.supplyGood := rfl
@[simp] theorem State.setServo_resetPin (s : State) (x : Servo) : (s.setServo x).resetPin = s.resetPin := rfl
@[simp] theorem State.setServo_straps (s : State) (x : Servo) : (s.setServo x).straps = s.straps := rfl
@[simp] theorem State.setServo_free (s : State) (x : Servo) : (s.setServo x).free = s.free := rfl
@[simp] theorem State.setServo_clock (s : State) (x : Servo) : (s.setServo x).clock = s.clock := rfl
@[simp] theorem State.setServo_pulse (s : State) (x : Servo) : (s.setServo x).pulse = s.pulse := rfl
@[simp] theorem State.setServo_lines (s : State) (x : Servo) : (s.setServo x).lines = s.lines := rfl
@[simp] theorem State.setServo_cls (s : State) (x : Servo) : (s.setServo x).cls = s.cls := rfl
@[simp] theorem State.setServo_exch (s : State) (x : Servo) : (s.setServo x).exch = s.exch := rfl
@[simp] theorem State.setServo_servo (s : State) (x : Servo) : (s.setServo x).servo = x := rfl
@[simp] theorem State.setServo_south (s : State) (x : Servo) : (s.setServo x).south = s.south := rfl
@[simp] theorem State.setServo_dater (s : State) (x : Servo) : (s.setServo x).dater = s.dater := rfl
@[simp] theorem State.setServo_mon (s : State) (x : Servo) : (s.setServo x).mon = s.mon := rfl
@[simp] theorem State.setServo_rep (s : State) (x : Servo) : (s.setServo x).rep = s.rep := rfl
@[simp] theorem State.setServo_agent (s : State) (x : Servo) : (s.setServo x).agent = s.agent := rfl
@[simp] theorem State.setServo_setServo (s : State) (x y : Servo) : (s.setServo x).setServo y = s.setServo y := rfl
@[simp] theorem State.setServo_self (s : State) : s.setServo s.servo = s := rfl

/-! ### `State.setSouth` -/

@[simp] theorem State.setSouth_pending (s : State) (x : SouthServer) : (s.setSouth x).pending = s.pending := rfl
@[simp] theorem State.setSouth_phase (s : State) (x : SouthServer) : (s.setSouth x).phase = s.phase := rfl
@[simp] theorem State.setSouth_supplyGood (s : State) (x : SouthServer) : (s.setSouth x).supplyGood = s.supplyGood := rfl
@[simp] theorem State.setSouth_resetPin (s : State) (x : SouthServer) : (s.setSouth x).resetPin = s.resetPin := rfl
@[simp] theorem State.setSouth_straps (s : State) (x : SouthServer) : (s.setSouth x).straps = s.straps := rfl
@[simp] theorem State.setSouth_free (s : State) (x : SouthServer) : (s.setSouth x).free = s.free := rfl
@[simp] theorem State.setSouth_clock (s : State) (x : SouthServer) : (s.setSouth x).clock = s.clock := rfl
@[simp] theorem State.setSouth_pulse (s : State) (x : SouthServer) : (s.setSouth x).pulse = s.pulse := rfl
@[simp] theorem State.setSouth_lines (s : State) (x : SouthServer) : (s.setSouth x).lines = s.lines := rfl
@[simp] theorem State.setSouth_cls (s : State) (x : SouthServer) : (s.setSouth x).cls = s.cls := rfl
@[simp] theorem State.setSouth_exch (s : State) (x : SouthServer) : (s.setSouth x).exch = s.exch := rfl
@[simp] theorem State.setSouth_servo (s : State) (x : SouthServer) : (s.setSouth x).servo = s.servo := rfl
@[simp] theorem State.setSouth_south (s : State) (x : SouthServer) : (s.setSouth x).south = x := rfl
@[simp] theorem State.setSouth_dater (s : State) (x : SouthServer) : (s.setSouth x).dater = s.dater := rfl
@[simp] theorem State.setSouth_mon (s : State) (x : SouthServer) : (s.setSouth x).mon = s.mon := rfl
@[simp] theorem State.setSouth_rep (s : State) (x : SouthServer) : (s.setSouth x).rep = s.rep := rfl
@[simp] theorem State.setSouth_agent (s : State) (x : SouthServer) : (s.setSouth x).agent = s.agent := rfl
@[simp] theorem State.setSouth_setSouth (s : State) (x y : SouthServer) : (s.setSouth x).setSouth y = s.setSouth y := rfl
@[simp] theorem State.setSouth_self (s : State) : s.setSouth s.south = s := rfl

/-! ### `State.setDater` -/

@[simp] theorem State.setDater_pending (s : State) (x : Dater) : (s.setDater x).pending = s.pending := rfl
@[simp] theorem State.setDater_phase (s : State) (x : Dater) : (s.setDater x).phase = s.phase := rfl
@[simp] theorem State.setDater_supplyGood (s : State) (x : Dater) : (s.setDater x).supplyGood = s.supplyGood := rfl
@[simp] theorem State.setDater_resetPin (s : State) (x : Dater) : (s.setDater x).resetPin = s.resetPin := rfl
@[simp] theorem State.setDater_straps (s : State) (x : Dater) : (s.setDater x).straps = s.straps := rfl
@[simp] theorem State.setDater_free (s : State) (x : Dater) : (s.setDater x).free = s.free := rfl
@[simp] theorem State.setDater_clock (s : State) (x : Dater) : (s.setDater x).clock = s.clock := rfl
@[simp] theorem State.setDater_pulse (s : State) (x : Dater) : (s.setDater x).pulse = s.pulse := rfl
@[simp] theorem State.setDater_lines (s : State) (x : Dater) : (s.setDater x).lines = s.lines := rfl
@[simp] theorem State.setDater_cls (s : State) (x : Dater) : (s.setDater x).cls = s.cls := rfl
@[simp] theorem State.setDater_exch (s : State) (x : Dater) : (s.setDater x).exch = s.exch := rfl
@[simp] theorem State.setDater_servo (s : State) (x : Dater) : (s.setDater x).servo = s.servo := rfl
@[simp] theorem State.setDater_south (s : State) (x : Dater) : (s.setDater x).south = s.south := rfl
@[simp] theorem State.setDater_dater (s : State) (x : Dater) : (s.setDater x).dater = x := rfl
@[simp] theorem State.setDater_mon (s : State) (x : Dater) : (s.setDater x).mon = s.mon := rfl
@[simp] theorem State.setDater_rep (s : State) (x : Dater) : (s.setDater x).rep = s.rep := rfl
@[simp] theorem State.setDater_agent (s : State) (x : Dater) : (s.setDater x).agent = s.agent := rfl
@[simp] theorem State.setDater_setDater (s : State) (x y : Dater) : (s.setDater x).setDater y = s.setDater y := rfl
@[simp] theorem State.setDater_self (s : State) : s.setDater s.dater = s := rfl

/-! ### `State.setMon` -/

@[simp] theorem State.setMon_pending (s : State) (x : Monitor) : (s.setMon x).pending = s.pending := rfl
@[simp] theorem State.setMon_phase (s : State) (x : Monitor) : (s.setMon x).phase = s.phase := rfl
@[simp] theorem State.setMon_supplyGood (s : State) (x : Monitor) : (s.setMon x).supplyGood = s.supplyGood := rfl
@[simp] theorem State.setMon_resetPin (s : State) (x : Monitor) : (s.setMon x).resetPin = s.resetPin := rfl
@[simp] theorem State.setMon_straps (s : State) (x : Monitor) : (s.setMon x).straps = s.straps := rfl
@[simp] theorem State.setMon_free (s : State) (x : Monitor) : (s.setMon x).free = s.free := rfl
@[simp] theorem State.setMon_clock (s : State) (x : Monitor) : (s.setMon x).clock = s.clock := rfl
@[simp] theorem State.setMon_pulse (s : State) (x : Monitor) : (s.setMon x).pulse = s.pulse := rfl
@[simp] theorem State.setMon_lines (s : State) (x : Monitor) : (s.setMon x).lines = s.lines := rfl
@[simp] theorem State.setMon_cls (s : State) (x : Monitor) : (s.setMon x).cls = s.cls := rfl
@[simp] theorem State.setMon_exch (s : State) (x : Monitor) : (s.setMon x).exch = s.exch := rfl
@[simp] theorem State.setMon_servo (s : State) (x : Monitor) : (s.setMon x).servo = s.servo := rfl
@[simp] theorem State.setMon_south (s : State) (x : Monitor) : (s.setMon x).south = s.south := rfl
@[simp] theorem State.setMon_dater (s : State) (x : Monitor) : (s.setMon x).dater = s.dater := rfl
@[simp] theorem State.setMon_mon (s : State) (x : Monitor) : (s.setMon x).mon = x := rfl
@[simp] theorem State.setMon_rep (s : State) (x : Monitor) : (s.setMon x).rep = s.rep := rfl
@[simp] theorem State.setMon_agent (s : State) (x : Monitor) : (s.setMon x).agent = s.agent := rfl
@[simp] theorem State.setMon_setMon (s : State) (x y : Monitor) : (s.setMon x).setMon y = s.setMon y := rfl
@[simp] theorem State.setMon_self (s : State) : s.setMon s.mon = s := rfl

/-! ### `State.setRep` -/

@[simp] theorem State.setRep_pending (s : State) (x : ReportEngine) : (s.setRep x).pending = s.pending := rfl
@[simp] theorem State.setRep_phase (s : State) (x : ReportEngine) : (s.setRep x).phase = s.phase := rfl
@[simp] theorem State.setRep_supplyGood (s : State) (x : ReportEngine) : (s.setRep x).supplyGood = s.supplyGood := rfl
@[simp] theorem State.setRep_resetPin (s : State) (x : ReportEngine) : (s.setRep x).resetPin = s.resetPin := rfl
@[simp] theorem State.setRep_straps (s : State) (x : ReportEngine) : (s.setRep x).straps = s.straps := rfl
@[simp] theorem State.setRep_free (s : State) (x : ReportEngine) : (s.setRep x).free = s.free := rfl
@[simp] theorem State.setRep_clock (s : State) (x : ReportEngine) : (s.setRep x).clock = s.clock := rfl
@[simp] theorem State.setRep_pulse (s : State) (x : ReportEngine) : (s.setRep x).pulse = s.pulse := rfl
@[simp] theorem State.setRep_lines (s : State) (x : ReportEngine) : (s.setRep x).lines = s.lines := rfl
@[simp] theorem State.setRep_cls (s : State) (x : ReportEngine) : (s.setRep x).cls = s.cls := rfl
@[simp] theorem State.setRep_exch (s : State) (x : ReportEngine) : (s.setRep x).exch = s.exch := rfl
@[simp] theorem State.setRep_servo (s : State) (x : ReportEngine) : (s.setRep x).servo = s.servo := rfl
@[simp] theorem State.setRep_south (s : State) (x : ReportEngine) : (s.setRep x).south = s.south := rfl
@[simp] theorem State.setRep_dater (s : State) (x : ReportEngine) : (s.setRep x).dater = s.dater := rfl
@[simp] theorem State.setRep_mon (s : State) (x : ReportEngine) : (s.setRep x).mon = s.mon := rfl
@[simp] theorem State.setRep_rep (s : State) (x : ReportEngine) : (s.setRep x).rep = x := rfl
@[simp] theorem State.setRep_agent (s : State) (x : ReportEngine) : (s.setRep x).agent = s.agent := rfl
@[simp] theorem State.setRep_setRep (s : State) (x y : ReportEngine) : (s.setRep x).setRep y = s.setRep y := rfl
@[simp] theorem State.setRep_self (s : State) : s.setRep s.rep = s := rfl

/-! ### `State.setAgent` -/

@[simp] theorem State.setAgent_pending (s : State) (x : Agent) : (s.setAgent x).pending = s.pending := rfl
@[simp] theorem State.setAgent_phase (s : State) (x : Agent) : (s.setAgent x).phase = s.phase := rfl
@[simp] theorem State.setAgent_supplyGood (s : State) (x : Agent) : (s.setAgent x).supplyGood = s.supplyGood := rfl
@[simp] theorem State.setAgent_resetPin (s : State) (x : Agent) : (s.setAgent x).resetPin = s.resetPin := rfl
@[simp] theorem State.setAgent_straps (s : State) (x : Agent) : (s.setAgent x).straps = s.straps := rfl
@[simp] theorem State.setAgent_free (s : State) (x : Agent) : (s.setAgent x).free = s.free := rfl
@[simp] theorem State.setAgent_clock (s : State) (x : Agent) : (s.setAgent x).clock = s.clock := rfl
@[simp] theorem State.setAgent_pulse (s : State) (x : Agent) : (s.setAgent x).pulse = s.pulse := rfl
@[simp] theorem State.setAgent_lines (s : State) (x : Agent) : (s.setAgent x).lines = s.lines := rfl
@[simp] theorem State.setAgent_cls (s : State) (x : Agent) : (s.setAgent x).cls = s.cls := rfl
@[simp] theorem State.setAgent_exch (s : State) (x : Agent) : (s.setAgent x).exch = s.exch := rfl
@[simp] theorem State.setAgent_servo (s : State) (x : Agent) : (s.setAgent x).servo = s.servo := rfl
@[simp] theorem State.setAgent_south (s : State) (x : Agent) : (s.setAgent x).south = s.south := rfl
@[simp] theorem State.setAgent_dater (s : State) (x : Agent) : (s.setAgent x).dater = s.dater := rfl
@[simp] theorem State.setAgent_mon (s : State) (x : Agent) : (s.setAgent x).mon = s.mon := rfl
@[simp] theorem State.setAgent_rep (s : State) (x : Agent) : (s.setAgent x).rep = s.rep := rfl
@[simp] theorem State.setAgent_agent (s : State) (x : Agent) : (s.setAgent x).agent = x := rfl
@[simp] theorem State.setAgent_setAgent (s : State) (x y : Agent) : (s.setAgent x).setAgent y = s.setAgent y := rfl
@[simp] theorem State.setAgent_self (s : State) : s.setAgent s.agent = s := rfl

/-! ### `State.setPending` -/

@[simp] theorem State.setPending_pending (s : State) (x : List Instr) : (s.setPending x).pending = x := rfl
@[simp] theorem State.setPending_phase (s : State) (x : List Instr) : (s.setPending x).phase = s.phase := rfl
@[simp] theorem State.setPending_supplyGood (s : State) (x : List Instr) : (s.setPending x).supplyGood = s.supplyGood := rfl
@[simp] theorem State.setPending_resetPin (s : State) (x : List Instr) : (s.setPending x).resetPin = s.resetPin := rfl
@[simp] theorem State.setPending_straps (s : State) (x : List Instr) : (s.setPending x).straps = s.straps := rfl
@[simp] theorem State.setPending_free (s : State) (x : List Instr) : (s.setPending x).free = s.free := rfl
@[simp] theorem State.setPending_clock (s : State) (x : List Instr) : (s.setPending x).clock = s.clock := rfl
@[simp] theorem State.setPending_pulse (s : State) (x : List Instr) : (s.setPending x).pulse = s.pulse := rfl
@[simp] theorem State.setPending_lines (s : State) (x : List Instr) : (s.setPending x).lines = s.lines := rfl
@[simp] theorem State.setPending_cls (s : State) (x : List Instr) : (s.setPending x).cls = s.cls := rfl
@[simp] theorem State.setPending_exch (s : State) (x : List Instr) : (s.setPending x).exch = s.exch := rfl
@[simp] theorem State.setPending_servo (s : State) (x : List Instr) : (s.setPending x).servo = s.servo := rfl
@[simp] theorem State.setPending_south (s : State) (x : List Instr) : (s.setPending x).south = s.south := rfl
@[simp] theorem State.setPending_dater (s : State) (x : List Instr) : (s.setPending x).dater = s.dater := rfl
@[simp] theorem State.setPending_mon (s : State) (x : List Instr) : (s.setPending x).mon = s.mon := rfl
@[simp] theorem State.setPending_rep (s : State) (x : List Instr) : (s.setPending x).rep = s.rep := rfl
@[simp] theorem State.setPending_agent (s : State) (x : List Instr) : (s.setPending x).agent = s.agent := rfl
@[simp] theorem State.setPending_setPending (s : State) (x y : List Instr) : (s.setPending x).setPending y = s.setPending y := rfl
@[simp] theorem State.setPending_self (s : State) : s.setPending s.pending = s := rfl

/-! ### Lines -/

@[simp] theorem State.setLine_pending (s : State) (l : Line) (x : LineState) : (s.setLine l x).pending = s.pending := rfl
@[simp] theorem State.setLine_phase (s : State) (l : Line) (x : LineState) : (s.setLine l x).phase = s.phase := rfl
@[simp] theorem State.setLine_supplyGood (s : State) (l : Line) (x : LineState) : (s.setLine l x).supplyGood = s.supplyGood := rfl
@[simp] theorem State.setLine_resetPin (s : State) (l : Line) (x : LineState) : (s.setLine l x).resetPin = s.resetPin := rfl
@[simp] theorem State.setLine_straps (s : State) (l : Line) (x : LineState) : (s.setLine l x).straps = s.straps := rfl
@[simp] theorem State.setLine_free (s : State) (l : Line) (x : LineState) : (s.setLine l x).free = s.free := rfl
@[simp] theorem State.setLine_clock (s : State) (l : Line) (x : LineState) : (s.setLine l x).clock = s.clock := rfl
@[simp] theorem State.setLine_pulse (s : State) (l : Line) (x : LineState) : (s.setLine l x).pulse = s.pulse := rfl
@[simp] theorem State.setLine_cls (s : State) (l : Line) (x : LineState) : (s.setLine l x).cls = s.cls := rfl
@[simp] theorem State.setLine_exch (s : State) (l : Line) (x : LineState) : (s.setLine l x).exch = s.exch := rfl
@[simp] theorem State.setLine_servo (s : State) (l : Line) (x : LineState) : (s.setLine l x).servo = s.servo := rfl
@[simp] theorem State.setLine_south (s : State) (l : Line) (x : LineState) : (s.setLine l x).south = s.south := rfl
@[simp] theorem State.setLine_dater (s : State) (l : Line) (x : LineState) : (s.setLine l x).dater = s.dater := rfl
@[simp] theorem State.setLine_mon (s : State) (l : Line) (x : LineState) : (s.setLine l x).mon = s.mon := rfl
@[simp] theorem State.setLine_rep (s : State) (l : Line) (x : LineState) : (s.setLine l x).rep = s.rep := rfl
@[simp] theorem State.setLine_agent (s : State) (l : Line) (x : LineState) : (s.setLine l x).agent = s.agent := rfl
@[simp] theorem LinePair.setAt_mode (p : LinePair) (l : Line) (x : LineState) : (p.setAt l x).mode = p.mode := by
  cases l <;> rfl
@[simp] theorem LinePair.setAt_injectionLimit (p : LinePair) (l : Line) (x : LineState) : (p.setAt l x).injectionLimit = p.injectionLimit := by
  cases l <;> rfl
@[simp] theorem LinePair.setAt_transitCorrection (p : LinePair) (l : Line) (x : LineState) : (p.setAt l x).transitCorrection = p.transitCorrection := by
  cases l <;> rfl
@[simp] theorem LinePair.setAt_timingType (p : LinePair) (l : Line) (x : LineState) : (p.setAt l x).timingType = p.timingType := by
  cases l <;> rfl
@[simp] theorem LinePair.setAt_managementType (p : LinePair) (l : Line) (x : LineState) : (p.setAt l x).managementType = p.managementType := by
  cases l <;> rfl
@[simp] theorem LinePair.at_setAt (p : LinePair) (l : Line) (x : LineState) : (p.setAt l x).at l = x := by
  cases l <;> rfl
theorem LinePair.at_setAt_of_ne (p : LinePair) (l m : Line) (x : LineState) (h : m ≠ l) : (p.setAt l x).at m = p.at m := by
  cases l <;> cases m <;> first | rfl | exact absurd rfl h
@[simp] theorem Line.other_ne (l : Line) : l.other ≠ l := by cases l <;> decide
@[simp] theorem Line.ne_other (l : Line) : l ≠ l.other := by cases l <;> decide
@[simp] theorem Line.other_other (l : Line) : l.other.other = l := by cases l <;> rfl
@[simp] theorem State.setLine_lines (s : State) (l : Line) (x : LineState) : (s.setLine l x).lines = s.lines.setAt l x := rfl
@[simp] theorem State.lineAt_setLine (s : State) (l : Line) (x : LineState) : (s.setLine l x).lineAt l = x :=
  LinePair.at_setAt _ _ _
theorem State.lineAt_setLine_of_ne (s : State) (l m : Line) (x : LineState) (h : m ≠ l) :
    (s.setLine l x).lineAt m = s.lineAt m := LinePair.at_setAt_of_ne _ _ _ _ h
@[simp] theorem State.setLine_setLine (s : State) (l : Line) (x y : LineState) :
    (s.setLine l x).setLine l y = s.setLine l y := by
  cases l <;> rfl
@[simp] theorem State.lineAt_setLine_other (s : State) (l : Line) (x : LineState) :
    (s.setLine l x).lineAt l.other = s.lineAt l.other := State.lineAt_setLine_of_ne _ _ _ _ (Line.other_ne l)
@[simp] theorem State.lineAt_other_setLine (s : State) (l : Line) (x : LineState) :
    (s.setLine l.other x).lineAt l = s.lineAt l := State.lineAt_setLine_of_ne _ _ _ _ (Line.ne_other l)

@[simp] theorem State.lineAt_setPhase (s : State) (x : Phase) (l : Line) : (s.setPhase x).lineAt l = s.lineAt l := rfl
@[simp] theorem State.lineAt_setClock (s : State) (x : Clock) (l : Line) : (s.setClock x).lineAt l = s.lineAt l := rfl
@[simp] theorem State.lineAt_setPulse (s : State) (x : PulseInput) (l : Line) : (s.setPulse x).lineAt l = s.lineAt l := rfl
@[simp] theorem State.lineAt_setCls (s : State) (x : Classifier) (l : Line) : (s.setCls x).lineAt l = s.lineAt l := rfl
@[simp] theorem State.lineAt_setExch (s : State) (x : Exchange) (l : Line) : (s.setExch x).lineAt l = s.lineAt l := rfl
@[simp] theorem State.lineAt_setServo (s : State) (x : Servo) (l : Line) : (s.setServo x).lineAt l = s.lineAt l := rfl
@[simp] theorem State.lineAt_setSouth (s : State) (x : SouthServer) (l : Line) : (s.setSouth x).lineAt l = s.lineAt l := rfl
@[simp] theorem State.lineAt_setDater (s : State) (x : Dater) (l : Line) : (s.setDater x).lineAt l = s.lineAt l := rfl
@[simp] theorem State.lineAt_setMon (s : State) (x : Monitor) (l : Line) : (s.setMon x).lineAt l = s.lineAt l := rfl
@[simp] theorem State.lineAt_setRep (s : State) (x : ReportEngine) (l : Line) : (s.setRep x).lineAt l = s.lineAt l := rfl
@[simp] theorem State.lineAt_setAgent (s : State) (x : Agent) (l : Line) : (s.setAgent x).lineAt l = s.lineAt l := rfl
@[simp] theorem State.lineAt_setPending (s : State) (x : List Instr) (l : Line) : (s.setPending x).lineAt l = s.lineAt l := rfl

end Sys2Proof.Machine
end

