-- ==== Sys2Proof/Laws/Running.lean ====
section
/-! SUPPORT. What running, and the taking of an expiry, can do (R1, R2, R161). -/

namespace Sys2Proof.Machine

/-! ### Running changes the clock and the pulse lines' scheduled starts, and nothing else -/

@[simp] theorem State.runFor_frame (s : State) (dt : Nat) :
    (s.runFor dt).pending = s.pending ∧ (s.runFor dt).phase = s.phase ∧ (s.runFor dt).supplyGood = s.supplyGood ∧
      (s.runFor dt).resetPin = s.resetPin ∧ (s.runFor dt).straps = s.straps ∧ (s.runFor dt).free = s.free ∧
      (s.runFor dt).pulse = s.pulse ∧ (s.runFor dt).lines = s.lines ∧ (s.runFor dt).cls = s.cls ∧
      (s.runFor dt).exch = s.exch ∧ (s.runFor dt).servo = s.servo ∧ (s.runFor dt).south = s.south ∧
      (s.runFor dt).dater = s.dater ∧ (s.runFor dt).mon = s.mon ∧ (s.runFor dt).agent = s.agent :=
  ⟨rfl, rfl, rfl, rfl, rfl, rfl, rfl, rfl, rfl, rfl, rfl, rfl, rfl, rfl, rfl⟩

@[simp] theorem State.runFor_clock (s : State) (dt : Nat) : (s.runFor dt).clock = s.clock.advance dt := rfl

@[simp] theorem State.runFor_rep (s : State) (dt : Nat) :
    (s.runFor dt).rep = { s.rep with pulseLines := s.rep.pulseLines.map (·.advance (s.clock.gain dt)) } := rfl

@[simp] theorem State.runBy_frame (s : State) (dt : Nat) :
    (s.runBy dt).pending = s.pending ∧ (s.runBy dt).phase = s.phase ∧ (s.runBy dt).supplyGood = s.supplyGood ∧
      (s.runBy dt).resetPin = s.resetPin ∧ (s.runBy dt).straps = s.straps ∧ (s.runBy dt).free = s.free ∧
      (s.runBy dt).pulse = s.pulse ∧ (s.runBy dt).lines = s.lines ∧ (s.runBy dt).cls = s.cls ∧
      (s.runBy dt).exch = s.exch ∧ (s.runBy dt).servo = s.servo ∧ (s.runBy dt).south = s.south ∧
      (s.runBy dt).dater = s.dater ∧ (s.runBy dt).mon = s.mon ∧ (s.runBy dt).agent = s.agent :=
  State.runFor_frame s _

@[simp] theorem Clock.advance_frame (c : Clock) (dt : Nat) :
    (c.advance dt).rateA = c.rateA ∧ (c.advance dt).integI = c.integI ∧ (c.advance dt).runCounter = c.runCounter ∧
      (c.advance dt).tickAt = c.tickAt ∧ (c.advance dt).osc = c.osc + dt := ⟨rfl, rfl, rfl, rfl, rfl⟩

@[simp] theorem State.runBy_clock_frame (s : State) (dt : Nat) :
    (s.runBy dt).clock.rateA = s.clock.rateA ∧ (s.runBy dt).clock.integI = s.clock.integI ∧
      (s.runBy dt).clock.runCounter = s.clock.runCounter ∧ (s.runBy dt).clock.tickAt = s.clock.tickAt :=
  ⟨rfl, rfl, rfl, rfl⟩

@[simp] theorem State.runBy_rep_frame (s : State) (dt : Nat) :
    (s.runBy dt).rep.notices = s.rep.notices ∧ (s.runBy dt).rep.collector = s.rep.collector ∧
      (s.runBy dt).rep.collectorLine = s.rep.collectorLine ∧ (s.runBy dt).rep.dateGap = s.rep.dateGap ∧
      (s.runBy dt).rep.noticeOverflow = s.rep.noticeOverflow ∧ (s.runBy dt).rep.summarySeq = s.rep.summarySeq :=
  ⟨rfl, rfl, rfl, rfl, rfl, rfl⟩

@[simp] theorem State.lineAt_runBy (s : State) (dt : Nat) (l : Line) : (s.runBy dt).lineAt l = s.lineAt l := rfl

@[simp] theorem State.lineAt_runFor (s : State) (dt : Nat) (l : Line) : (s.runFor dt).lineAt l = s.lineAt l := rfl

@[simp] theorem State.hasPlace_runBy (s : State) (dt : Nat) (l : Line) : (s.runBy dt).hasPlace l = s.hasPlace l := rfl

@[simp] theorem State.currentItem_runBy (s : State) (dt : Nat) : (s.runBy dt).currentItem = s.currentItem := rfl

@[simp] theorem State.headRequest_runBy (s : State) (dt : Nat) : (s.runBy dt).headRequest = s.headRequest := rfl

@[simp] theorem State.configured_runBy (s : State) (dt : Nat) (r : Ref) :
    (s.runBy dt).configured r = s.configured r := rfl

@[simp] theorem State.available_runBy (s : State) (dt : Nat) (r : Ref) :
    (s.runBy dt).available r = s.available r := rfl

/-! ### Expiries -/

/-- An expiry taken at a distance does its effect after running that far, or nothing happens. -/
theorem State.takeAt_eq (s : State) (d : Nat) (f : State → State) :
    s.takeAt d f = s ∨ (d ≤ s.slack ∧ s.takeAt d f = f (s.runFor d)) := by
  unfold State.takeAt; split
  · exact .inr ⟨by assumption, rfl⟩
  · exact .inl rfl

theorem State.takeAt_of_le (s : State) (d : Nat) (f : State → State) (h : d ≤ s.slack) :
    s.takeAt d f = f (s.runFor d) := if_pos h

/-- An expiry that is due does its effect, while no reset is in progress; otherwise nothing happens. -/
theorem State.takeIf_eq (s : State) (due : Bool) (f : State → State) :
    s.takeIf due f = s ∨ (s.phase = .running ∧ due = true ∧ s.takeIf due f = f s) := by
  unfold State.takeIf; split
  · rename_i h; exact .inr ⟨h.1, h.2, rfl⟩
  · exact .inl rfl

theorem State.takeIf_of_due (s : State) (due : Bool) (f : State → State) (p : s.phase = .running) (h : due = true) :
    s.takeIf due f = f s := if_pos ⟨p, h⟩

/-- A timed expiry does its effect after running to it, or nothing happens. -/
theorem State.takeTimed_eq (s : State) (d : Option Nat) (f : State → State) :
    s.takeTimed d f = s ∨
      ∃ n, d = some n ∧ s.phase = .running ∧ n ≤ s.slack ∧ s.takeTimed d f = f (s.runFor n) := by
  cases d with
  | none => exact .inl rfl
  | some n =>
    by_cases p : s.phase = .running
    · rcases State.takeAt_eq s n f with h | ⟨hn, h⟩
      · exact .inl (by simp [State.takeTimed, p, h])
      · exact .inr ⟨n, rfl, p, hn, by simp [State.takeTimed, p, h]⟩
    · exact .inl (by simp [State.takeTimed, p])

theorem State.takeTimed_of_le (s : State) (n : Nat) (f : State → State) (p : s.phase = .running) (h : n ≤ s.slack) :
    s.takeTimed (some n) f = f (s.runFor n) := by
  simp [State.takeTimed, p, State.takeAt_of_le s n f h]

/-- The boundary is reached after running to it, or nothing happens. -/
theorem State.takeBoundary_eq (s : State) :
    s.takeBoundary = s ∨ s.takeBoundary = (s.runFor s.clock.boundaryIn).reachBoundary := by
  unfold State.takeBoundary; split
  · exact .inr rfl
  · exact .inl rfl

end Sys2Proof.Machine
end

