-- ==== Sys2Proof/Laws/Frames.lean ====
section
/-! SUPPORT. Which blocks each shared operation leaves as they are: one lemma for each operation, in simp's hands. -/

namespace Sys2Proof.Machine

/-! ### The shared operations (Ops) -/

@[simp] theorem State.transition_frame (s : State) (a : Subject) (b c : SubjectState) (d : Snapshot) :
    (s.transition a b c d).pending = s.pending ∧ (s.transition a b c d).phase = s.phase ∧ (s.transition a b c d).supplyGood = s.supplyGood ∧
      (s.transition a b c d).resetPin = s.resetPin ∧ (s.transition a b c d).straps = s.straps ∧ (s.transition a b c d).free = s.free ∧
      (s.transition a b c d).clock = s.clock ∧ (s.transition a b c d).pulse = s.pulse ∧ (s.transition a b c d).lines = s.lines ∧
      (s.transition a b c d).cls = s.cls ∧ (s.transition a b c d).exch = s.exch ∧ (s.transition a b c d).servo = s.servo ∧
      (s.transition a b c d).south = s.south ∧ (s.transition a b c d).dater = s.dater ∧ (s.transition a b c d).mon = s.mon ∧
      (s.transition a b c d).agent = s.agent := by simp [State.transition]

@[simp] theorem State.pick_frame (s : State) (line : Line) :
    (s.pick line).pending = s.pending ∧ (s.pick line).phase = s.phase ∧ (s.pick line).supplyGood = s.supplyGood ∧
      (s.pick line).resetPin = s.resetPin ∧ (s.pick line).straps = s.straps ∧ (s.pick line).free = s.free ∧
      (s.pick line).clock = s.clock ∧ (s.pick line).pulse = s.pulse ∧ (s.pick line).cls = s.cls ∧
      (s.pick line).exch = s.exch ∧ (s.pick line).servo = s.servo ∧ (s.pick line).south = s.south ∧
      (s.pick line).dater = s.dater ∧ (s.pick line).mon = s.mon ∧ (s.pick line).rep = s.rep ∧
      (s.pick line).agent = s.agent := by
  simp [State.pick]

@[simp] theorem State.pickIfIdle_frame (s : State) (line : Line) :
    (s.pickIfIdle line).pending = s.pending ∧ (s.pickIfIdle line).phase = s.phase ∧ (s.pickIfIdle line).supplyGood = s.supplyGood ∧
      (s.pickIfIdle line).resetPin = s.resetPin ∧ (s.pickIfIdle line).straps = s.straps ∧ (s.pickIfIdle line).free = s.free ∧
      (s.pickIfIdle line).clock = s.clock ∧ (s.pickIfIdle line).pulse = s.pulse ∧ (s.pickIfIdle line).cls = s.cls ∧
      (s.pickIfIdle line).exch = s.exch ∧ (s.pickIfIdle line).servo = s.servo ∧ (s.pickIfIdle line).south = s.south ∧
      (s.pickIfIdle line).dater = s.dater ∧ (s.pickIfIdle line).mon = s.mon ∧ (s.pickIfIdle line).rep = s.rep ∧
      (s.pickIfIdle line).agent = s.agent := by
  unfold State.pickIfIdle; (repeat' split) <;> simp

@[simp] theorem State.repick_frame (s : State) (line : Line) :
    (s.repick line).pending = s.pending ∧ (s.repick line).phase = s.phase ∧ (s.repick line).supplyGood = s.supplyGood ∧
      (s.repick line).resetPin = s.resetPin ∧ (s.repick line).straps = s.straps ∧ (s.repick line).free = s.free ∧
      (s.repick line).clock = s.clock ∧ (s.repick line).pulse = s.pulse ∧ (s.repick line).cls = s.cls ∧
      (s.repick line).exch = s.exch ∧ (s.repick line).servo = s.servo ∧ (s.repick line).south = s.south ∧
      (s.repick line).dater = s.dater ∧ (s.repick line).mon = s.mon ∧ (s.repick line).rep = s.rep ∧
      (s.repick line).agent = s.agent := by
  unfold State.repick; (repeat' split) <;> simp

@[simp] theorem State.pickAtJoining_frame (s : State) (line : Line) :
    (s.pickAtJoining line).pending = s.pending ∧ (s.pickAtJoining line).phase = s.phase ∧ (s.pickAtJoining line).supplyGood = s.supplyGood ∧
      (s.pickAtJoining line).resetPin = s.resetPin ∧ (s.pickAtJoining line).straps = s.straps ∧ (s.pickAtJoining line).free = s.free ∧
      (s.pickAtJoining line).clock = s.clock ∧ (s.pickAtJoining line).pulse = s.pulse ∧ (s.pickAtJoining line).cls = s.cls ∧
      (s.pickAtJoining line).exch = s.exch ∧ (s.pickAtJoining line).servo = s.servo ∧ (s.pickAtJoining line).south = s.south ∧
      (s.pickAtJoining line).dater = s.dater ∧ (s.pickAtJoining line).mon = s.mon ∧ (s.pickAtJoining line).rep = s.rep ∧
      (s.pickAtJoining line).agent = s.agent := by
  unfold State.pickAtJoining; (repeat' split) <;> simp

@[simp] theorem State.join_frame (s : State) (line : Line) (f : OwnFrame) :
    (s.join line f).pending = s.pending ∧ (s.join line f).phase = s.phase ∧ (s.join line f).supplyGood = s.supplyGood ∧
      (s.join line f).resetPin = s.resetPin ∧ (s.join line f).straps = s.straps ∧ (s.join line f).free = s.free ∧
      (s.join line f).clock = s.clock ∧ (s.join line f).pulse = s.pulse ∧ (s.join line f).cls = s.cls ∧
      (s.join line f).exch = s.exch ∧ (s.join line f).servo = s.servo ∧ (s.join line f).south = s.south ∧
      (s.join line f).dater = s.dater ∧ (s.join line f).mon = s.mon ∧ (s.join line f).rep = s.rep ∧
      (s.join line f).agent = s.agent := by simp [State.join]

/-- One of two alternatives gives what their choice gives. -/
theorem orElse_some {α : Type} {a b : Option α} {x : α} (h : (a <|> b) = some x) : a = some x ∨ b = some x := by
  cases a with
  | none => exact .inr (by simpa using h)
  | some y => exact .inl (by simpa using h)

/-- The waiting frame that an offer gives up comes from one of the six blocks that can wait (R32). -/
theorem State.offer_cases {s s' : State} {line : Line} {f : OwnFrame} (h : s.offer line = some (f, s')) :
    s.takeReply = some (f, s') ∨ s.takeGrade = some (f, s') ∨ s.takeQuery = some (f, s') ∨
      s.takeNotice = some (f, s') ∨ s.takeDateReport = some (f, s') ∨ s.takeSummary = some (f, s') := by
  unfold State.offer at h
  rcases orElse_some h with h | h
  · cases line with
    | north => exact .inr (.inr (.inl h))
    | south =>
      rcases orElse_some h with h | h
      · exact .inl h
      · exact .inr (.inl h)
  · split at h
    · rcases orElse_some h with h | h
      · exact .inr (.inr (.inr (.inl h)))
      · rcases orElse_some h with h | h
        · exact .inr (.inr (.inr (.inr (.inl h))))
        · exact .inr (.inr (.inr (.inr (.inr h))))
    · cases h

/-- What each of the six gives up, and what it becomes. -/
theorem State.takeReply_eq {s s' : State} {f : OwnFrame} (h : s.takeReply = some (f, s')) :
    ∃ e rest, s.south.queue = e :: rest ∧ f = s.buildReply e ∧ s' = s.setSouth { s.south with queue := rest } := by
  unfold State.takeReply at h
  split at h
  · rename_i e rest hq; cases h; exact ⟨e, rest, hq, rfl, rfl⟩
  · cases h

theorem State.takeQuery_eq {s s' : State} {f : OwnFrame} (h : s.takeQuery = some (f, s')) :
    s.exch.waitingQuery = some f ∧ s' = s.setExch { s.exch with waitingQuery := none } := by
  unfold State.takeQuery at h
  cases hq : s.exch.waitingQuery with
  | none => simp [hq] at h
  | some g =>
    simp only [hq, Option.map_some, Option.some.injEq, Prod.mk.injEq] at h
    exact ⟨by rw [h.1], h.2.symm⟩

theorem State.takeGrade_eq {s s' : State} {f : OwnFrame} (h : s.takeGrade = some (f, s')) :
    s.south.waitingGrade = some f ∧ s' = s.setSouth { s.south with waitingGrade := none } := by
  unfold State.takeGrade at h
  cases hq : s.south.waitingGrade with
  | none => simp [hq] at h
  | some g =>
    simp only [hq, Option.map_some, Option.some.injEq, Prod.mk.injEq] at h
    exact ⟨by rw [h.1], h.2.symm⟩

theorem State.takeNotice_eq {s s' : State} {f : OwnFrame} (h : s.takeNotice = some (f, s')) :
    ∃ w, s.rep.noticeWaiting = true ∧ f = s.buildNotice (s.rep.notices.take 16) ∧
      s' = s.setRep { s.rep with notices := s.rep.notices.drop 16, noticeSeq := s.rep.noticeSeq + 1,
                                 noticeWaiting := w } := by
  unfold State.takeNotice at h
  split at h
  · rename_i hw; cases h; exact ⟨_, hw, rfl, rfl⟩
  · cases h

theorem State.takeDateReport_eq {s s' : State} {f : OwnFrame} (h : s.takeDateReport = some (f, s')) :
    ∃ w, s.rep.dateReportWaiting = true ∧ f = s.buildDateReport (s.dater.queue.take 32) ∧
      s' = (s.setDater { s.dater with queue := s.dater.queue.drop 32 }).setRep
        { s.rep with dateReportSeq := s.rep.dateReportSeq + 1, dateReportWaiting := w } := by
  unfold State.takeDateReport at h
  split at h
  · rename_i hw; cases h; exact ⟨_, hw, rfl, rfl⟩
  · cases h

theorem State.takeSummary_eq {s s' : State} {f : OwnFrame} (h : s.takeSummary = some (f, s')) :
    s.rep.summaryWaiting = true ∧ f = s.collectorFrame .summary s.summaryBytes ∧
      s' = s.setRep { s.rep with summaryWaiting := false, summarySeq := s.rep.summarySeq + 1 } := by
  unfold State.takeSummary at h
  split at h
  · rename_i hw; cases h; exact ⟨hw, rfl, rfl⟩
  · cases h

/-- What joining and offering keep, the filling of free places keeps (R32). -/
theorem State.fillPlaces_keeps (P : State → Prop)
    (joins : ∀ s line f, P s → s.hasPlace line = true → P (s.join line f))
    (offers : ∀ s line f s', P s → s.offer line = some (f, s') → P s') :
    ∀ n line s, P s → P (State.fillPlaces n line s) := by
  intro n
  induction n with
  | zero => intro line s h; exact h
  | succ n ih =>
    intro line s h
    unfold State.fillPlaces
    split
    · rename_i hp
      split
      · rename_i f s' ho
        have hl : s'.hasPlace line = true := by
          have : s'.lines = s.lines := by
            rcases State.offer_cases ho with h | h | h | h | h | h
            · obtain ⟨e, r, -, -, rfl⟩ := State.takeReply_eq h; rfl
            · obtain ⟨-, rfl⟩ := State.takeGrade_eq h; rfl
            · obtain ⟨-, rfl⟩ := State.takeQuery_eq h; rfl
            · obtain ⟨w, -, -, rfl⟩ := State.takeNotice_eq h; rfl
            · obtain ⟨w, -, -, rfl⟩ := State.takeDateReport_eq h; rfl
            · obtain ⟨-, -, rfl⟩ := State.takeSummary_eq h; rfl
          unfold State.hasPlace State.lineAt at hp ⊢
          rw [this]; exact hp
        exact ih line _ (joins _ line f (offers s line f s' h ho) hl)
      · exact h
    · exact h

/-- What joining and offering keep, filling keeps (R32). -/
theorem State.fill_keeps (P : State → Prop)
    (joins : ∀ s line f, P s → s.hasPlace line = true → P (s.join line f))
    (offers : ∀ s line f s', P s → s.offer line = some (f, s') → P s') (line : Line) (s : State) (h : P s) :
    P (s.fill line) := State.fillPlaces_keeps P joins offers 8 line s h

/-- An offer changes only the block that gives its frame up. -/
theorem State.offer_frame {s s' : State} {line : Line} {f : OwnFrame} (h : s.offer line = some (f, s')) :
    s'.pending = s.pending ∧ s'.phase = s.phase ∧ s'.supplyGood = s.supplyGood ∧ s'.resetPin = s.resetPin ∧
      s'.straps = s.straps ∧ s'.free = s.free ∧ s'.clock = s.clock ∧ s'.pulse = s.pulse ∧ s'.lines = s.lines ∧
      s'.cls = s.cls ∧ s'.servo = s.servo ∧ s'.mon = s.mon ∧ s'.agent = s.agent := by
  rcases State.offer_cases h with h | h | h | h | h | h
  · obtain ⟨e, r, -, -, rfl⟩ := State.takeReply_eq h; simp
  · obtain ⟨-, rfl⟩ := State.takeGrade_eq h; simp
  · obtain ⟨-, rfl⟩ := State.takeQuery_eq h; simp
  · obtain ⟨w, -, -, rfl⟩ := State.takeNotice_eq h; simp
  · obtain ⟨w, -, -, rfl⟩ := State.takeDateReport_eq h; simp
  · obtain ⟨-, -, rfl⟩ := State.takeSummary_eq h; simp

@[simp] theorem State.fill_frame (s : State) (line : Line) :
    (s.fill line).pending = s.pending ∧ (s.fill line).phase = s.phase ∧ (s.fill line).supplyGood = s.supplyGood ∧
      (s.fill line).resetPin = s.resetPin ∧ (s.fill line).straps = s.straps ∧ (s.fill line).free = s.free ∧
      (s.fill line).clock = s.clock ∧ (s.fill line).pulse = s.pulse ∧ (s.fill line).cls = s.cls ∧
      (s.fill line).servo = s.servo ∧ (s.fill line).mon = s.mon ∧ (s.fill line).agent = s.agent := by
  apply State.fill_keeps (fun t => t.pending = s.pending ∧ t.phase = s.phase ∧ t.supplyGood = s.supplyGood ∧ t.resetPin = s.resetPin ∧ t.straps = s.straps ∧ t.free = s.free ∧ t.clock = s.clock ∧ t.pulse = s.pulse ∧ t.cls = s.cls ∧ t.servo = s.servo ∧ t.mon = s.mon ∧ t.agent = s.agent)
  · intro t l f h _; simpa using h
  · intro t l f t' h ho
    have k := State.offer_frame ho
    simp only [k]; exact h
  · simp

@[simp] theorem State.refreshDateReport_frame (s : State) :
    s.refreshDateReport.pending = s.pending ∧ s.refreshDateReport.phase = s.phase ∧ s.refreshDateReport.supplyGood = s.supplyGood ∧
      s.refreshDateReport.resetPin = s.resetPin ∧ s.refreshDateReport.straps = s.straps ∧ s.refreshDateReport.free = s.free ∧
      s.refreshDateReport.clock = s.clock ∧ s.refreshDateReport.pulse = s.pulse ∧ s.refreshDateReport.cls = s.cls ∧
      s.refreshDateReport.servo = s.servo ∧ s.refreshDateReport.mon = s.mon ∧ s.refreshDateReport.agent = s.agent := by simp [State.refreshDateReport]

@[simp] theorem State.refreshNotice_frame (s : State) :
    s.refreshNotice.pending = s.pending ∧ s.refreshNotice.phase = s.phase ∧ s.refreshNotice.supplyGood = s.supplyGood ∧
      s.refreshNotice.resetPin = s.resetPin ∧ s.refreshNotice.straps = s.straps ∧ s.refreshNotice.free = s.free ∧
      s.refreshNotice.clock = s.clock ∧ s.refreshNotice.pulse = s.pulse ∧ s.refreshNotice.cls = s.cls ∧
      s.refreshNotice.servo = s.servo ∧ s.refreshNotice.mon = s.mon ∧ s.refreshNotice.agent = s.agent := by simp [State.refreshNotice]

/-! ### Steps and swaps (Steps) -/

@[simp] theorem State.swapBanks_frame (s : State) (k : Nat) :
    (s.swapBanks k).pending = s.pending ∧ (s.swapBanks k).phase = s.phase ∧ (s.swapBanks k).supplyGood = s.supplyGood ∧
      (s.swapBanks k).resetPin = s.resetPin ∧ (s.swapBanks k).straps = s.straps ∧ (s.swapBanks k).free = s.free ∧
      (s.swapBanks k).clock = s.clock ∧ (s.swapBanks k).pulse = s.pulse ∧ (s.swapBanks k).lines = s.lines ∧
      (s.swapBanks k).exch = s.exch ∧ (s.swapBanks k).servo = s.servo ∧ (s.swapBanks k).south = s.south ∧
      (s.swapBanks k).mon = s.mon ∧ (s.swapBanks k).agent = s.agent := by simp [State.swapBanks]

@[simp] theorem State.boundaryEvent_frame (s : State) (k : Nat) :
    (s.boundaryEvent k).pending = s.pending ∧ (s.boundaryEvent k).phase = s.phase ∧ (s.boundaryEvent k).supplyGood = s.supplyGood ∧
      (s.boundaryEvent k).resetPin = s.resetPin ∧ (s.boundaryEvent k).straps = s.straps ∧ (s.boundaryEvent k).free = s.free ∧
      (s.boundaryEvent k).clock = s.clock ∧ (s.boundaryEvent k).pulse = s.pulse ∧ (s.boundaryEvent k).lines = s.lines ∧
      (s.boundaryEvent k).exch = s.exch ∧ (s.boundaryEvent k).servo = s.servo ∧ (s.boundaryEvent k).south = s.south ∧
      (s.boundaryEvent k).mon = s.mon ∧ (s.boundaryEvent k).agent = s.agent := by
  unfold State.boundaryEvent; (repeat' split) <;> simp

@[simp] theorem State.stepStamps_frame (s : State) (x : Int) :
    (s.stepStamps x).pending = s.pending ∧ (s.stepStamps x).phase = s.phase ∧ (s.stepStamps x).supplyGood = s.supplyGood ∧
      (s.stepStamps x).resetPin = s.resetPin ∧ (s.stepStamps x).straps = s.straps ∧ (s.stepStamps x).free = s.free ∧
      (s.stepStamps x).cls = s.cls ∧ (s.stepStamps x).exch = s.exch ∧ (s.stepStamps x).servo = s.servo ∧
      (s.stepStamps x).dater = s.dater ∧ (s.stepStamps x).mon = s.mon ∧ (s.stepStamps x).rep = s.rep ∧
      (s.stepStamps x).agent = s.agent := by simp [State.stepStamps]

@[simp] theorem State.crossBoundaries_frame (s : State) (a b : Nat) :
    (s.crossBoundaries a b).pending = s.pending ∧ (s.crossBoundaries a b).phase = s.phase ∧ (s.crossBoundaries a b).supplyGood = s.supplyGood ∧
      (s.crossBoundaries a b).resetPin = s.resetPin ∧ (s.crossBoundaries a b).straps = s.straps ∧ (s.crossBoundaries a b).free = s.free ∧
      (s.crossBoundaries a b).clock = s.clock ∧ (s.crossBoundaries a b).pulse = s.pulse ∧ (s.crossBoundaries a b).lines = s.lines ∧
      (s.crossBoundaries a b).exch = s.exch ∧ (s.crossBoundaries a b).servo = s.servo ∧ (s.crossBoundaries a b).south = s.south ∧
      (s.crossBoundaries a b).mon = s.mon ∧ (s.crossBoundaries a b).agent = s.agent := by
  unfold State.crossBoundaries; (repeat' split) <;> simp

@[simp] theorem State.applyStep_frame (s : State) (x : Int) (c : StepSource) :
    (s.applyStep x c).pending = s.pending ∧ (s.applyStep x c).phase = s.phase ∧ (s.applyStep x c).supplyGood = s.supplyGood ∧
      (s.applyStep x c).resetPin = s.resetPin ∧ (s.applyStep x c).straps = s.straps ∧ (s.applyStep x c).free = s.free ∧
      (s.applyStep x c).agent = s.agent := by simp [State.applyStep]

/-! ### The servo (Servo) -/

@[simp] theorem State.piUpdate_frame (s : State) (x : Sample) :
    (s.piUpdate x).pending = s.pending ∧ (s.piUpdate x).phase = s.phase ∧ (s.piUpdate x).supplyGood = s.supplyGood ∧
      (s.piUpdate x).resetPin = s.resetPin ∧ (s.piUpdate x).straps = s.straps ∧ (s.piUpdate x).free = s.free ∧
      (s.piUpdate x).pulse = s.pulse ∧ (s.piUpdate x).lines = s.lines ∧ (s.piUpdate x).cls = s.cls ∧
      (s.piUpdate x).exch = s.exch ∧ (s.piUpdate x).south = s.south ∧ (s.piUpdate x).dater = s.dater ∧
      (s.piUpdate x).mon = s.mon ∧ (s.piUpdate x).rep = s.rep ∧ (s.piUpdate x).agent = s.agent := by simp [State.piUpdate]

@[simp] theorem State.startAcquire_frame (s : State) (r : Ref) :
    (s.startAcquire r).pending = s.pending ∧ (s.startAcquire r).phase = s.phase ∧ (s.startAcquire r).supplyGood = s.supplyGood ∧
      (s.startAcquire r).resetPin = s.resetPin ∧ (s.startAcquire r).straps = s.straps ∧ (s.startAcquire r).free = s.free ∧
      (s.startAcquire r).clock = s.clock ∧ (s.startAcquire r).pulse = s.pulse ∧ (s.startAcquire r).lines = s.lines ∧
      (s.startAcquire r).cls = s.cls ∧ (s.startAcquire r).south = s.south ∧ (s.startAcquire r).dater = s.dater ∧
      (s.startAcquire r).mon = s.mon ∧ (s.startAcquire r).rep = s.rep ∧ (s.startAcquire r).agent = s.agent := by simp [State.startAcquire]

/-- A tracked event changes the report engine and the servo's last change beyond what the event does, and nothing else
(R105, R106). -/
theorem State.tracked_eq (s : State) (e : State → State) :
    s.tracked e = e s ∨
      ((e s).servo.condition ≠ s.servo.condition ∧
        s.tracked e = ((e s).setServo { (e s).servo with lastChange := some (e s).clock.runCounter }).transition .servo
          (.servo s.servo.condition) (.servo (e s).servo.condition)
          (.condition (e s).servo.uncertainty (e s).ownClass)) := by
  unfold State.tracked
  simp only
  split
  · exact .inl rfl
  · rename_i h; exact .inr ⟨h, rfl⟩

@[simp] theorem State.tracked_frame (s : State) (e : State → State) :
    (s.tracked e).pending = (e s).pending ∧ (s.tracked e).phase = (e s).phase ∧ (s.tracked e).supplyGood = (e s).supplyGood ∧
      (s.tracked e).resetPin = (e s).resetPin ∧ (s.tracked e).straps = (e s).straps ∧ (s.tracked e).free = (e s).free ∧
      (s.tracked e).clock = (e s).clock ∧ (s.tracked e).pulse = (e s).pulse ∧ (s.tracked e).lines = (e s).lines ∧
      (s.tracked e).cls = (e s).cls ∧ (s.tracked e).exch = (e s).exch ∧ (s.tracked e).south = (e s).south ∧
      (s.tracked e).dater = (e s).dater ∧ (s.tracked e).mon = (e s).mon ∧ (s.tracked e).agent = (e s).agent := by
  rcases State.tracked_eq s e with h | ⟨-, h⟩ <;> simp [h]

@[simp] theorem State.endHoldover_frame (s : State) :
    s.endHoldover.pending = s.pending ∧ s.endHoldover.phase = s.phase ∧ s.endHoldover.supplyGood = s.supplyGood ∧
      s.endHoldover.resetPin = s.resetPin ∧ s.endHoldover.straps = s.straps ∧ s.endHoldover.free = s.free ∧
      s.endHoldover.clock = s.clock ∧ s.endHoldover.pulse = s.pulse ∧ s.endHoldover.lines = s.lines ∧
      s.endHoldover.cls = s.cls ∧ s.endHoldover.exch = s.exch ∧ s.endHoldover.south = s.south ∧
      s.endHoldover.dater = s.dater ∧ s.endHoldover.mon = s.mon ∧ s.endHoldover.agent = s.agent := by simp [State.endHoldover]

@[simp] theorem State.revertTest_frame (s : State) :
    s.revertTest.pending = s.pending ∧ s.revertTest.phase = s.phase ∧ s.revertTest.supplyGood = s.supplyGood ∧
      s.revertTest.resetPin = s.resetPin ∧ s.revertTest.straps = s.straps ∧ s.revertTest.free = s.free ∧
      s.revertTest.clock = s.clock ∧ s.revertTest.pulse = s.pulse ∧ s.revertTest.lines = s.lines ∧
      s.revertTest.cls = s.cls ∧ s.revertTest.south = s.south ∧ s.revertTest.dater = s.dater ∧
      s.revertTest.mon = s.mon ∧ s.revertTest.rep = s.rep ∧ s.revertTest.agent = s.agent := by
  unfold State.revertTest; (repeat' split) <;> simp

@[simp] theorem State.lose_frame (s : State) :
    s.lose.pending = s.pending ∧ s.lose.phase = s.phase ∧ s.lose.supplyGood = s.supplyGood ∧
      s.lose.resetPin = s.resetPin ∧ s.lose.straps = s.straps ∧ s.lose.free = s.free ∧
      s.lose.clock = s.clock ∧ s.lose.pulse = s.pulse ∧ s.lose.lines = s.lines ∧
      s.lose.cls = s.cls ∧ s.lose.south = s.south ∧ s.lose.dater = s.dater ∧
      s.lose.mon = s.mon ∧ s.lose.rep = s.rep ∧ s.lose.agent = s.agent := by
  unfold State.lose; (repeat' split) <;> simp

@[simp] theorem State.acceptOffer_frame (s : State) (r : Ref) :
    (s.acceptOffer r).pending = s.pending ∧ (s.acceptOffer r).phase = s.phase ∧ (s.acceptOffer r).supplyGood = s.supplyGood ∧
      (s.acceptOffer r).resetPin = s.resetPin ∧ (s.acceptOffer r).straps = s.straps ∧ (s.acceptOffer r).free = s.free ∧
      (s.acceptOffer r).clock = s.clock ∧ (s.acceptOffer r).pulse = s.pulse ∧ (s.acceptOffer r).lines = s.lines ∧
      (s.acceptOffer r).cls = s.cls ∧ (s.acceptOffer r).south = s.south ∧ (s.acceptOffer r).dater = s.dater ∧
      (s.acceptOffer r).mon = s.mon ∧ (s.acceptOffer r).rep = s.rep ∧ (s.acceptOffer r).agent = s.agent := by
  unfold State.acceptOffer; (repeat' split) <;> simp

@[simp] theorem State.liveEvent_frame (s : State) (r : Ref) :
    (s.liveEvent r).pending = s.pending ∧ (s.liveEvent r).phase = s.phase ∧ (s.liveEvent r).supplyGood = s.supplyGood ∧
      (s.liveEvent r).resetPin = s.resetPin ∧ (s.liveEvent r).straps = s.straps ∧ (s.liveEvent r).free = s.free ∧
      (s.liveEvent r).clock = s.clock ∧ (s.liveEvent r).pulse = s.pulse ∧ (s.liveEvent r).lines = s.lines ∧
      (s.liveEvent r).cls = s.cls ∧ (s.liveEvent r).south = s.south ∧ (s.liveEvent r).dater = s.dater ∧
      (s.liveEvent r).mon = s.mon ∧ (s.liveEvent r).agent = s.agent := by
  unfold State.liveEvent; simp only [State.tracked_frame]; (repeat' split) <;> simp

@[simp] theorem State.lostEvent_frame (s : State) (r : Ref) :
    (s.lostEvent r).pending = s.pending ∧ (s.lostEvent r).phase = s.phase ∧ (s.lostEvent r).supplyGood = s.supplyGood ∧
      (s.lostEvent r).resetPin = s.resetPin ∧ (s.lostEvent r).straps = s.straps ∧ (s.lostEvent r).free = s.free ∧
      (s.lostEvent r).clock = s.clock ∧ (s.lostEvent r).pulse = s.pulse ∧ (s.lostEvent r).lines = s.lines ∧
      (s.lostEvent r).cls = s.cls ∧ (s.lostEvent r).south = s.south ∧ (s.lostEvent r).dater = s.dater ∧
      (s.lostEvent r).mon = s.mon ∧ (s.lostEvent r).agent = s.agent := by
  unfold State.lostEvent; simp only [State.tracked_frame]; (repeat' split) <;> simp

@[simp] theorem State.select_frame (s : State) :
    s.select.pending = s.pending ∧ s.select.phase = s.phase ∧ s.select.supplyGood = s.supplyGood ∧
      s.select.resetPin = s.resetPin ∧ s.select.straps = s.straps ∧ s.select.free = s.free ∧
      s.select.clock = s.clock ∧ s.select.pulse = s.pulse ∧ s.select.lines = s.lines ∧
      s.select.cls = s.cls ∧ s.select.exch = s.exch ∧ s.select.south = s.south ∧
      s.select.dater = s.dater ∧ s.select.mon = s.mon ∧ s.select.rep = s.rep ∧
      s.select.agent = s.agent := by
  unfold State.select; (repeat' split) <;> simp

@[simp] theorem State.steer_frame (s : State) (x : Sample) :
    (s.steer x).pending = s.pending ∧ (s.steer x).phase = s.phase ∧ (s.steer x).supplyGood = s.supplyGood ∧
      (s.steer x).resetPin = s.resetPin ∧ (s.steer x).straps = s.straps ∧ (s.steer x).free = s.free ∧
      (s.steer x).pulse = s.pulse ∧ (s.steer x).lines = s.lines ∧ (s.steer x).cls = s.cls ∧
      (s.steer x).south = s.south ∧ (s.steer x).dater = s.dater ∧ (s.steer x).mon = s.mon ∧
      (s.steer x).rep = s.rep ∧ (s.steer x).agent = s.agent := by
  unfold State.steer; simp only; split <;> simp

@[simp] theorem State.acquireSample_frame (s : State) :
    s.acquireSample.pending = s.pending ∧ s.acquireSample.phase = s.phase ∧ s.acquireSample.supplyGood = s.supplyGood ∧
      s.acquireSample.resetPin = s.resetPin ∧ s.acquireSample.straps = s.straps ∧ s.acquireSample.free = s.free ∧
      s.acquireSample.agent = s.agent := by
  unfold State.acquireSample; (repeat' split) <;> simp

@[simp] theorem State.unlockTest_frame (s : State) (x : Sample) :
    (s.unlockTest x).pending = s.pending ∧ (s.unlockTest x).phase = s.phase ∧ (s.unlockTest x).supplyGood = s.supplyGood ∧
      (s.unlockTest x).resetPin = s.resetPin ∧ (s.unlockTest x).straps = s.straps ∧ (s.unlockTest x).free = s.free ∧
      (s.unlockTest x).clock = s.clock ∧ (s.unlockTest x).pulse = s.pulse ∧ (s.unlockTest x).lines = s.lines ∧
      (s.unlockTest x).cls = s.cls ∧ (s.unlockTest x).exch = s.exch ∧ (s.unlockTest x).south = s.south ∧
      (s.unlockTest x).dater = s.dater ∧ (s.unlockTest x).mon = s.mon ∧ (s.unlockTest x).rep = s.rep ∧
      (s.unlockTest x).agent = s.agent := by
  unfold State.unlockTest; (repeat' split) <;> simp

@[simp] theorem State.lockedSample_frame (s : State) :
    s.lockedSample.pending = s.pending ∧ s.lockedSample.phase = s.phase ∧ s.lockedSample.supplyGood = s.supplyGood ∧
      s.lockedSample.resetPin = s.resetPin ∧ s.lockedSample.straps = s.straps ∧ s.lockedSample.free = s.free ∧
      s.lockedSample.pulse = s.pulse ∧ s.lockedSample.lines = s.lines ∧ s.lockedSample.cls = s.cls ∧
      s.lockedSample.exch = s.exch ∧ s.lockedSample.south = s.south ∧ s.lockedSample.dater = s.dater ∧
      s.lockedSample.mon = s.mon ∧ s.lockedSample.rep = s.rep ∧ s.lockedSample.agent = s.agent := by
  unfold State.lockedSample; split <;> simp

@[simp] theorem State.leadOut_frame (s : State) (r : Ref) :
    (s.leadOut r).pending = s.pending ∧ (s.leadOut r).phase = s.phase ∧ (s.leadOut r).supplyGood = s.supplyGood ∧
      (s.leadOut r).resetPin = s.resetPin ∧ (s.leadOut r).straps = s.straps ∧ (s.leadOut r).free = s.free ∧
      (s.leadOut r).clock = s.clock ∧ (s.leadOut r).pulse = s.pulse ∧ (s.leadOut r).lines = s.lines ∧
      (s.leadOut r).cls = s.cls ∧ (s.leadOut r).south = s.south ∧ (s.leadOut r).dater = s.dater ∧
      (s.leadOut r).mon = s.mon ∧ (s.leadOut r).rep = s.rep ∧ (s.leadOut r).agent = s.agent := by
  unfold State.leadOut; (repeat' split) <;> simp

@[simp] theorem State.alignTest_frame (s : State) :
    s.alignTest.pending = s.pending ∧ s.alignTest.phase = s.phase ∧ s.alignTest.supplyGood = s.supplyGood ∧
      s.alignTest.resetPin = s.resetPin ∧ s.alignTest.straps = s.straps ∧ s.alignTest.free = s.free ∧
      s.alignTest.agent = s.agent := by
  unfold State.alignTest; split <;> simp

@[simp] theorem State.sampleWork_frame (s : State) (r : Ref) :
    (s.sampleWork r).pending = s.pending ∧ (s.sampleWork r).phase = s.phase ∧ (s.sampleWork r).supplyGood = s.supplyGood ∧
      (s.sampleWork r).resetPin = s.resetPin ∧ (s.sampleWork r).straps = s.straps ∧ (s.sampleWork r).free = s.free ∧
      (s.sampleWork r).agent = s.agent := by
  unfold State.sampleWork; (repeat' split) <;> simp

@[simp] theorem State.sampleEntered_frame (s : State) (r : Ref) :
    (s.sampleEntered r).pending = s.pending ∧ (s.sampleEntered r).phase = s.phase ∧ (s.sampleEntered r).supplyGood = s.supplyGood ∧
      (s.sampleEntered r).resetPin = s.resetPin ∧ (s.sampleEntered r).straps = s.straps ∧ (s.sampleEntered r).free = s.free ∧
      (s.sampleEntered r).agent = s.agent := by
  unfold State.sampleEntered; simp only [State.tracked_frame, State.sampleWork_frame]; split <;> simp

@[simp] theorem State.unconfigureNorth_frame (s : State) :
    s.unconfigureNorth.pending = s.pending ∧ s.unconfigureNorth.phase = s.phase ∧ s.unconfigureNorth.supplyGood = s.supplyGood ∧
      s.unconfigureNorth.resetPin = s.resetPin ∧ s.unconfigureNorth.straps = s.straps ∧ s.unconfigureNorth.free = s.free ∧
      s.unconfigureNorth.clock = s.clock ∧ s.unconfigureNorth.pulse = s.pulse ∧ s.unconfigureNorth.lines = s.lines ∧
      s.unconfigureNorth.cls = s.cls ∧ s.unconfigureNorth.south = s.south ∧ s.unconfigureNorth.dater = s.dater ∧
      s.unconfigureNorth.mon = s.mon ∧ s.unconfigureNorth.rep = s.rep ∧ s.unconfigureNorth.agent = s.agent := by simp [State.unconfigureNorth]

@[simp] theorem State.northChange_frame (s : State) (a b : Bool) :
    (s.northChange a b).pending = s.pending ∧ (s.northChange a b).phase = s.phase ∧ (s.northChange a b).supplyGood = s.supplyGood ∧
      (s.northChange a b).resetPin = s.resetPin ∧ (s.northChange a b).straps = s.straps ∧ (s.northChange a b).free = s.free ∧
      (s.northChange a b).clock = s.clock ∧ (s.northChange a b).pulse = s.pulse ∧ (s.northChange a b).lines = s.lines ∧
      (s.northChange a b).cls = s.cls ∧ (s.northChange a b).south = s.south ∧ (s.northChange a b).dater = s.dater ∧
      (s.northChange a b).mon = s.mon ∧ (s.northChange a b).rep = s.rep ∧ (s.northChange a b).agent = s.agent := by
  unfold State.northChange; (repeat' split) <;> simp

@[simp] theorem State.dropActive_frame (s : State) :
    s.dropActive.pending = s.pending ∧ s.dropActive.phase = s.phase ∧ s.dropActive.supplyGood = s.supplyGood ∧
      s.dropActive.resetPin = s.resetPin ∧ s.dropActive.straps = s.straps ∧ s.dropActive.free = s.free ∧
      s.dropActive.clock = s.clock ∧ s.dropActive.pulse = s.pulse ∧ s.dropActive.lines = s.lines ∧
      s.dropActive.cls = s.cls ∧ s.dropActive.south = s.south ∧ s.dropActive.dater = s.dater ∧
      s.dropActive.mon = s.mon ∧ s.dropActive.rep = s.rep ∧ s.dropActive.agent = s.agent := by
  unfold State.dropActive; simp only; (repeat' split) <;> simp

@[simp] theorem State.offerPulse_frame (s : State) (b : Bool) :
    (s.offerPulse b).pending = s.pending ∧ (s.offerPulse b).phase = s.phase ∧ (s.offerPulse b).supplyGood = s.supplyGood ∧
      (s.offerPulse b).resetPin = s.resetPin ∧ (s.offerPulse b).straps = s.straps ∧ (s.offerPulse b).free = s.free ∧
      (s.offerPulse b).clock = s.clock ∧ (s.offerPulse b).pulse = s.pulse ∧ (s.offerPulse b).lines = s.lines ∧
      (s.offerPulse b).cls = s.cls ∧ (s.offerPulse b).south = s.south ∧ (s.offerPulse b).dater = s.dater ∧
      (s.offerPulse b).mon = s.mon ∧ (s.offerPulse b).rep = s.rep ∧ (s.offerPulse b).agent = s.agent := by
  unfold State.offerPulse; (repeat' split) <;> simp

@[simp] theorem State.release_frame (s : State) :
    s.release.pending = s.pending ∧ s.release.phase = s.phase ∧ s.release.supplyGood = s.supplyGood ∧
      s.release.resetPin = s.resetPin ∧ s.release.straps = s.straps ∧ s.release.free = s.free ∧
      s.release.clock = s.clock ∧ s.release.pulse = s.pulse ∧ s.release.lines = s.lines ∧
      s.release.cls = s.cls ∧ s.release.south = s.south ∧ s.release.dater = s.dater ∧
      s.release.mon = s.mon ∧ s.release.rep = s.rep ∧ s.release.agent = s.agent := by simp [State.release]

@[simp] theorem State.setTime_frame (s : State) (x : Int) :
    (s.setTime x).pending = s.pending ∧ (s.setTime x).phase = s.phase ∧ (s.setTime x).supplyGood = s.supplyGood ∧
      (s.setTime x).resetPin = s.resetPin ∧ (s.setTime x).straps = s.straps ∧ (s.setTime x).free = s.free ∧
      (s.setTime x).agent = s.agent := by
  unfold State.setTime; simp only [State.tracked_frame]; split <;> simp

@[simp] theorem State.shortenWindows_frame (s : State) (w : Nat) :
    (s.shortenWindows w).pending = s.pending ∧ (s.shortenWindows w).phase = s.phase ∧ (s.shortenWindows w).supplyGood = s.supplyGood ∧
      (s.shortenWindows w).resetPin = s.resetPin ∧ (s.shortenWindows w).straps = s.straps ∧ (s.shortenWindows w).free = s.free ∧
      (s.shortenWindows w).clock = s.clock ∧ (s.shortenWindows w).pulse = s.pulse ∧ (s.shortenWindows w).lines = s.lines ∧
      (s.shortenWindows w).cls = s.cls ∧ (s.shortenWindows w).south = s.south ∧ (s.shortenWindows w).dater = s.dater ∧
      (s.shortenWindows w).mon = s.mon ∧ (s.shortenWindows w).rep = s.rep ∧ (s.shortenWindows w).agent = s.agent := by
  unfold State.shortenWindows; simp only; (repeat' split) <;> simp

/-! ### The north exchange (North) -/

@[simp] theorem State.countMiss_frame (s : State) :
    s.countMiss.pending = s.pending ∧ s.countMiss.phase = s.phase ∧ s.countMiss.supplyGood = s.supplyGood ∧
      s.countMiss.resetPin = s.resetPin ∧ s.countMiss.straps = s.straps ∧ s.countMiss.free = s.free ∧
      s.countMiss.clock = s.clock ∧ s.countMiss.pulse = s.pulse ∧ s.countMiss.lines = s.lines ∧
      s.countMiss.cls = s.cls ∧ s.countMiss.south = s.south ∧ s.countMiss.dater = s.dater ∧
      s.countMiss.mon = s.mon ∧ s.countMiss.agent = s.agent := by
  unfold State.countMiss; simp only; split <;> simp

@[simp] theorem State.issueQuery_frame (s : State) :
    s.issueQuery.pending = s.pending ∧ s.issueQuery.phase = s.phase ∧ s.issueQuery.supplyGood = s.supplyGood ∧
      s.issueQuery.resetPin = s.resetPin ∧ s.issueQuery.straps = s.straps ∧ s.issueQuery.free = s.free ∧
      s.issueQuery.clock = s.clock ∧ s.issueQuery.pulse = s.pulse ∧ s.issueQuery.cls = s.cls ∧
      s.issueQuery.servo = s.servo ∧ s.issueQuery.mon = s.mon ∧ s.issueQuery.agent = s.agent := by simp [State.issueQuery]

@[simp] theorem State.queryTimer_frame (s : State) :
    s.queryTimer.pending = s.pending ∧ s.queryTimer.phase = s.phase ∧ s.queryTimer.supplyGood = s.supplyGood ∧
      s.queryTimer.resetPin = s.resetPin ∧ s.queryTimer.straps = s.straps ∧ s.queryTimer.free = s.free ∧
      s.queryTimer.clock = s.clock ∧ s.queryTimer.pulse = s.pulse ∧ s.queryTimer.cls = s.cls ∧
      s.queryTimer.mon = s.mon ∧ s.queryTimer.agent = s.agent := by
  unfold State.queryTimer; simp only; split <;> simp

@[simp] theorem State.replyWindow_frame (s : State) :
    s.replyWindow.pending = s.pending ∧ s.replyWindow.phase = s.phase ∧ s.replyWindow.supplyGood = s.supplyGood ∧
      s.replyWindow.resetPin = s.resetPin ∧ s.replyWindow.straps = s.straps ∧ s.replyWindow.free = s.free ∧
      s.replyWindow.clock = s.clock ∧ s.replyWindow.pulse = s.pulse ∧ s.replyWindow.lines = s.lines ∧
      s.replyWindow.cls = s.cls ∧ s.replyWindow.south = s.south ∧ s.replyWindow.dater = s.dater ∧
      s.replyWindow.mon = s.mon ∧ s.replyWindow.agent = s.agent := by simp [State.replyWindow]

@[simp] theorem State.enterSample_frame (s : State) (r : Ref) (x : Sample) :
    (s.enterSample r x).pending = s.pending ∧ (s.enterSample r x).phase = s.phase ∧ (s.enterSample r x).supplyGood = s.supplyGood ∧
      (s.enterSample r x).resetPin = s.resetPin ∧ (s.enterSample r x).straps = s.straps ∧ (s.enterSample r x).free = s.free ∧
      (s.enterSample r x).agent = s.agent := by simp [State.enterSample]

@[simp] theorem State.useReply_frame (s : State) :
    s.useReply.pending = s.pending ∧ s.useReply.phase = s.phase ∧ s.useReply.supplyGood = s.supplyGood ∧
      s.useReply.resetPin = s.resetPin ∧ s.useReply.straps = s.straps ∧ s.useReply.free = s.free ∧
      s.useReply.clock = s.clock ∧ s.useReply.pulse = s.pulse ∧ s.useReply.lines = s.lines ∧
      s.useReply.cls = s.cls ∧ s.useReply.south = s.south ∧ s.useReply.dater = s.dater ∧
      s.useReply.mon = s.mon ∧ s.useReply.agent = s.agent := by
  unfold State.useReply; simp only; split <;> simp

@[simp] theorem State.matchReply_frame (s : State) (a b : Int) (f : ReplyFields) :
    (s.matchReply a b f).pending = s.pending ∧ (s.matchReply a b f).phase = s.phase ∧ (s.matchReply a b f).supplyGood = s.supplyGood ∧
      (s.matchReply a b f).resetPin = s.resetPin ∧ (s.matchReply a b f).straps = s.straps ∧ (s.matchReply a b f).free = s.free ∧
      (s.matchReply a b f).agent = s.agent := by
  unfold State.matchReply; simp only; (repeat' split) <;> simp

@[simp] theorem State.strayReply_frame (s : State) :
    s.strayReply.pending = s.pending ∧ s.strayReply.phase = s.phase ∧ s.strayReply.supplyGood = s.supplyGood ∧
      s.strayReply.resetPin = s.resetPin ∧ s.strayReply.straps = s.straps ∧ s.strayReply.free = s.free ∧
      s.strayReply.clock = s.clock ∧ s.strayReply.pulse = s.pulse ∧ s.strayReply.lines = s.lines ∧
      s.strayReply.cls = s.cls ∧ s.strayReply.servo = s.servo ∧ s.strayReply.south = s.south ∧
      s.strayReply.dater = s.dater ∧ s.strayReply.mon = s.mon ∧ s.strayReply.rep = s.rep ∧
      s.strayReply.agent = s.agent := by simp [State.strayReply]

@[simp] theorem State.takeReplyFrame_frame (s : State) (b : List Byte) (x : Int) :
    (s.takeReplyFrame b x).pending = s.pending ∧ (s.takeReplyFrame b x).phase = s.phase ∧ (s.takeReplyFrame b x).supplyGood = s.supplyGood ∧
      (s.takeReplyFrame b x).resetPin = s.resetPin ∧ (s.takeReplyFrame b x).straps = s.straps ∧ (s.takeReplyFrame b x).free = s.free ∧
      (s.takeReplyFrame b x).agent = s.agent := by
  unfold State.takeReplyFrame; (repeat' split) <;> simp

@[simp] theorem State.pulseLive_frame (s : State) (x : BitVec 32) :
    (s.pulseLive x).pending = s.pending ∧ (s.pulseLive x).phase = s.phase ∧ (s.pulseLive x).supplyGood = s.supplyGood ∧
      (s.pulseLive x).resetPin = s.resetPin ∧ (s.pulseLive x).straps = s.straps ∧ (s.pulseLive x).free = s.free ∧
      (s.pulseLive x).clock = s.clock ∧ (s.pulseLive x).pulse = s.pulse ∧ (s.pulseLive x).lines = s.lines ∧
      (s.pulseLive x).cls = s.cls ∧ (s.pulseLive x).south = s.south ∧ (s.pulseLive x).dater = s.dater ∧
      (s.pulseLive x).mon = s.mon ∧ (s.pulseLive x).agent = s.agent := by
  unfold State.pulseLive; simp only; split <;> simp

@[simp] theorem State.takeCapture_frame (s : State) (c : CaptureRecord) :
    (s.takeCapture c).pending = s.pending ∧ (s.takeCapture c).phase = s.phase ∧ (s.takeCapture c).supplyGood = s.supplyGood ∧
      (s.takeCapture c).resetPin = s.resetPin ∧ (s.takeCapture c).straps = s.straps ∧ (s.takeCapture c).free = s.free ∧
      (s.takeCapture c).agent = s.agent := by
  unfold State.takeCapture; simp only; (repeat' split) <;> simp

@[simp] theorem State.pulseLost_frame (s : State) :
    s.pulseLost.pending = s.pending ∧ s.pulseLost.phase = s.phase ∧ s.pulseLost.supplyGood = s.supplyGood ∧
      s.pulseLost.resetPin = s.resetPin ∧ s.pulseLost.straps = s.straps ∧ s.pulseLost.free = s.free ∧
      s.pulseLost.clock = s.clock ∧ s.pulseLost.pulse = s.pulse ∧ s.pulseLost.lines = s.lines ∧
      s.pulseLost.cls = s.cls ∧ s.pulseLost.south = s.south ∧ s.pulseLost.dater = s.dater ∧
      s.pulseLost.mon = s.mon ∧ s.pulseLost.agent = s.agent := by simp [State.pulseLost]

/-! ### The drift monitor (Monitor) -/

@[simp] theorem State.replaceOrigin_frame (s : State) (j : Nat) (e : OriginEntry) :
    (s.replaceOrigin j e).pending = s.pending ∧ (s.replaceOrigin j e).phase = s.phase ∧ (s.replaceOrigin j e).supplyGood = s.supplyGood ∧
      (s.replaceOrigin j e).resetPin = s.resetPin ∧ (s.replaceOrigin j e).straps = s.straps ∧ (s.replaceOrigin j e).free = s.free ∧
      (s.replaceOrigin j e).clock = s.clock ∧ (s.replaceOrigin j e).pulse = s.pulse ∧ (s.replaceOrigin j e).lines = s.lines ∧
      (s.replaceOrigin j e).cls = s.cls ∧ (s.replaceOrigin j e).exch = s.exch ∧ (s.replaceOrigin j e).servo = s.servo ∧
      (s.replaceOrigin j e).south = s.south ∧ (s.replaceOrigin j e).dater = s.dater ∧ (s.replaceOrigin j e).agent = s.agent := by
  unfold State.replaceOrigin; simp only; split <;> simp

@[simp] theorem State.setServer_frame (s : State) (j : Nat) (x : ServerState) :
    (s.setServer j x).pending = s.pending ∧ (s.setServer j x).phase = s.phase ∧ (s.setServer j x).supplyGood = s.supplyGood ∧
      (s.setServer j x).resetPin = s.resetPin ∧ (s.setServer j x).straps = s.straps ∧ (s.setServer j x).free = s.free ∧
      (s.setServer j x).clock = s.clock ∧ (s.setServer j x).pulse = s.pulse ∧ (s.setServer j x).lines = s.lines ∧
      (s.setServer j x).cls = s.cls ∧ (s.setServer j x).exch = s.exch ∧ (s.setServer j x).servo = s.servo ∧
      (s.setServer j x).south = s.south ∧ (s.setServer j x).dater = s.dater ∧ (s.setServer j x).agent = s.agent := by simp [State.setServer]

@[simp] theorem State.replaceRack_frame (s : State) (k : Nat) (r : Rack) :
    (s.replaceRack k r).pending = s.pending ∧ (s.replaceRack k r).phase = s.phase ∧ (s.replaceRack k r).supplyGood = s.supplyGood ∧
      (s.replaceRack k r).resetPin = s.resetPin ∧ (s.replaceRack k r).straps = s.straps ∧ (s.replaceRack k r).free = s.free ∧
      (s.replaceRack k r).clock = s.clock ∧ (s.replaceRack k r).pulse = s.pulse ∧ (s.replaceRack k r).lines = s.lines ∧
      (s.replaceRack k r).cls = s.cls ∧ (s.replaceRack k r).exch = s.exch ∧ (s.replaceRack k r).servo = s.servo ∧
      (s.replaceRack k r).south = s.south ∧ (s.replaceRack k r).dater = s.dater ∧ (s.replaceRack k r).agent = s.agent := by
  unfold State.replaceRack; simp only; split <;> simp

@[simp] theorem State.silenceMember_frame (s : State) (j : Nat) :
    (s.silenceMember j).pending = s.pending ∧ (s.silenceMember j).phase = s.phase ∧ (s.silenceMember j).supplyGood = s.supplyGood ∧
      (s.silenceMember j).resetPin = s.resetPin ∧ (s.silenceMember j).straps = s.straps ∧ (s.silenceMember j).free = s.free ∧
      (s.silenceMember j).clock = s.clock ∧ (s.silenceMember j).pulse = s.pulse ∧ (s.silenceMember j).lines = s.lines ∧
      (s.silenceMember j).cls = s.cls ∧ (s.silenceMember j).exch = s.exch ∧ (s.silenceMember j).servo = s.servo ∧
      (s.silenceMember j).south = s.south ∧ (s.silenceMember j).dater = s.dater ∧ (s.silenceMember j).agent = s.agent := by
  unfold State.silenceMember; (repeat' split) <;> simp

/-- What each member of a fold keeps, the fold keeps. -/
theorem foldl_keeps {α : Type} (P : State → Prop) (f : State → α → State) (h : ∀ t x, P t → P (f t x)) :
    ∀ (l : List α) (s : State), P s → P (l.foldl f s)
  | [], _, p => p
  | x :: l, s, p => foldl_keeps P f h l (f s x) (h s x p)

/-- A fold whose members change only the drift monitor and the report engine changes only them. -/
theorem foldl_monitor_frame {α : Type} (f : State → α → State)
    (h : ∀ t x, (f t x).pending = t.pending ∧ (f t x).phase = t.phase ∧ (f t x).supplyGood = t.supplyGood ∧ (f t x).resetPin = t.resetPin ∧
      (f t x).straps = t.straps ∧ (f t x).free = t.free ∧ (f t x).clock = t.clock ∧ (f t x).pulse = t.pulse ∧
      (f t x).lines = t.lines ∧ (f t x).cls = t.cls ∧ (f t x).exch = t.exch ∧ (f t x).servo = t.servo ∧
      (f t x).south = t.south ∧ (f t x).dater = t.dater ∧ (f t x).agent = t.agent)
    (l : List α) (s : State) :
    (l.foldl f s).pending = s.pending ∧ (l.foldl f s).phase = s.phase ∧ (l.foldl f s).supplyGood = s.supplyGood ∧
      (l.foldl f s).resetPin = s.resetPin ∧ (l.foldl f s).straps = s.straps ∧ (l.foldl f s).free = s.free ∧
      (l.foldl f s).clock = s.clock ∧ (l.foldl f s).pulse = s.pulse ∧ (l.foldl f s).lines = s.lines ∧
      (l.foldl f s).cls = s.cls ∧ (l.foldl f s).exch = s.exch ∧ (l.foldl f s).servo = s.servo ∧
      (l.foldl f s).south = s.south ∧ (l.foldl f s).dater = s.dater ∧ (l.foldl f s).agent = s.agent :=
  foldl_keeps (fun t => t.pending = s.pending ∧ t.phase = s.phase ∧ t.supplyGood = s.supplyGood ∧ t.resetPin = s.resetPin ∧ t.straps = s.straps ∧ t.free = s.free ∧ t.clock = s.clock ∧ t.pulse = s.pulse ∧ t.lines = s.lines ∧ t.cls = s.cls ∧ t.exch = s.exch ∧ t.servo = s.servo ∧ t.south = s.south ∧ t.dater = s.dater ∧ t.agent = s.agent) f (fun t x p => by simp only [h]; exact p) l s (by simp)

@[simp] theorem State.excludeStrays_frame (s : State) (k : Nat) :
    (s.excludeStrays k).pending = s.pending ∧ (s.excludeStrays k).phase = s.phase ∧ (s.excludeStrays k).supplyGood = s.supplyGood ∧
      (s.excludeStrays k).resetPin = s.resetPin ∧ (s.excludeStrays k).straps = s.straps ∧ (s.excludeStrays k).free = s.free ∧
      (s.excludeStrays k).clock = s.clock ∧ (s.excludeStrays k).pulse = s.pulse ∧ (s.excludeStrays k).lines = s.lines ∧
      (s.excludeStrays k).cls = s.cls ∧ (s.excludeStrays k).exch = s.exch ∧ (s.excludeStrays k).servo = s.servo ∧
      (s.excludeStrays k).south = s.south ∧ (s.excludeStrays k).dater = s.dater ∧ (s.excludeStrays k).agent = s.agent := by
  unfold State.excludeStrays; simp only [State.setMon_phase, State.setMon_pending, State.setMon_supplyGood, State.setMon_resetPin, State.setMon_straps, State.setMon_free, State.setMon_clock, State.setMon_pulse, State.setMon_lines, State.setMon_cls, State.setMon_exch, State.setMon_servo, State.setMon_south, State.setMon_dater, State.setMon_agent]
  exact foldl_monitor_frame _ (fun t x => by simp) _ _

@[simp] theorem State.evaluateRack_frame (s : State) (k : Nat) :
    (s.evaluateRack k).pending = s.pending ∧ (s.evaluateRack k).phase = s.phase ∧ (s.evaluateRack k).supplyGood = s.supplyGood ∧
      (s.evaluateRack k).resetPin = s.resetPin ∧ (s.evaluateRack k).straps = s.straps ∧ (s.evaluateRack k).free = s.free ∧
      (s.evaluateRack k).clock = s.clock ∧ (s.evaluateRack k).pulse = s.pulse ∧ (s.evaluateRack k).lines = s.lines ∧
      (s.evaluateRack k).cls = s.cls ∧ (s.evaluateRack k).exch = s.exch ∧ (s.evaluateRack k).servo = s.servo ∧
      (s.evaluateRack k).south = s.south ∧ (s.evaluateRack k).dater = s.dater ∧ (s.evaluateRack k).agent = s.agent := by
  unfold State.evaluateRack
  split
  · simp only [State.replaceRack_frame, State.excludeStrays_frame]
    exact foldl_monitor_frame _ (fun t x => by simp) _ _
  · simp

@[simp] theorem State.evaluate_frame (s : State) :
    s.evaluate.pending = s.pending ∧ s.evaluate.phase = s.phase ∧ s.evaluate.supplyGood = s.supplyGood ∧
      s.evaluate.resetPin = s.resetPin ∧ s.evaluate.straps = s.straps ∧ s.evaluate.free = s.free ∧
      s.evaluate.clock = s.clock ∧ s.evaluate.pulse = s.pulse ∧ s.evaluate.lines = s.lines ∧
      s.evaluate.cls = s.cls ∧ s.evaluate.exch = s.exch ∧ s.evaluate.servo = s.servo ∧
      s.evaluate.south = s.south ∧ s.evaluate.dater = s.dater ∧ s.evaluate.agent = s.agent := by
  unfold State.evaluate; simp only [State.setMon_phase, State.setMon_pending, State.setMon_supplyGood, State.setMon_resetPin, State.setMon_straps, State.setMon_free, State.setMon_clock, State.setMon_pulse, State.setMon_lines, State.setMon_cls, State.setMon_exch, State.setMon_servo, State.setMon_south, State.setMon_dater, State.setMon_agent]
  exact foldl_monitor_frame _ (fun t x => by simp) _ _

@[simp] theorem State.writeOrigin_frame (s : State) (j : Nat) (e : Bool) (a : Address) (k : Nat) :
    (s.writeOrigin j e a k).pending = s.pending ∧ (s.writeOrigin j e a k).phase = s.phase ∧ (s.writeOrigin j e a k).supplyGood = s.supplyGood ∧
      (s.writeOrigin j e a k).resetPin = s.resetPin ∧ (s.writeOrigin j e a k).straps = s.straps ∧ (s.writeOrigin j e a k).free = s.free ∧
      (s.writeOrigin j e a k).clock = s.clock ∧ (s.writeOrigin j e a k).pulse = s.pulse ∧ (s.writeOrigin j e a k).lines = s.lines ∧
      (s.writeOrigin j e a k).cls = s.cls ∧ (s.writeOrigin j e a k).exch = s.exch ∧ (s.writeOrigin j e a k).servo = s.servo ∧
      (s.writeOrigin j e a k).south = s.south ∧ (s.writeOrigin j e a k).dater = s.dater ∧ (s.writeOrigin j e a k).agent = s.agent := by simp [State.writeOrigin]

@[simp] theorem State.disableRack_frame (s : State) (k : Nat) (c : RackConfig) :
    (s.disableRack k c).pending = s.pending ∧ (s.disableRack k c).phase = s.phase ∧ (s.disableRack k c).supplyGood = s.supplyGood ∧
      (s.disableRack k c).resetPin = s.resetPin ∧ (s.disableRack k c).straps = s.straps ∧ (s.disableRack k c).free = s.free ∧
      (s.disableRack k c).clock = s.clock ∧ (s.disableRack k c).pulse = s.pulse ∧ (s.disableRack k c).lines = s.lines ∧
      (s.disableRack k c).cls = s.cls ∧ (s.disableRack k c).exch = s.exch ∧ (s.disableRack k c).servo = s.servo ∧
      (s.disableRack k c).south = s.south ∧ (s.disableRack k c).dater = s.dater ∧ (s.disableRack k c).agent = s.agent := by
  unfold State.disableRack; simp only [State.replaceRack_frame]
  exact foldl_monitor_frame _ (fun t x => by simp) _ _

@[simp] theorem State.writeRack_frame (s : State) (k : Nat) (c : RackConfig) :
    (s.writeRack k c).pending = s.pending ∧ (s.writeRack k c).phase = s.phase ∧ (s.writeRack k c).supplyGood = s.supplyGood ∧
      (s.writeRack k c).resetPin = s.resetPin ∧ (s.writeRack k c).straps = s.straps ∧ (s.writeRack k c).free = s.free ∧
      (s.writeRack k c).clock = s.clock ∧ (s.writeRack k c).pulse = s.pulse ∧ (s.writeRack k c).lines = s.lines ∧
      (s.writeRack k c).cls = s.cls ∧ (s.writeRack k c).exch = s.exch ∧ (s.writeRack k c).servo = s.servo ∧
      (s.writeRack k c).south = s.south ∧ (s.writeRack k c).dater = s.dater ∧ (s.writeRack k c).agent = s.agent := by
  unfold State.writeRack; (repeat' split) <;> simp

@[simp] theorem State.writeSettle_frame (s : State) (n : Nat) :
    (s.writeSettle n).pending = s.pending ∧ (s.writeSettle n).phase = s.phase ∧ (s.writeSettle n).supplyGood = s.supplyGood ∧
      (s.writeSettle n).resetPin = s.resetPin ∧ (s.writeSettle n).straps = s.straps ∧ (s.writeSettle n).free = s.free ∧
      (s.writeSettle n).clock = s.clock ∧ (s.writeSettle n).pulse = s.pulse ∧ (s.writeSettle n).lines = s.lines ∧
      (s.writeSettle n).cls = s.cls ∧ (s.writeSettle n).exch = s.exch ∧ (s.writeSettle n).servo = s.servo ∧
      (s.writeSettle n).south = s.south ∧ (s.writeSettle n).dater = s.dater ∧ (s.writeSettle n).agent = s.agent := by
  unfold State.writeSettle
  exact foldl_monitor_frame _ (fun t x => by simp) _ (s.setMon { s.mon with settleCount := n })

/-! ### The south server and the dater (South, Dating) -/

@[simp] theorem State.sampleQuery_frame (s : State) (f : QueryFields) (a : Address) (x : Int) :
    (s.sampleQuery f a x).pending = s.pending ∧ (s.sampleQuery f a x).phase = s.phase ∧ (s.sampleQuery f a x).supplyGood = s.supplyGood ∧
      (s.sampleQuery f a x).resetPin = s.resetPin ∧ (s.sampleQuery f a x).straps = s.straps ∧ (s.sampleQuery f a x).free = s.free ∧
      (s.sampleQuery f a x).clock = s.clock ∧ (s.sampleQuery f a x).pulse = s.pulse ∧ (s.sampleQuery f a x).lines = s.lines ∧
      (s.sampleQuery f a x).cls = s.cls ∧ (s.sampleQuery f a x).exch = s.exch ∧ (s.sampleQuery f a x).servo = s.servo ∧
      (s.sampleQuery f a x).dater = s.dater ∧ (s.sampleQuery f a x).rep = s.rep ∧ (s.sampleQuery f a x).agent = s.agent := by
  unfold State.sampleQuery; (repeat' split) <;> simp

@[simp] theorem State.queueReply_frame (s : State) (e : ReplyEntry) :
    (s.queueReply e).pending = s.pending ∧ (s.queueReply e).phase = s.phase ∧ (s.queueReply e).supplyGood = s.supplyGood ∧
      (s.queueReply e).resetPin = s.resetPin ∧ (s.queueReply e).straps = s.straps ∧ (s.queueReply e).free = s.free ∧
      (s.queueReply e).clock = s.clock ∧ (s.queueReply e).pulse = s.pulse ∧ (s.queueReply e).cls = s.cls ∧
      (s.queueReply e).servo = s.servo ∧ (s.queueReply e).mon = s.mon ∧ (s.queueReply e).agent = s.agent := by
  unfold State.queueReply; (repeat' split) <;> simp

@[simp] theorem State.takeQueryFrame_frame (s : State) (b : List Byte) (x : Int) :
    (s.takeQueryFrame b x).pending = s.pending ∧ (s.takeQueryFrame b x).phase = s.phase ∧ (s.takeQueryFrame b x).supplyGood = s.supplyGood ∧
      (s.takeQueryFrame b x).resetPin = s.resetPin ∧ (s.takeQueryFrame b x).straps = s.straps ∧ (s.takeQueryFrame b x).free = s.free ∧
      (s.takeQueryFrame b x).clock = s.clock ∧ (s.takeQueryFrame b x).pulse = s.pulse ∧ (s.takeQueryFrame b x).cls = s.cls ∧
      (s.takeQueryFrame b x).servo = s.servo ∧ (s.takeQueryFrame b x).agent = s.agent := by
  unfold State.takeQueryFrame; (repeat' split) <;> simp

@[simp] theorem State.gradeTimer_frame (s : State) :
    s.gradeTimer.pending = s.pending ∧ s.gradeTimer.phase = s.phase ∧ s.gradeTimer.supplyGood = s.supplyGood ∧
      s.gradeTimer.resetPin = s.resetPin ∧ s.gradeTimer.straps = s.straps ∧ s.gradeTimer.free = s.free ∧
      s.gradeTimer.clock = s.clock ∧ s.gradeTimer.pulse = s.pulse ∧ s.gradeTimer.cls = s.cls ∧
      s.gradeTimer.servo = s.servo ∧ s.gradeTimer.mon = s.mon ∧ s.gradeTimer.agent = s.agent := by simp [State.gradeTimer]

@[simp] theorem State.settle_frame (s : State) (h : DateHandoff) :
    (s.settle h).pending = s.pending ∧ (s.settle h).phase = s.phase ∧ (s.settle h).supplyGood = s.supplyGood ∧
      (s.settle h).resetPin = s.resetPin ∧ (s.settle h).straps = s.straps ∧ (s.settle h).free = s.free ∧
      (s.settle h).clock = s.clock ∧ (s.settle h).pulse = s.pulse ∧ (s.settle h).lines = s.lines ∧
      (s.settle h).cls = s.cls ∧ (s.settle h).exch = s.exch ∧ (s.settle h).servo = s.servo ∧
      (s.settle h).south = s.south ∧ (s.settle h).mon = s.mon ∧ (s.settle h).rep = s.rep ∧
      (s.settle h).agent = s.agent := by simp [State.settle]

@[simp] theorem State.enterRecord_frame (s : State) (r : DateRecord) :
    (s.enterRecord r).pending = s.pending ∧ (s.enterRecord r).phase = s.phase ∧ (s.enterRecord r).supplyGood = s.supplyGood ∧
      (s.enterRecord r).resetPin = s.resetPin ∧ (s.enterRecord r).straps = s.straps ∧ (s.enterRecord r).free = s.free ∧
      (s.enterRecord r).clock = s.clock ∧ (s.enterRecord r).pulse = s.pulse ∧ (s.enterRecord r).cls = s.cls ∧
      (s.enterRecord r).servo = s.servo ∧ (s.enterRecord r).mon = s.mon ∧ (s.enterRecord r).agent = s.agent := by simp [State.enterRecord]

@[simp] theorem State.loseRecord_frame (s : State) (r : DateRecord) :
    (s.loseRecord r).pending = s.pending ∧ (s.loseRecord r).phase = s.phase ∧ (s.loseRecord r).supplyGood = s.supplyGood ∧
      (s.loseRecord r).resetPin = s.resetPin ∧ (s.loseRecord r).straps = s.straps ∧ (s.loseRecord r).free = s.free ∧
      (s.loseRecord r).clock = s.clock ∧ (s.loseRecord r).pulse = s.pulse ∧ (s.loseRecord r).lines = s.lines ∧
      (s.loseRecord r).cls = s.cls ∧ (s.loseRecord r).exch = s.exch ∧ (s.loseRecord r).servo = s.servo ∧
      (s.loseRecord r).south = s.south ∧ (s.loseRecord r).mon = s.mon ∧ (s.loseRecord r).agent = s.agent := by
  unfold State.loseRecord; simp only; split <;> simp

@[simp] theorem State.offerRecord_frame (s : State) (r : DateRecord) :
    (s.offerRecord r).pending = s.pending ∧ (s.offerRecord r).phase = s.phase ∧ (s.offerRecord r).supplyGood = s.supplyGood ∧
      (s.offerRecord r).resetPin = s.resetPin ∧ (s.offerRecord r).straps = s.straps ∧ (s.offerRecord r).free = s.free ∧
      (s.offerRecord r).clock = s.clock ∧ (s.offerRecord r).pulse = s.pulse ∧ (s.offerRecord r).cls = s.cls ∧
      (s.offerRecord r).servo = s.servo ∧ (s.offerRecord r).mon = s.mon ∧ (s.offerRecord r).agent = s.agent := by
  unfold State.offerRecord; (repeat' split) <;> simp

@[simp] theorem State.closeDate_frame (s : State) (line : Line) (g : Bool) (n : Nat) :
    (s.closeDate line g n).pending = s.pending ∧ (s.closeDate line g n).phase = s.phase ∧ (s.closeDate line g n).supplyGood = s.supplyGood ∧
      (s.closeDate line g n).resetPin = s.resetPin ∧ (s.closeDate line g n).straps = s.straps ∧ (s.closeDate line g n).free = s.free ∧
      (s.closeDate line g n).clock = s.clock ∧ (s.closeDate line g n).pulse = s.pulse ∧ (s.closeDate line g n).cls = s.cls ∧
      (s.closeDate line g n).servo = s.servo ∧ (s.closeDate line g n).mon = s.mon ∧ (s.closeDate line g n).agent = s.agent := by
  unfold State.closeDate; simp only; (repeat' split) <;> simp

/-! ### The passage of frames (Passage) -/

@[simp] theorem State.setArriving_frame (s : State) (line : Line) (q : Passage) :
    (s.setArriving line q).pending = s.pending ∧ (s.setArriving line q).phase = s.phase ∧ (s.setArriving line q).supplyGood = s.supplyGood ∧
      (s.setArriving line q).resetPin = s.resetPin ∧ (s.setArriving line q).straps = s.straps ∧ (s.setArriving line q).free = s.free ∧
      (s.setArriving line q).clock = s.clock ∧ (s.setArriving line q).pulse = s.pulse ∧ (s.setArriving line q).cls = s.cls ∧
      (s.setArriving line q).exch = s.exch ∧ (s.setArriving line q).servo = s.servo ∧ (s.setArriving line q).south = s.south ∧
      (s.setArriving line q).dater = s.dater ∧ (s.setArriving line q).mon = s.mon ∧ (s.setArriving line q).rep = s.rep ∧
      (s.setArriving line q).agent = s.agent := by simp [State.setArriving]

@[simp] theorem State.releaseFrame_frame (s : State) (line : Line) :
    (s.releaseFrame line).pending = s.pending ∧ (s.releaseFrame line).phase = s.phase ∧ (s.releaseFrame line).supplyGood = s.supplyGood ∧
      (s.releaseFrame line).resetPin = s.resetPin ∧ (s.releaseFrame line).straps = s.straps ∧ (s.releaseFrame line).free = s.free ∧
      (s.releaseFrame line).clock = s.clock ∧ (s.releaseFrame line).pulse = s.pulse ∧ (s.releaseFrame line).cls = s.cls ∧
      (s.releaseFrame line).exch = s.exch ∧ (s.releaseFrame line).servo = s.servo ∧ (s.releaseFrame line).south = s.south ∧
      (s.releaseFrame line).dater = s.dater ∧ (s.releaseFrame line).mon = s.mon ∧ (s.releaseFrame line).rep = s.rep ∧
      (s.releaseFrame line).agent = s.agent := by simp [State.releaseFrame]

@[simp] theorem State.firstByte_frame (s : State) (line : Line) (b : List Byte) :
    (s.firstByte line b).pending = s.pending ∧ (s.firstByte line b).phase = s.phase ∧ (s.firstByte line b).supplyGood = s.supplyGood ∧
      (s.firstByte line b).resetPin = s.resetPin ∧ (s.firstByte line b).straps = s.straps ∧ (s.firstByte line b).free = s.free ∧
      (s.firstByte line b).clock = s.clock ∧ (s.firstByte line b).pulse = s.pulse ∧ (s.firstByte line b).cls = s.cls ∧
      (s.firstByte line b).exch = s.exch ∧ (s.firstByte line b).servo = s.servo ∧ (s.firstByte line b).south = s.south ∧
      (s.firstByte line b).dater = s.dater ∧ (s.firstByte line b).mon = s.mon ∧ (s.firstByte line b).rep = s.rep ∧
      (s.firstByte line b).agent = s.agent := by
  unfold State.firstByte; simp only; (repeat' split) <;> simp

@[simp] theorem State.sampleAction_frame (s : State) (line : Line) (p : Passage) (e : ClassEntry) (a : Address) :
    (s.sampleAction line p e a).pending = s.pending ∧ (s.sampleAction line p e a).phase = s.phase ∧ (s.sampleAction line p e a).supplyGood = s.supplyGood ∧
      (s.sampleAction line p e a).resetPin = s.resetPin ∧ (s.sampleAction line p e a).straps = s.straps ∧ (s.sampleAction line p e a).free = s.free ∧
      (s.sampleAction line p e a).clock = s.clock ∧ (s.sampleAction line p e a).pulse = s.pulse ∧ (s.sampleAction line p e a).lines = s.lines ∧
      (s.sampleAction line p e a).cls = s.cls ∧ (s.sampleAction line p e a).exch = s.exch ∧ (s.sampleAction line p e a).servo = s.servo ∧
      (s.sampleAction line p e a).south = s.south ∧ (s.sampleAction line p e a).dater = s.dater ∧ (s.sampleAction line p e a).rep = s.rep ∧
      (s.sampleAction line p e a).agent = s.agent := by
  unfold State.sampleAction; split <;> simp

@[simp] theorem State.actions_frame (s : State) (line : Line) (p : Passage) (k : Nat) (e : ClassEntry) :
    (s.actions line p k e).1.pending = s.pending ∧ (s.actions line p k e).1.phase = s.phase ∧
      (s.actions line p k e).1.supplyGood = s.supplyGood ∧ (s.actions line p k e).1.resetPin = s.resetPin ∧
      (s.actions line p k e).1.straps = s.straps ∧ (s.actions line p k e).1.free = s.free ∧
      (s.actions line p k e).1.clock = s.clock ∧ (s.actions line p k e).1.pulse = s.pulse ∧
      (s.actions line p k e).1.lines = s.lines ∧ (s.actions line p k e).1.cls = s.cls ∧
      (s.actions line p k e).1.exch = s.exch ∧ (s.actions line p k e).1.servo = s.servo ∧
      (s.actions line p k e).1.south = s.south ∧ (s.actions line p k e).1.rep = s.rep ∧
      (s.actions line p k e).1.agent = s.agent := by
  unfold State.actions; simp only; (repeat' split) <;> simp

@[simp] theorem State.countMatch_frame (s : State) (k : Nat) :
    (s.countMatch k).pending = s.pending ∧ (s.countMatch k).phase = s.phase ∧ (s.countMatch k).supplyGood = s.supplyGood ∧
      (s.countMatch k).resetPin = s.resetPin ∧ (s.countMatch k).straps = s.straps ∧ (s.countMatch k).free = s.free ∧
      (s.countMatch k).clock = s.clock ∧ (s.countMatch k).pulse = s.pulse ∧ (s.countMatch k).lines = s.lines ∧
      (s.countMatch k).exch = s.exch ∧ (s.countMatch k).servo = s.servo ∧ (s.countMatch k).south = s.south ∧
      (s.countMatch k).dater = s.dater ∧ (s.countMatch k).mon = s.mon ∧ (s.countMatch k).rep = s.rep ∧
      (s.countMatch k).agent = s.agent := by simp [State.countMatch]

@[simp] theorem State.runClassifier_frame (s : State) (line : Line) (p : Passage) :
    (s.runClassifier line p).1.pending = s.pending ∧ (s.runClassifier line p).1.phase = s.phase ∧
      (s.runClassifier line p).1.supplyGood = s.supplyGood ∧ (s.runClassifier line p).1.resetPin = s.resetPin ∧
      (s.runClassifier line p).1.straps = s.straps ∧ (s.runClassifier line p).1.free = s.free ∧
      (s.runClassifier line p).1.clock = s.clock ∧ (s.runClassifier line p).1.pulse = s.pulse ∧
      (s.runClassifier line p).1.lines = s.lines ∧ (s.runClassifier line p).1.exch = s.exch ∧
      (s.runClassifier line p).1.servo = s.servo ∧ (s.runClassifier line p).1.south = s.south ∧
      (s.runClassifier line p).1.rep = s.rep ∧ (s.runClassifier line p).1.agent = s.agent := by
  unfold State.runClassifier; split <;> simp

@[simp] theorem State.consume_frame (s : State) (line : Line) (p : Passage) (c : Consumer) :
    (s.consume line p c).pending = s.pending ∧ (s.consume line p c).phase = s.phase ∧ (s.consume line p c).supplyGood = s.supplyGood ∧
      (s.consume line p c).resetPin = s.resetPin ∧ (s.consume line p c).straps = s.straps ∧ (s.consume line p c).free = s.free ∧
      (s.consume line p c).clock = s.clock ∧ (s.consume line p c).pulse = s.pulse ∧ (s.consume line p c).cls = s.cls ∧
      (s.consume line p c).exch = s.exch ∧ (s.consume line p c).servo = s.servo ∧ (s.consume line p c).south = s.south ∧
      (s.consume line p c).dater = s.dater ∧ (s.consume line p c).mon = s.mon ∧ (s.consume line p c).rep = s.rep ∧
      (s.consume line p c).agent = s.agent := by
  unfold State.consume; simp only; split <;> simp

@[simp] theorem State.passOn_frame (s : State) (line : Line) (p : Passage) :
    (s.passOn line p).pending = s.pending ∧ (s.passOn line p).phase = s.phase ∧ (s.passOn line p).supplyGood = s.supplyGood ∧
      (s.passOn line p).resetPin = s.resetPin ∧ (s.passOn line p).straps = s.straps ∧ (s.passOn line p).free = s.free ∧
      (s.passOn line p).clock = s.clock ∧ (s.passOn line p).pulse = s.pulse ∧ (s.passOn line p).exch = s.exch ∧
      (s.passOn line p).servo = s.servo ∧ (s.passOn line p).south = s.south ∧ (s.passOn line p).rep = s.rep ∧
      (s.passOn line p).agent = s.agent := by simp [State.passOn]

@[simp] theorem State.completeClassification_frame (s : State) (line : Line) :
    (s.completeClassification line).pending = s.pending ∧ (s.completeClassification line).phase = s.phase ∧ (s.completeClassification line).supplyGood = s.supplyGood ∧
      (s.completeClassification line).resetPin = s.resetPin ∧ (s.completeClassification line).straps = s.straps ∧ (s.completeClassification line).free = s.free ∧
      (s.completeClassification line).clock = s.clock ∧ (s.completeClassification line).pulse = s.pulse ∧ (s.completeClassification line).exch = s.exch ∧
      (s.completeClassification line).servo = s.servo ∧ (s.completeClassification line).south = s.south ∧ (s.completeClassification line).rep = s.rep ∧
      (s.completeClassification line).agent = s.agent := by
  unfold State.completeClassification; (repeat' split) <;> simp

@[simp] theorem State.startPayload_frame (s : State) (line : Line) :
    (s.startPayload line).pending = s.pending ∧ (s.startPayload line).phase = s.phase ∧ (s.startPayload line).supplyGood = s.supplyGood ∧
      (s.startPayload line).resetPin = s.resetPin ∧ (s.startPayload line).straps = s.straps ∧ (s.startPayload line).free = s.free ∧
      (s.startPayload line).clock = s.clock ∧ (s.startPayload line).pulse = s.pulse ∧ (s.startPayload line).cls = s.cls ∧
      (s.startPayload line).exch = s.exch ∧ (s.startPayload line).servo = s.servo ∧ (s.startPayload line).south = s.south ∧
      (s.startPayload line).dater = s.dater ∧ (s.startPayload line).mon = s.mon ∧ (s.startPayload line).rep = s.rep ∧
      (s.startPayload line).agent = s.agent := by
  unfold State.startPayload; (repeat' split) <;> simp

@[simp] theorem State.takeRequest_frame (s : State) (line : Line) (b : List Byte) :
    (s.takeRequest line b).pending = s.pending ∧ (s.takeRequest line b).phase = s.phase ∧ (s.takeRequest line b).supplyGood = s.supplyGood ∧
      (s.takeRequest line b).resetPin = s.resetPin ∧ (s.takeRequest line b).straps = s.straps ∧ (s.takeRequest line b).free = s.free ∧
      (s.takeRequest line b).clock = s.clock ∧ (s.takeRequest line b).pulse = s.pulse ∧ (s.takeRequest line b).lines = s.lines ∧
      (s.takeRequest line b).cls = s.cls ∧ (s.takeRequest line b).exch = s.exch ∧ (s.takeRequest line b).servo = s.servo ∧
      (s.takeRequest line b).south = s.south ∧ (s.takeRequest line b).dater = s.dater ∧ (s.takeRequest line b).mon = s.mon ∧
      (s.takeRequest line b).rep = s.rep := by
  unfold State.takeRequest; (repeat' split) <;> simp

@[simp] theorem State.deliver_frame (s : State) (line : Line) (c : Consumer) (b : List Byte) (x : Int) :
    (s.deliver line c b x).pending = s.pending ∧ (s.deliver line c b x).phase = s.phase ∧ (s.deliver line c b x).supplyGood = s.supplyGood ∧
      (s.deliver line c b x).resetPin = s.resetPin ∧ (s.deliver line c b x).straps = s.straps ∧ (s.deliver line c b x).free = s.free := by
  unfold State.deliver; (repeat' split) <;> simp

@[simp] theorem State.frameEndEvent_frame (s : State) (line : Line) (g : Bool) (n : Nat) :
    (s.frameEndEvent line g n).pending = s.pending ∧ (s.frameEndEvent line g n).phase = s.phase ∧ (s.frameEndEvent line g n).supplyGood = s.supplyGood ∧
      (s.frameEndEvent line g n).resetPin = s.resetPin ∧ (s.frameEndEvent line g n).straps = s.straps ∧ (s.frameEndEvent line g n).free = s.free ∧
      (s.frameEndEvent line g n).clock = s.clock ∧ (s.frameEndEvent line g n).pulse = s.pulse ∧ (s.frameEndEvent line g n).cls = s.cls ∧
      (s.frameEndEvent line g n).servo = s.servo ∧ (s.frameEndEvent line g n).agent = s.agent := by simp [State.frameEndEvent]

@[simp] theorem State.countLength_frame (s : State) (line : Line) :
    (s.countLength line).pending = s.pending ∧ (s.countLength line).phase = s.phase ∧ (s.countLength line).supplyGood = s.supplyGood ∧
      (s.countLength line).resetPin = s.resetPin ∧ (s.countLength line).straps = s.straps ∧ (s.countLength line).free = s.free ∧
      (s.countLength line).clock = s.clock ∧ (s.countLength line).pulse = s.pulse ∧ (s.countLength line).cls = s.cls ∧
      (s.countLength line).exch = s.exch ∧ (s.countLength line).servo = s.servo ∧ (s.countLength line).south = s.south ∧
      (s.countLength line).dater = s.dater ∧ (s.countLength line).mon = s.mon ∧ (s.countLength line).rep = s.rep ∧
      (s.countLength line).agent = s.agent := by simp [State.countLength]

@[simp] theorem State.repickDropped_frame (s : State) (line : Line) :
    (s.repickDropped line).pending = s.pending ∧ (s.repickDropped line).phase = s.phase ∧ (s.repickDropped line).supplyGood = s.supplyGood ∧
      (s.repickDropped line).resetPin = s.resetPin ∧ (s.repickDropped line).straps = s.straps ∧ (s.repickDropped line).free = s.free ∧
      (s.repickDropped line).clock = s.clock ∧ (s.repickDropped line).pulse = s.pulse ∧ (s.repickDropped line).cls = s.cls ∧
      (s.repickDropped line).exch = s.exch ∧ (s.repickDropped line).servo = s.servo ∧ (s.repickDropped line).south = s.south ∧
      (s.repickDropped line).dater = s.dater ∧ (s.repickDropped line).mon = s.mon ∧ (s.repickDropped line).rep = s.rep ∧
      (s.repickDropped line).agent = s.agent := by
  unfold State.repickDropped; (repeat' split) <;> simp

@[simp] theorem State.dropArriving_frame (s : State) (line : Line) :
    (s.dropArriving line).pending = s.pending ∧ (s.dropArriving line).phase = s.phase ∧ (s.dropArriving line).supplyGood = s.supplyGood ∧
      (s.dropArriving line).resetPin = s.resetPin ∧ (s.dropArriving line).straps = s.straps ∧ (s.dropArriving line).free = s.free ∧
      (s.dropArriving line).clock = s.clock ∧ (s.dropArriving line).pulse = s.pulse ∧ (s.dropArriving line).cls = s.cls ∧
      (s.dropArriving line).exch = s.exch ∧ (s.dropArriving line).servo = s.servo ∧ (s.dropArriving line).south = s.south ∧
      (s.dropArriving line).dater = s.dater ∧ (s.dropArriving line).mon = s.mon ∧ (s.dropArriving line).rep = s.rep ∧
      (s.dropArriving line).agent = s.agent := by simp [State.dropArriving]

@[simp] theorem State.endShort_frame (s : State) (line : Line) (p : Passage) :
    (s.endShort line p).pending = s.pending ∧ (s.endShort line p).phase = s.phase ∧ (s.endShort line p).supplyGood = s.supplyGood ∧
      (s.endShort line p).resetPin = s.resetPin ∧ (s.endShort line p).straps = s.straps ∧ (s.endShort line p).free = s.free ∧
      (s.endShort line p).clock = s.clock ∧ (s.endShort line p).pulse = s.pulse ∧ (s.endShort line p).cls = s.cls ∧
      (s.endShort line p).exch = s.exch ∧ (s.endShort line p).servo = s.servo ∧ (s.endShort line p).south = s.south ∧
      (s.endShort line p).dater = s.dater ∧ (s.endShort line p).mon = s.mon ∧ (s.endShort line p).rep = s.rep ∧
      (s.endShort line p).agent = s.agent := by
  unfold State.endShort; simp only; split <;> simp

@[simp] theorem State.endLegal_frame (s : State) (line : Line) (p : Passage) :
    (s.endLegal line p).pending = s.pending ∧ (s.endLegal line p).phase = s.phase ∧ (s.endLegal line p).supplyGood = s.supplyGood ∧
      (s.endLegal line p).resetPin = s.resetPin ∧ (s.endLegal line p).straps = s.straps ∧ (s.endLegal line p).free = s.free := by
  unfold State.endLegal; simp only; (repeat' split) <;> simp

@[simp] theorem State.endFrame_frame (s : State) (line : Line) :
    (s.endFrame line).pending = s.pending ∧ (s.endFrame line).phase = s.phase ∧ (s.endFrame line).supplyGood = s.supplyGood ∧
      (s.endFrame line).resetPin = s.resetPin ∧ (s.endFrame line).straps = s.straps ∧ (s.endFrame line).free = s.free := by
  unfold State.endFrame; (repeat' split) <;> simp

@[simp] theorem State.overlong_frame (s : State) (line : Line) (p : Passage) :
    (s.overlong line p).pending = s.pending ∧ (s.overlong line p).phase = s.phase ∧ (s.overlong line p).supplyGood = s.supplyGood ∧
      (s.overlong line p).resetPin = s.resetPin ∧ (s.overlong line p).straps = s.straps ∧ (s.overlong line p).free = s.free ∧
      (s.overlong line p).clock = s.clock ∧ (s.overlong line p).pulse = s.pulse ∧ (s.overlong line p).cls = s.cls ∧
      (s.overlong line p).servo = s.servo ∧ (s.overlong line p).agent = s.agent := by
  unfold State.overlong; simp only; split <;> simp

@[simp] theorem State.reachOverlength_frame (s : State) (line : Line) :
    (s.reachOverlength line).pending = s.pending ∧ (s.reachOverlength line).phase = s.phase ∧ (s.reachOverlength line).supplyGood = s.supplyGood ∧
      (s.reachOverlength line).resetPin = s.resetPin ∧ (s.reachOverlength line).straps = s.straps ∧ (s.reachOverlength line).free = s.free ∧
      (s.reachOverlength line).clock = s.clock ∧ (s.reachOverlength line).pulse = s.pulse ∧ (s.reachOverlength line).cls = s.cls ∧
      (s.reachOverlength line).servo = s.servo ∧ (s.reachOverlength line).agent = s.agent := by
  unfold State.reachOverlength; (repeat' split) <;> simp

@[simp] theorem State.departPassing_frame (s : State) (line : Line) :
    (s.departPassing line).pending = s.pending ∧ (s.departPassing line).phase = s.phase ∧ (s.departPassing line).supplyGood = s.supplyGood ∧
      (s.departPassing line).resetPin = s.resetPin ∧ (s.departPassing line).straps = s.straps ∧ (s.departPassing line).free = s.free ∧
      (s.departPassing line).clock = s.clock ∧ (s.departPassing line).pulse = s.pulse ∧ (s.departPassing line).cls = s.cls ∧
      (s.departPassing line).exch = s.exch ∧ (s.departPassing line).servo = s.servo ∧ (s.departPassing line).south = s.south ∧
      (s.departPassing line).dater = s.dater ∧ (s.departPassing line).mon = s.mon ∧ (s.departPassing line).rep = s.rep ∧
      (s.departPassing line).agent = s.agent := by simp [State.departPassing]

@[simp] theorem State.tellDeparture_frame (s : State) (f : OwnFrame) :
    (s.tellDeparture f).pending = s.pending ∧ (s.tellDeparture f).phase = s.phase ∧ (s.tellDeparture f).supplyGood = s.supplyGood ∧
      (s.tellDeparture f).resetPin = s.resetPin ∧ (s.tellDeparture f).straps = s.straps ∧ (s.tellDeparture f).free = s.free ∧
      (s.tellDeparture f).clock = s.clock ∧ (s.tellDeparture f).pulse = s.pulse ∧ (s.tellDeparture f).lines = s.lines ∧
      (s.tellDeparture f).cls = s.cls ∧ (s.tellDeparture f).servo = s.servo ∧ (s.tellDeparture f).south = s.south ∧
      (s.tellDeparture f).dater = s.dater ∧ (s.tellDeparture f).mon = s.mon ∧ (s.tellDeparture f).rep = s.rep := by
  unfold State.tellDeparture; simp only; (repeat' split) <;> simp

@[simp] theorem State.departOwn_frame (s : State) (line : Line) (i : Nat) :
    (s.departOwn line i).pending = s.pending ∧ (s.departOwn line i).phase = s.phase ∧ (s.departOwn line i).supplyGood = s.supplyGood ∧
      (s.departOwn line i).resetPin = s.resetPin ∧ (s.departOwn line i).straps = s.straps ∧ (s.departOwn line i).free = s.free ∧
      (s.departOwn line i).clock = s.clock ∧ (s.departOwn line i).pulse = s.pulse ∧ (s.departOwn line i).cls = s.cls ∧
      (s.departOwn line i).servo = s.servo ∧ (s.departOwn line i).mon = s.mon := by
  unfold State.departOwn; simp only; split <;> simp

@[simp] theorem State.departFrame_frame (s : State) (line : Line) :
    (s.departFrame line).pending = s.pending ∧ (s.departFrame line).phase = s.phase ∧ (s.departFrame line).supplyGood = s.supplyGood ∧
      (s.departFrame line).resetPin = s.resetPin ∧ (s.departFrame line).straps = s.straps ∧ (s.departFrame line).free = s.free ∧
      (s.departFrame line).clock = s.clock ∧ (s.departFrame line).pulse = s.pulse ∧ (s.departFrame line).cls = s.cls ∧
      (s.departFrame line).servo = s.servo ∧ (s.departFrame line).mon = s.mon := by
  unfold State.departFrame; (repeat' split) <;> simp

@[simp] theorem State.finishSending_frame (s : State) (line : Line) (b : List Byte) :
    (s.finishSending line b).pending = s.pending ∧ (s.finishSending line b).phase = s.phase ∧ (s.finishSending line b).supplyGood = s.supplyGood ∧
      (s.finishSending line b).resetPin = s.resetPin ∧ (s.finishSending line b).straps = s.straps ∧ (s.finishSending line b).free = s.free ∧
      (s.finishSending line b).clock = s.clock ∧ (s.finishSending line b).pulse = s.pulse ∧ (s.finishSending line b).cls = s.cls ∧
      (s.finishSending line b).exch = s.exch ∧ (s.finishSending line b).servo = s.servo ∧ (s.finishSending line b).south = s.south ∧
      (s.finishSending line b).dater = s.dater ∧ (s.finishSending line b).mon = s.mon ∧ (s.finishSending line b).rep = s.rep ∧
      (s.finishSending line b).agent = s.agent := by simp [State.finishSending]

@[simp] theorem State.endTransmit_frame (s : State) (line : Line) :
    (s.endTransmit line).pending = s.pending ∧ (s.endTransmit line).phase = s.phase ∧ (s.endTransmit line).supplyGood = s.supplyGood ∧
      (s.endTransmit line).resetPin = s.resetPin ∧ (s.endTransmit line).straps = s.straps ∧ (s.endTransmit line).free = s.free ∧
      (s.endTransmit line).clock = s.clock ∧ (s.endTransmit line).pulse = s.pulse ∧ (s.endTransmit line).cls = s.cls ∧
      (s.endTransmit line).exch = s.exch ∧ (s.endTransmit line).servo = s.servo ∧ (s.endTransmit line).south = s.south ∧
      (s.endTransmit line).dater = s.dater ∧ (s.endTransmit line).mon = s.mon ∧ (s.endTransmit line).rep = s.rep ∧
      (s.endTransmit line).agent = s.agent := by
  unfold State.endTransmit; (repeat' split) <;> simp

@[simp] theorem State.settleConverted_frame (s : State) (line : Line) :
    (s.settleConverted line).pending = s.pending ∧ (s.settleConverted line).phase = s.phase ∧ (s.settleConverted line).supplyGood = s.supplyGood ∧
      (s.settleConverted line).resetPin = s.resetPin ∧ (s.settleConverted line).straps = s.straps ∧ (s.settleConverted line).free = s.free ∧
      (s.settleConverted line).clock = s.clock ∧ (s.settleConverted line).pulse = s.pulse ∧ (s.settleConverted line).cls = s.cls ∧
      (s.settleConverted line).exch = s.exch ∧ (s.settleConverted line).servo = s.servo ∧ (s.settleConverted line).south = s.south ∧
      (s.settleConverted line).dater = s.dater ∧ (s.settleConverted line).mon = s.mon ∧ (s.settleConverted line).rep = s.rep := by
  unfold State.settleConverted
  apply foldl_keeps (fun t => t.pending = s.pending ∧ t.phase = s.phase ∧ t.supplyGood = s.supplyGood ∧ t.resetPin = s.resetPin ∧ t.straps = s.straps ∧ t.free = s.free ∧ t.clock = s.clock ∧ t.pulse = s.pulse ∧ t.cls = s.cls ∧ t.exch = s.exch ∧ t.servo = s.servo ∧ t.south = s.south ∧ t.dater = s.dater ∧ t.mon = s.mon ∧ t.rep = s.rep)
  · intro t p h; split
    · simpa using h
    · exact h
  · simp

@[simp] theorem State.convertLine_frame (s : State) (line : Line) :
    (s.convertLine line).pending = s.pending ∧ (s.convertLine line).phase = s.phase ∧ (s.convertLine line).supplyGood = s.supplyGood ∧
      (s.convertLine line).resetPin = s.resetPin ∧ (s.convertLine line).straps = s.straps ∧ (s.convertLine line).free = s.free ∧
      (s.convertLine line).clock = s.clock ∧ (s.convertLine line).pulse = s.pulse ∧ (s.convertLine line).cls = s.cls ∧
      (s.convertLine line).exch = s.exch ∧ (s.convertLine line).servo = s.servo ∧ (s.convertLine line).south = s.south ∧
      (s.convertLine line).dater = s.dater ∧ (s.convertLine line).mon = s.mon ∧ (s.convertLine line).rep = s.rep := by simp [State.convertLine]

@[simp] theorem State.reconsider_frame (s : State) (line : Line) :
    (s.reconsider line).pending = s.pending ∧ (s.reconsider line).phase = s.phase ∧ (s.reconsider line).supplyGood = s.supplyGood ∧
      (s.reconsider line).resetPin = s.resetPin ∧ (s.reconsider line).straps = s.straps ∧ (s.reconsider line).free = s.free ∧
      (s.reconsider line).clock = s.clock ∧ (s.reconsider line).pulse = s.pulse ∧ (s.reconsider line).cls = s.cls ∧
      (s.reconsider line).exch = s.exch ∧ (s.reconsider line).servo = s.servo ∧ (s.reconsider line).south = s.south ∧
      (s.reconsider line).dater = s.dater ∧ (s.reconsider line).mon = s.mon ∧ (s.reconsider line).rep = s.rep ∧
      (s.reconsider line).agent = s.agent := by simp [State.reconsider]

@[simp] theorem State.enterBypass_frame (s : State) :
    s.enterBypass.pending = s.pending ∧ s.enterBypass.phase = s.phase ∧ s.enterBypass.supplyGood = s.supplyGood ∧
      s.enterBypass.resetPin = s.resetPin ∧ s.enterBypass.straps = s.straps ∧ s.enterBypass.free = s.free ∧
      s.enterBypass.clock = s.clock ∧ s.enterBypass.pulse = s.pulse ∧ s.enterBypass.cls = s.cls ∧
      s.enterBypass.exch = s.exch ∧ s.enterBypass.servo = s.servo ∧ s.enterBypass.south = s.south ∧
      s.enterBypass.dater = s.dater ∧ s.enterBypass.mon = s.mon ∧ s.enterBypass.rep = s.rep := by simp [State.enterBypass]

@[simp] theorem State.enterActive_frame (s : State) :
    s.enterActive.pending = s.pending ∧ s.enterActive.phase = s.phase ∧ s.enterActive.supplyGood = s.supplyGood ∧
      s.enterActive.resetPin = s.resetPin ∧ s.enterActive.straps = s.straps ∧ s.enterActive.free = s.free ∧
      s.enterActive.clock = s.clock ∧ s.enterActive.pulse = s.pulse ∧ s.enterActive.cls = s.cls ∧
      s.enterActive.exch = s.exch ∧ s.enterActive.servo = s.servo ∧ s.enterActive.south = s.south ∧
      s.enterActive.dater = s.dater ∧ s.enterActive.mon = s.mon ∧ s.enterActive.rep = s.rep ∧
      s.enterActive.agent = s.agent := by simp [State.enterActive]

/-! ### The agent and its answers (Agent) -/

@[simp] theorem State.offerResponse_frame (s : State) (line : Line) (f : OwnFrame) :
    (s.offerResponse line f).pending = s.pending ∧ (s.offerResponse line f).phase = s.phase ∧ (s.offerResponse line f).supplyGood = s.supplyGood ∧
      (s.offerResponse line f).resetPin = s.resetPin ∧ (s.offerResponse line f).straps = s.straps ∧ (s.offerResponse line f).free = s.free ∧
      (s.offerResponse line f).clock = s.clock ∧ (s.offerResponse line f).pulse = s.pulse ∧ (s.offerResponse line f).cls = s.cls ∧
      (s.offerResponse line f).exch = s.exch ∧ (s.offerResponse line f).servo = s.servo ∧ (s.offerResponse line f).south = s.south ∧
      (s.offerResponse line f).dater = s.dater ∧ (s.offerResponse line f).mon = s.mon ∧ (s.offerResponse line f).rep = s.rep := by
  unfold State.offerResponse; (repeat' split) <;> simp

@[simp] theorem State.respond_frame (s : State) (r : Request) (x : Status) (l : List ItemResult) :
    (s.respond r x l).pending = s.pending ∧ (s.respond r x l).phase = s.phase ∧ (s.respond r x l).supplyGood = s.supplyGood ∧
      (s.respond r x l).resetPin = s.resetPin ∧ (s.respond r x l).straps = s.straps ∧ (s.respond r x l).free = s.free ∧
      (s.respond r x l).clock = s.clock ∧ (s.respond r x l).pulse = s.pulse ∧ (s.respond r x l).cls = s.cls ∧
      (s.respond r x l).exch = s.exch ∧ (s.respond r x l).servo = s.servo ∧ (s.respond r x l).south = s.south ∧
      (s.respond r x l).dater = s.dater ∧ (s.respond r x l).mon = s.mon ∧ (s.respond r x l).rep = s.rep := by simp [State.respond]

@[simp] theorem State.respondReset_frame (s : State) (r : Request) (f : Bool) :
    (s.respondReset r f).pending = s.pending ∧ (s.respondReset r f).phase = s.phase ∧ (s.respondReset r f).supplyGood = s.supplyGood ∧
      (s.respondReset r f).resetPin = s.resetPin ∧ (s.respondReset r f).straps = s.straps ∧ (s.respondReset r f).free = s.free ∧
      (s.respondReset r f).clock = s.clock ∧ (s.respondReset r f).pulse = s.pulse ∧ (s.respondReset r f).cls = s.cls ∧
      (s.respondReset r f).exch = s.exch ∧ (s.respondReset r f).servo = s.servo ∧ (s.respondReset r f).south = s.south ∧
      (s.respondReset r f).dater = s.dater ∧ (s.respondReset r f).mon = s.mon ∧ (s.respondReset r f).rep = s.rep := by simp [State.respondReset]

@[simp] theorem State.finishItem_frame (s : State) (r : Request) (x : ItemResult) :
    (s.finishItem r x).pending = s.pending ∧ (s.finishItem r x).phase = s.phase ∧ (s.finishItem r x).supplyGood = s.supplyGood ∧
      (s.finishItem r x).resetPin = s.resetPin ∧ (s.finishItem r x).straps = s.straps ∧ (s.finishItem r x).free = s.free ∧
      (s.finishItem r x).clock = s.clock ∧ (s.finishItem r x).pulse = s.pulse ∧ (s.finishItem r x).cls = s.cls ∧
      (s.finishItem r x).exch = s.exch ∧ (s.finishItem r x).servo = s.servo ∧ (s.finishItem r x).south = s.south ∧
      (s.finishItem r x).dater = s.dater ∧ (s.finishItem r x).mon = s.mon ∧ (s.finishItem r x).rep = s.rep := by
  unfold State.finishItem; simp only; split <;> simp

/-! ### Operations that choose between two outcomes -/

/-- Scheduling the revert expiry anew can change the expiry and nothing else of the servo (R98). -/
theorem Servo.reschedule_eq (v old : Servo) :
    let kept : Prop := v.mark v.primary = old.mark old.primary ∧ v.revertTime = old.revertTime
    (kept → v.reschedule old = v) ∧ (¬kept → v.reschedule old = { v with revertIn := v.revertDistance }) := by
  unfold Servo.reschedule; exact ⟨fun h => if_pos h, fun h => if_neg h⟩

/-- A trailing edge first qualifies a pulse that is due, and otherwise leaves all as it stands (R12). -/
theorem State.qualifyDue_cases (s : State) :
    (s.qualifyDue = s.qualify ∧ s.phase = .running ∧ s.debounceIn = some 0) ∨
      (s.qualifyDue = s ∧ ¬(s.phase = .running ∧ s.debounceIn = some 0)) := by
  unfold State.qualifyDue; split <;> simp_all

/-- As an own frame joins, the arbiter picks over all candidates or leaves its pick as it stands (R33). -/
theorem State.pickAtJoining_cases (s : State) (line : Line) :
    s.pickAtJoining line = s.pick line ∨ s.pickAtJoining line = s := by
  unfold State.pickAtJoining; split <;> simp

end Sys2Proof.Machine
end

