-- ==== Sys2Proof/Laws/Answering.lean ====
section
/-! SUPPORT. What the agent's shared operations can do: how a row carries out its item, and how an item is answered
(R167, R168, R170, R171). -/

namespace Sys2Proof.Machine

/-! ### A row carries out the next item -/

/-- The item in hand is carried out, and its result kept or answered. -/
theorem State.carryOut_item {s t : State} {r : Request} {i : ReqItem} {x : ItemResult}
    {work : State → ReqItem → Option (State × ItemResult)} (h : s.currentItem = some (r, i))
    (w : work s i = some (t, x)) : s.carryOut work = t.finishItem r x := by
  simp only [State.carryOut, h, w]

/-- The same, with the work's outcome as it comes. -/
theorem State.carryOut_work {s : State} {r : Request} {i : ReqItem} {p : State × ItemResult}
    {work : State → ReqItem → Option (State × ItemResult)} (h : s.currentItem = some (r, i)) (w : work s i = some p) :
    s.carryOut work = p.1.finishItem r p.2 := State.carryOut_item h w

/-- Where the item is not one of the row's own, nothing happens. -/
theorem State.carryOut_other {s : State} {r : Request} {i : ReqItem}
    {work : State → ReqItem → Option (State × ItemResult)} (h : s.currentItem = some (r, i)) (w : work s i = none) :
    s.carryOut work = s := by
  simp only [State.carryOut, h, w]

/-- With no item in hand, nothing happens. -/
theorem State.carryOut_none {s : State} {work : State → ReqItem → Option (State × ItemResult)}
    (h : s.currentItem = none) : s.carryOut work = s := by
  simp only [State.carryOut, h]

/-- All that carrying out can do. -/
theorem State.carryOut_cases (s : State) (work : State → ReqItem → Option (State × ItemResult)) :
    s.carryOut work = s ∨
      ∃ r i t x, s.currentItem = some (r, i) ∧ work s i = some (t, x) ∧ s.carryOut work = t.finishItem r x := by
  cases h : s.currentItem with
  | none => exact .inl (State.carryOut_none h)
  | some p =>
    obtain ⟨r, i⟩ := p
    cases w : work s i with
    | none => exact .inl (State.carryOut_other h w)
    | some q => exact .inr ⟨r, i, q.1, q.2, rfl, w, State.carryOut_item h w⟩

/-- A READ in hand is carried out, refused, or found not to fit. -/
theorem State.carryRead_item {s : State} {r : Request} {i : ReqItem} {x : ReadResult}
    {read : State → ReqItem → Option ReadResult} (h : s.currentItem = some (r, i)) (w : read s i = some x) :
    s.carryRead read = (s.readOutcome r x).1.finishItem r (s.readOutcome r x).2 := by
  simp only [State.carryRead, h, w]

/-- All that a READ can do. -/
theorem State.carryRead_cases (s : State) (read : State → ReqItem → Option ReadResult) :
    s.carryRead read = s ∨
      ∃ r i x, s.currentItem = some (r, i) ∧ read s i = some x ∧
        s.carryRead read = (s.readOutcome r x).1.finishItem r (s.readOutcome r x).2 := by
  cases h : s.currentItem with
  | none => exact .inl (by simp only [State.carryRead, h])
  | some p =>
    obtain ⟨r, i⟩ := p
    cases w : read s i with
    | none => exact .inl (by simp only [State.carryRead, h, w])
    | some x => exact .inr ⟨r, i, x, rfl, w, State.carryRead_item h w⟩

/-- A READ that fits, before any other failed to fit, is answered with what was read. -/
theorem State.readOutcome_fits {s t : State} {r : Request} {content : List Byte} (o : s.agent.overflowed = false)
    (f : s.fits r content = true) :
    s.readOutcome r (some (content, t)) = (t, { status := .ok, content := content }) := by
  simp [State.readOutcome, o, f]

/-- What a READ leaves: the state as read, the state itself, or the state with the mark that a READ did not fit. -/
theorem State.readOutcome_cases (s : State) (r : Request) (x : ReadResult) :
    (∃ c t, x = some (c, t) ∧ (s.readOutcome r x).1 = t) ∨ (s.readOutcome r x).1 = s ∨
      (s.readOutcome r x).1 = s.setAgent { s.agent with overflowed := true } := by
  unfold State.readOutcome
  split
  · exact .inr (.inl rfl)
  · cases x with
    | none => exact .inr (.inl rfl)
    | some p =>
      obtain ⟨c, t⟩ := p
      simp only
      split
      · exact .inl ⟨c, t, rfl, rfl⟩
      · exact .inr (.inr rfl)

/-! ### An item is answered -/

/-- An item that is not the request's last leaves its result with the agent, and that is all (R167). -/
theorem State.finishItem_kept {s : State} {r : Request} {x : ItemResult}
    (h : s.agent.results.length + 1 ≠ r.responseItems) :
    s.finishItem r x = s.setAgent { s.agent with results := s.agent.results ++ [x] } := by
  simp [State.finishItem, h]

/-- The request's last item brings the response (R167, R170). -/
theorem State.finishItem_last {s : State} {r : Request} {x : ItemResult}
    (h : s.agent.results.length + 1 = r.responseItems) :
    s.finishItem r x = s.respond r (requestStatus (s.agent.results ++ [x])) (s.agent.results ++ [x]) := by
  simp [State.finishItem, h]

/-- A response that finds a place joins its line's origin queue, and the request leaves the queue (R170). -/
theorem State.respond_joins {s : State} {r : Request} {status : Status} {results : List ItemResult}
    (h : s.hasPlace r.line = true) :
    s.respond r status results =
      (s.join r.line (s.response r status results)).setAgent s.agent.endHandling := by
  simp [State.respond, State.offerResponse, h]

/-- A response that finds none is dropped and counted (R170). -/
theorem State.respond_drops {s : State} {r : Request} {status : Status} {results : List ItemResult}
    (h : s.hasPlace r.line = false) :
    s.respond r status results =
      s.setAgent { s.agent.endHandling with responseDropped := count16 s.agent.responseDropped } := by
  simp [State.respond, State.offerResponse, h, Agent.endHandling]

/-- The configured fields of the agent are its owner's: answering an item leaves them (R167, R170). -/
theorem State.finishItem_agent (s : State) (r : Request) (x : ItemResult) :
    (s.finishItem r x).agent.address = s.agent.address ∧
      (s.finishItem r x).agent.southManagement = s.agent.southManagement ∧
      (s.finishItem r x).agent.managers = s.agent.managers ∧ (s.finishItem r x).agent.hold = s.agent.hold := by
  by_cases h : s.agent.results.length + 1 = r.responseItems
  · rw [State.finishItem_last h]
    by_cases p : s.hasPlace r.line = true
    · rw [State.respond_joins p]; simp [Agent.endHandling]
    · rw [State.respond_drops (by simpa using p)]; simp [Agent.endHandling]
  · rw [State.finishItem_kept h]; simp

end Sys2Proof.Machine
end

