-- ==== Sys2Proof/Laws/PerInstr.lean ====
section
/-! SUPPORT. What holds of every command as syntax, one lemma for each. -/

namespace Sys2Proof.Laws

/-- No word spells the command: the table gives no row any bits (log entry 29). -/
def NoWord.Statement (i : Instr) : Prop := ∀ nbits w : Nat, decodeTableWord nbits w ≠ some i

theorem NoWord.powerOn : NoWord.Statement .powerOn := fun _ _ h => nomatch h
theorem NoWord.powerGood (dt : Nat) (straps : BitVec 6) : NoWord.Statement (.powerGood dt straps) := fun _ _ h => nomatch h
theorem NoWord.resetPinAssert (dt : Nat) (heldNs : Nat) : NoWord.Statement (.resetPinAssert dt heldNs) := fun _ _ h => nomatch h
theorem NoWord.resetPinRelease (dt : Nat) (straps : BitVec 6) : NoWord.Statement (.resetPinRelease dt straps) := fun _ _ h => nomatch h
theorem NoWord.runCounterTick : NoWord.Statement .runCounterTick := fun _ _ h => nomatch h
theorem NoWord.bootWindowEnd : NoWord.Statement .bootWindowEnd := fun _ _ h => nomatch h
theorem NoWord.boundaryReached : NoWord.Statement .boundaryReached := fun _ _ h => nomatch h
theorem NoWord.pulseLeadingEdge (dt : Nat) : NoWord.Statement (.pulseLeadingEdge dt) := fun _ _ h => nomatch h
theorem NoWord.pulseInputInactive (dt : Nat) : NoWord.Statement (.pulseInputInactive dt) := fun _ _ h => nomatch h
theorem NoWord.debounceExpiry : NoWord.Statement .debounceExpiry := fun _ _ h => nomatch h
theorem NoWord.frameFirstByte (dt : Nat) (line : Line) (bytes : List Byte) : NoWord.Statement (.frameFirstByte dt line bytes) := fun _ _ h => nomatch h
theorem NoWord.bypassPayloadStart (dt : Nat) (line : Line) : NoWord.Statement (.bypassPayloadStart dt line) := fun _ _ h => nomatch h
theorem NoWord.classificationComplete (dt : Nat) (line : Line) : NoWord.Statement (.classificationComplete dt line) := fun _ _ h => nomatch h
theorem NoWord.frameEnd (dt : Nat) (line : Line) : NoWord.Statement (.frameEnd dt line) := fun _ _ h => nomatch h
theorem NoWord.frameOverlength (dt : Nat) (line : Line) : NoWord.Statement (.frameOverlength dt line) := fun _ _ h => nomatch h
theorem NoWord.frameDeparture (line : Line) : NoWord.Statement (.frameDeparture line) := fun _ _ h => nomatch h
theorem NoWord.transmitEnd (dt : Nat) (line : Line) : NoWord.Statement (.transmitEnd dt line) := fun _ _ h => nomatch h
theorem NoWord.queryTimerExpiry : NoWord.Statement .queryTimerExpiry := fun _ _ h => nomatch h
theorem NoWord.replyWindowExpiry : NoWord.Statement .replyWindowExpiry := fun _ _ h => nomatch h
theorem NoWord.pulseLivenessExpiry : NoWord.Statement .pulseLivenessExpiry := fun _ _ h => nomatch h
theorem NoWord.holdoverLimitExpiry : NoWord.Statement .holdoverLimitExpiry := fun _ _ h => nomatch h
theorem NoWord.uCeiling : NoWord.Statement .uCeiling := fun _ _ h => nomatch h
theorem NoWord.revertExpiry : NoWord.Statement .revertExpiry := fun _ _ h => nomatch h
theorem NoWord.gradeTimerExpiry : NoWord.Statement .gradeTimerExpiry := fun _ _ h => nomatch h
theorem NoWord.evaluation : NoWord.Statement .evaluation := fun _ _ h => nomatch h
theorem NoWord.summaryTimerExpiry : NoWord.Statement .summaryTimerExpiry := fun _ _ h => nomatch h
theorem NoWord.reportLatencyExpiry : NoWord.Statement .reportLatencyExpiry := fun _ _ h => nomatch h
theorem NoWord.noticeHoldoffExpiry : NoWord.Statement .noticeHoldoffExpiry := fun _ _ h => nomatch h
theorem NoWord.pulseLineStart (number : Nat) : NoWord.Statement (.pulseLineStart number) := fun _ _ h => nomatch h
theorem NoWord.pulseLineEnd (number : Nat) : NoWord.Statement (.pulseLineEnd number) := fun _ _ h => nomatch h
theorem NoWord.resetHoldExpiry (straps : BitVec 6) : NoWord.Statement (.resetHoldExpiry straps) := fun _ _ h => nomatch h
theorem NoWord.requestBadCommand (dt : Nat) : NoWord.Statement (.requestBadCommand dt) := fun _ _ h => nomatch h
theorem NoWord.requestBadItems (dt : Nat) : NoWord.Statement (.requestBadItems dt) := fun _ _ h => nomatch h
theorem NoWord.readSettings (dt : Nat) : NoWord.Statement (.readSettings dt) := fun _ _ h => nomatch h
theorem NoWord.readClassTable (dt : Nat) : NoWord.Statement (.readClassTable dt) := fun _ _ h => nomatch h
theorem NoWord.readMatchCounts (dt : Nat) : NoWord.Statement (.readMatchCounts dt) := fun _ _ h => nomatch h
theorem NoWord.readOriginTable (dt : Nat) : NoWord.Statement (.readOriginTable dt) := fun _ _ h => nomatch h
theorem NoWord.readRackTable (dt : Nat) : NoWord.Statement (.readRackTable dt) := fun _ _ h => nomatch h
theorem NoWord.readManagerList (dt : Nat) : NoWord.Statement (.readManagerList dt) := fun _ _ h => nomatch h
theorem NoWord.readStreamTable (dt : Nat) : NoWord.Statement (.readStreamTable dt) := fun _ _ h => nomatch h
theorem NoWord.readCountGroup (dt : Nat) : NoWord.Statement (.readCountGroup dt) := fun _ _ h => nomatch h
theorem NoWord.readBlockStatus (dt : Nat) : NoWord.Statement (.readBlockStatus dt) := fun _ _ h => nomatch h
theorem NoWord.writeSetting (dt : Nat) : NoWord.Statement (.writeSetting dt) := fun _ _ h => nomatch h
theorem NoWord.writePulsePolarity (dt : Nat) : NoWord.Statement (.writePulsePolarity dt) := fun _ _ h => nomatch h
theorem NoWord.writeLeaderAddress (dt : Nat) : NoWord.Statement (.writeLeaderAddress dt) := fun _ _ h => nomatch h
theorem NoWord.writeReference (dt : Nat) : NoWord.Statement (.writeReference dt) := fun _ _ h => nomatch h
theorem NoWord.writeAMax (dt : Nat) : NoWord.Statement (.writeAMax dt) := fun _ _ h => nomatch h
theorem NoWord.writeHoldoverBound (dt : Nat) : NoWord.Statement (.writeHoldoverBound dt) := fun _ _ h => nomatch h
theorem NoWord.writeHoldoverLimit (dt : Nat) : NoWord.Statement (.writeHoldoverLimit dt) := fun _ _ h => nomatch h
theorem NoWord.writeWindowSize (dt : Nat) : NoWord.Statement (.writeWindowSize dt) := fun _ _ h => nomatch h
theorem NoWord.writeRevertSetting (dt : Nat) : NoWord.Statement (.writeRevertSetting dt) := fun _ _ h => nomatch h
theorem NoWord.writeEvaluationInterval (dt : Nat) : NoWord.Statement (.writeEvaluationInterval dt) := fun _ _ h => nomatch h
theorem NoWord.writeSettleCount (dt : Nat) : NoWord.Statement (.writeSettleCount dt) := fun _ _ h => nomatch h
theorem NoWord.writeCollectorAddress (dt : Nat) : NoWord.Statement (.writeCollectorAddress dt) := fun _ _ h => nomatch h
theorem NoWord.writeCollectorLine (dt : Nat) : NoWord.Statement (.writeCollectorLine dt) := fun _ _ h => nomatch h
theorem NoWord.writeSummaryInterval (dt : Nat) : NoWord.Statement (.writeSummaryInterval dt) := fun _ _ h => nomatch h
theorem NoWord.writePulseLineMode (dt : Nat) : NoWord.Statement (.writePulseLineMode dt) := fun _ _ h => nomatch h
theorem NoWord.writeDrainSetting (dt : Nat) : NoWord.Statement (.writeDrainSetting dt) := fun _ _ h => nomatch h
theorem NoWord.writeClassEntry (dt : Nat) : NoWord.Statement (.writeClassEntry dt) := fun _ _ h => nomatch h
theorem NoWord.writeOriginEntry (dt : Nat) : NoWord.Statement (.writeOriginEntry dt) := fun _ _ h => nomatch h
theorem NoWord.writeRackEntry (dt : Nat) : NoWord.Statement (.writeRackEntry dt) := fun _ _ h => nomatch h
theorem NoWord.writeManagerPlace (dt : Nat) : NoWord.Statement (.writeManagerPlace dt) := fun _ _ h => nomatch h
theorem NoWord.copy (dt : Nat) : NoWord.Statement (.copy dt) := fun _ _ h => nomatch h
theorem NoWord.swap (dt : Nat) : NoWord.Statement (.swap dt) := fun _ _ h => nomatch h
theorem NoWord.servoAuto (dt : Nat) : NoWord.Statement (.servoAuto dt) := fun _ _ h => nomatch h
theorem NoWord.servoHeld (dt : Nat) : NoWord.Statement (.servoHeld dt) := fun _ _ h => nomatch h
theorem NoWord.servoAlign (dt : Nat) : NoWord.Statement (.servoAlign dt) := fun _ _ h => nomatch h
theorem NoWord.servoSetRate (dt : Nat) : NoWord.Statement (.servoSetRate dt) := fun _ _ h => nomatch h
theorem NoWord.setTime (dt : Nat) : NoWord.Statement (.setTime dt) := fun _ _ h => nomatch h
theorem NoWord.captureRead (dt : Nat) : NoWord.Statement (.captureRead dt) := fun _ _ h => nomatch h
theorem NoWord.captureNow (dt : Nat) : NoWord.Statement (.captureNow dt) := fun _ _ h => nomatch h
theorem NoWord.clear (dt : Nat) : NoWord.Statement (.clear dt) := fun _ _ h => nomatch h
theorem NoWord.summary (dt : Nat) : NoWord.Statement (.summary dt) := fun _ _ h => nomatch h
theorem NoWord.bypassOn (dt : Nat) : NoWord.Statement (.bypassOn dt) := fun _ _ h => nomatch h
theorem NoWord.bypassOff (dt : Nat) : NoWord.Statement (.bypassOff dt) := fun _ _ h => nomatch h
theorem NoWord.resetWarm (dt : Nat) : NoWord.Statement (.resetWarm dt) := fun _ _ h => nomatch h
theorem NoWord.resetFull (dt : Nat) : NoWord.Statement (.resetFull dt) := fun _ _ h => nomatch h

end Sys2Proof.Laws
end

