-- ==== Sys2Proof/WellFormed.lean ====
section
/-! DEFINITION. Which commands are well formed: those whose operands name something the part has. -/

namespace Sys2Proof

/-- A command is well formed when its operands name something that exists: a frame that has a first byte, a pulse line
among the four (R160). Every other operand is admitted at every value of its type. -/
def Instr.wellFormed : Instr → Bool
  | .frameFirstByte _ _ bytes => !bytes.isEmpty
  | .pulseLineStart number => number < 4
  | .pulseLineEnd number => number < 4
  | _ => true

end Sys2Proof
end

