-- ==== Sys2Proof/Tests/Slice0.lean ====
section
/-! SUPPORT. Tests: the smoke tests of WellFormed, the manual's worked examples, and for each statement that has
hypotheses a concrete state and operands that meet them, clause by clause. -/

namespace Sys2Proof.Tests

open Sys2Proof Sys2Proof.Machine

set_option Elab.async false

/-! ## Small states -/

/-- The part in ACTIVE, shortly after its boot window. -/
def running : State := { State.reset with lines := { LinePair.initial with mode := .active } }

/-- A request of one item from a station on line N. -/
def asking (command : Byte) (content : List Byte) : Request where
  line := .north
  source := 0x0A0000000001
  tag := none
  body := [1, 1, 0x03, 0x12, command, 1] ++ beBytes 2 content.length ++ content

/-- A request without an item list. -/
def askingBare (command : Byte) : Request := { asking command [] with body := [1, 1, 0x03, 0x12, command, 0] }

/-- A state with one request in its queue. -/
def handed (s : State) (r : Request) : State := { s with agent := { s.agent with queue := [r] } }

/-- The content of a WRITE item of a setting (R178). -/
def setting (id : Nat) (v : BitVec 64) : List Byte := [0] ++ beBytes 2 id ++ beBytes 8 v.toNat

/-- The request to write a setting. -/
def writing (id : Nat) (v : BitVec 64) : Request := asking 2 (setting id v)

/-- The state a command leads to. -/
def after (c : Instr) (s : State) : State :=
  match exec c s with
  | .next t => t
  | _ => s

/-- A whole frame: its bytes and its check sequence (R174). -/
def framed (destination source type : Nat) (payload : List Byte) : List Byte :=
  let b := beBytes 6 destination ++ beBytes 6 source ++ beBytes 2 type ++ payload
  b ++ checkSequence b

/-- The part's line address as a number, with straps of 0. -/
def partAddress : Nat := 0x02C51A000000

/-- A station's address. -/
def station : Nat := 0x0A0000000001

/-! ## WellFormed -/

theorem test_wellFormed_needs_a_first_byte : (Instr.frameFirstByte 0 .north []).wellFormed = false := by decide

theorem test_wellFormed_start_names_a_pulse_line : (Instr.pulseLineStart 4).wellFormed = false := by decide

theorem test_wellFormed_end_names_a_pulse_line : (Instr.pulseLineEnd 4).wellFormed = false := by decide

theorem test_wellFormed_admits :
    (Instr.frameFirstByte 0 .south [0]).wellFormed = true ∧ (Instr.pulseLineStart 3).wellFormed = true ∧
      (Instr.pulseLineEnd 0).wellFormed = true := by decide

/-! ## No word spells a command -/

theorem test_no_word_spells_a_command : decodeTableWord 32 0xFFFFFFFF = none ∧ decodeTableWord 0 0 = none := by decide

/-! ## The manual's worked examples -/

/-- Section 1.2: at A = +3,822,266 ppt a second gains 3,822 ns and 17,432 fu, or 17,433 by the remainder. -/
theorem test_running_a_second :
    let c : Clock := { Clock.initial 0 with rateA := 3822266 }
    (c.advance fuPerSecond).value = fuPerSecond + 3822 * 65536 + 17432 ∧
      ({ c with remainder := 500000000000 }.advance fuPerSecond).value = fuPerSecond + 3822 * 65536 + 17433 := by
  decide +kernel

/-- Section 1.4: the timescale at 41 s 999,999,200 ns is stepped over boundary 42 and back, and a pending swap is carried
out at the crossing, with its second. -/
theorem test_boundary_crossed_then_undone :
    let s : State := { running with
      clock := { running.clock with value := 41 * fuPerSecond + 999999200 * fuPerNs }
      cls := { running.cls with swapPending := true } }
    let t := s.applyStep (1500 * 65536) .acquire
    let u := t.applyStep (-5000 * 65536) .acquire
    t.clock.value = 42 * fuPerSecond + 700 * fuPerNs ∧ t.cls.active = .bank1 ∧ t.cls.swapPending = false ∧
      (t.rep.notices.map NoticeEntry.snapshot).head? = some (.swap 42) ∧
      u.clock.value = 41 * fuPerSecond + 999995700 * fuPerNs ∧ u.cls = t.cls := by
  decide +kernel

/-- Section 2.4: a residence of 3,150 ns is added to a correction of 12,000 ns, which leaves as 15,150 ns. -/
theorem test_residence_worked :
    let p : Passage :=
      { bytes := beBytes 6 2 ++ beBytes 6 1 ++ [0x9C, 0x41, 2, 2, 5, 0] ++ beBytes 10 0 ++ beBytes 8 786432000 ++ beBytes 28 0
        treatment := .active, arrival := some (500 * fuPerSecond + 199998000 * fuPerNs), firstAt := 0, notedBank := some .bank0
        payloadStarted := false, classification := some .complete, consumer := none, edits := [.correctionAdd]
        status := .good, departedAt := none, residence := none, cutAt := none }
    let q := p.depart { Clock.initial 0 with value := 500 * fuPerSecond + 200001150 * fuPerNs }
    q.residence = some 206438400 ∧ intAt q.sentBytes 28 8 = some 992870400 := by
  decide +kernel

/-- Section 3.8: frame F1 of the worked table, tagged, fits entry 1 by its opcode's low nibble, and not from line N. -/
theorem test_worked_table_frame :
    let entry : ClassEntry := { ClassEntry.blank with
      enabled := true, line := .south, typeValue := some 0x0800
      terms := [some ⟨9, 0x11, 0xFF⟩, some ⟨22, 0x2A, 0xFF⟩, some ⟨23, 0x3C, 0xFF⟩, some ⟨36, 0x01, 0x0F⟩] }
    let payload := beBytes 9 0 ++ [0x11] ++ beBytes 12 0 ++ [0x2A, 0x3C] ++ beBytes 12 0 ++ [0x31] ++ beBytes 30 0
    let tagged := beBytes 6 0x0A0000000002 ++ beBytes 6 station ++ [0x81, 0x00, 0x00, 0x05, 0x08, 0x00] ++ payload
    entry.fits .south tagged = true ∧ entry.fits .north tagged = false ∧
      entry.fits .south (framed 0x0A0000000002 station 0x9C41 payload) = false := by
  decide +kernel

/-- Section 5.2: the four stamps worked, and the same with a fraction of 1 fu and an asymmetry of 300 ns. -/
theorem test_four_stamps :
    offsetDelay 212992000 396492800 0 = some { theta := 91750400, delay := 304742400 } ∧
      offsetDelay 212992000 396492801 300 = some { theta := 81920001, delay := 304742401 } ∧
      roundDiv (-163840001) 2 = -81920001 := by
  decide

/-- R74: a d of 0 and of exactly 10,000,000 ns is accepted, and one beyond on either side is not. -/
theorem test_delay_limits :
    (offsetDelay 0 0 0).isSome = true ∧ (offsetDelay 655360000000 655360000000 0).isSome = true ∧
      (offsetDelay (-1) (-1) 0).isSome = false ∧ (offsetDelay 655360000001 655360000001 0).isSome = false := by
  decide

/-- A part that follows NORTH. -/
def following (state : ServoState) (memory : Bool) : State :=
  { running with
    exch := { running.exch with leader := 0x0A0000000009, liveN := true, queryIn := some 1000 }
    servo := { running.servo with state := state, memory := memory, active := .north } }

/-- Section 5.5: the PI update worked. -/
theorem test_pi_update_worked :
    let s := following .acquire false
    let t := ({ s with clock := { s.clock with integI := 4000000 } }).piUpdate
      { theta := 91750400, delay := 304742400, leaderClass := 0, leaderU := 250, runCounter := 0 }
    t.clock.integI = 3997266 ∧ t.clock.rateA = 3822266 ∧
      t.servo.lastPi = some { thetaPs := 1400000, prop := -175000, incr := -2734 } := by
  decide +kernel

/-- Section 5.5: roundings at the halfway point. -/
theorem test_pi_roundings :
    thetaPs 4096 = 63 ∧ thetaPs 33 = 1 ∧ roundDiv (-1000) (2 ^ 4) = -63 ∧ roundDiv 1000 (2 ^ 4) = 63 ∧
      roundDiv (-1000) (2 ^ 10) = -1 := by
  decide +kernel

/-- Section 5.7: an offset of -750 ms just within a step limit of 1 s drives I and A to the limit. -/
theorem test_pi_clamps :
    let t := (following .acquire false).piUpdate
      { theta := -750000000 * 65536, delay := 0, leaderClass := 0, leaderU := 0, runCounter := 0 }
    t.clock.integI = 100000000 ∧ t.clock.rateA = 100000000 ∧
      t.servo.lastPi = some { thetaPs := -750000000000, prop := 93750000000, incr := 1464843750 } := by
  decide +kernel

/-- Section 5.7: a shift that reaches zero. -/
theorem test_pi_shift_zero :
    let s := following .acquire false
    let t := ({ s with
      servo := { s.servo with propExp := 0, integExp := 0 }
      exch := { s.exch with queryExp := 4 } }).piUpdate
      { theta := -37 * 65536, delay := 0, leaderClass := 0, leaderU := 0, runCounter := 0 }
    t.servo.lastPi = some { thetaPs := -37000, prop := 37000, incr := 37000 } := by
  decide +kernel

/-- A sample of an offset in ns. -/
def sampleOf (ns : Int) : Sample :=
  { theta := ns * 65536, delay := 65536, leaderClass := 0, leaderU := 100, runCounter := 0 }

/-- Section 5.7: taking the seconds from the leader: HOLD, then the step by the second sample and an empty window, then
STEER. -/
theorem test_seconds_from_the_leader :
    let big : Int := 1700000000 * 1000000000
    let s1 := (following .acquire false).enterSample .north (sampleOf (-big - 4100))
    let s2 := s1.enterSample .north (sampleOf (-big - 4180))
    let s3 := s2.enterSample .north (sampleOf 40)
    (s1.servo.stepOutcome, s1.servo.stepPending, s1.clock.value) = (some .hold, true, 0) ∧
      (s2.servo.stepOutcome, s2.servo.stepPending, s2.exch.windowN) = (some .step, false, []) ∧
      s2.clock.value = 1700000000 * fuPerSecond + 4180 * fuPerNs ∧ (s2.clock.integI, s2.clock.rateA) = (0, 0) ∧
      s3.servo.stepOutcome = some .steer ∧ (s3.clock.integI, s3.clock.rateA) = (-78, -5078) := by
  decide +kernel

/-- Section 5.6: the locked form of U. -/
theorem test_locked_uncertainty :
    lockedForm { theta := 91750400, delay := 304742400, leaderClass := 0, leaderU := 250, runCounter := 0 } = 2236 ∧
      lockedForm { theta := 91750401, delay := 304742400, leaderClass := 0, leaderU := 250, runCounter := 0 } = 2237 ∧
      lockedForm { theta := -350 * 65536, delay := 0, leaderClass := 1, leaderU := 100, runCounter := 0 } = 454 ∧
      lockedForm { theta := 91750400, delay := 304742400, leaderClass := 15, leaderU := 4294967295, runCounter := 0 } =
        4294967294 := by
  decide +kernel

/-- Section 5.6: the growth of the holdover form, to the ceiling. -/
theorem test_holdover_uncertainty :
    let v (h : Nat) (t : BitVec 48) : Nat := { Servo.initial with
      state := .holdover, memory := true, holdBound := h, entryU := some 2236, holdTime := some t }.uncertainty
    (v 50000 0, v 50000 1, v 50000 1000, v 50000 60000) = (2236, 2237, 2286, 5236) ∧
      (v 50000 3600000, v 50000 86400000) = (182236, 4322236) ∧
      (v 10000000 429496505, v 10000000 429496506) = (4294967286, 4294967294) := by
  decide +kernel

/-- Section 7.5: the server offset sample worked. -/
theorem test_server_offset_worked :
    serverOffset
        { seq := 0, senderId := 0, correction := 52428800, t1 := ⟨2000, 500000000, 0⟩, reported := some 3200 } 3200
        (2000 * fuPerSecond + 500002900 * fuPerNs + 40000) = 1099 := by
  decide +kernel

/-- Section 9.4: the filter worked, each sample with F at 1,000. -/
theorem test_filter_worked :
    (filterStep 2 1000 1400, filterStep 2 1000 1002, filterStep 2 1000 998, filterStep 2 1000 1001) =
      (1100, 1001, 999, 1000) := by
  decide +kernel

/-- A server of rack 0 that has been tracked for some samples. -/
def tracked (source : Address) (f : Int) : OriginEntry :=
  { OriginEntry.initial with
    enabled := true, source := source, state := .tracking, filtered := some f, lastAt := some 0, sampleCount := 16 }

/-- A rack of tracked servers, locked to the leader with U at 2,236 ns. -/
def rackOf (offsets : List Int) (r : Rack) : State :=
  let servers := offsets.zipIdx.map fun x => tracked (BitVec.ofNat 48 (x.2 + 1)) x.1
  let s := following .locked true
  { s with
    servo := { s.servo with lockedU := 2236 }
    mon := { s.mon with
      origins := servers ++ List.replicate (512 - servers.length) .initial
      racks := r :: List.replicate 31 (.cleared .initial) } }

/-- Section 9.6: the evaluation worked: one member is set aside, and R is 1,175 ns with a rate of 40 ppb. -/
theorem test_evaluation_worked :
    let before : Rack := { Rack.cleared { RackConfig.initial with enabled := true } with
      state := .inStep, prevMean := 1015, prevValid := true }
    let t := (rackOf [1200, 900, 1500, 41000, 1100] before).evaluateRack 0
    t.mon.rack 0 = { before with mean := some 1175, prevMean := 1175, rate := some 40, spread := some 40100, members := 4 } ∧
      (t.mon.origin 3).state = .stray ∧ (t.mon.origin 2).state = .tracking := by
  decide +kernel

/-- Section 9.6: with a sixth candidate at 39,000 ns no member is set aside. -/
theorem test_evaluation_worked_sixth :
    let before : Rack := Rack.cleared { RackConfig.initial with enabled := true }
    let t := (rackOf [1200, 900, 1500, 41000, 1100, 39000] before).evaluateRack 0
    (t.mon.rack 0).mean = some 14116 ∧ (t.mon.rack 0).spread = some 40100 ∧ (t.mon.rack 0).split = false ∧
      (t.mon.rack 0).members = 6 := by
  decide +kernel

/-- Section 9.6: a rack through watch: at the fifth evaluation the third WATCH candidate running is confirmed. -/
theorem test_rack_confirms_watch :
    let r (mean : Int) (pending : Option Level) (count : Nat) : Rack :=
      { Rack.cleared { RackConfig.initial with enabled := true } with
        state := .inStep, mean := some mean, rate := some 275, pending := pending, pendingCount := count }
    let c (x : Rack) : Rack := x.confirm x.candidate
    ((c (r 19600 none 0)).state, (c (r 20700 none 0)).pending, (c (r 20700 none 0)).pendingCount) =
        (.inStep, some .watch, 1) ∧
      ((c (r 21800 (some .watch) 1)).state, (c (r 21800 (some .watch) 1)).pendingCount) = (.inStep, 2) ∧
      ((c (r 22900 (some .watch) 2)).state, (c (r 22900 (some .watch) 2)).pending) = (.watch, none) := by
  decide +kernel

/-- Section 11.6: a report latency of 250,000 µs is stored as 100,000 µs, and answered CLAMPED with that value. -/
theorem test_latency_clamped :
    let t := after (.writeDrainSetting 0) (handed running (writing 34 250000))
    t.dater.latency = 100000 ∧ t.agent.queue = [] ∧
      (t.lines.north.origin.map fun f => f.bytes.drop f.start) =
        [[1, 2, 0x03, 0x12, 1, 1, 1, 0, 8] ++ beBytes 8 100000] := by
  decide +kernel

/-- Section 11.6: a READ of streams 60 to 71 reaches beyond 63 and is answered BAD_INDEX. -/
theorem test_stream_range_refused :
    let t := after (.readStreamTable 0) (handed running (asking 1 [6, 0, 60, 12]))
    (t.lines.north.origin.map fun f => f.bytes.drop f.start) = [[1, 2, 0x03, 0x12, 3, 1, 3, 0, 0]] := by
  decide +kernel

/-- R174: the check sequence of the nine digits is the polynomial's well-known one. -/
theorem test_check_sequence :
    checkSequence [0x31, 0x32, 0x33, 0x34, 0x35, 0x36, 0x37, 0x38, 0x39] = [0x26, 0x39, 0xF4, 0xCB] := by
  decide +kernel


/-! ## Witnesses: the machine -/

/-- A part locked to NORTH with every queue at its capacity. -/
def brimful : State :=
  let record : CaptureRecord := { value := 0, runCounter := 0, regular := false, soft := true }
  let entry : ReplyEntry :=
    { requester := 1, tag := none, domain := 0, senderId := 0, seq := 0, t2 := 0, cFwd := 0, takenAt := 0 }
  let notice (k : Nat) : NoticeEntry :=
    { subject := .server k, firstOld := .server .tracking, latestNew := .server .stray, snapshot := .server none 0,
      count := 1, createdAt := 0 }
  let s := following .locked true
  { s with
    pending := [.pulseLeadingEdge 3, .copy 0]
    pulse := { s.pulse with queue := List.replicate 8 record }
    exch := { s.exch with windowN := List.replicate 8 (sampleOf 0) }
    south := { s.south with queue := List.replicate 16 entry }
    rep := { s.rep with notices := (List.range 64).map notice }
    agent := { s.agent with queue := List.replicate 4 (askingBare 3) } }

theorem witness_StepRunsTheFrontCommand :
    brimful.pending = .pulseLeadingEdge 3 :: [.copy 0] ∧ running.pending = [] := by decide +kernel

/-- A step on `brimful` answers a next state. -/
theorem brimful_steps : ∃ t, step brimful = .next t := ⟨_, rfl⟩

theorem witness_StepKeepsCapacities :
    brimful.withinCapacity ∧ brimful.rep.subjectsDistinct ∧ ∃ t, step brimful = .next t := by
  refine ⟨?_, ?_, brimful_steps⟩
  · unfold State.withinCapacity; decide +kernel
  · unfold ReportEngine.subjectsDistinct; decide +kernel

theorem witness_StepKeepsServoCombinations :
    brimful.servoCombined ∧ brimful.northKept ∧ ∃ t, step brimful = .next t := by
  refine ⟨?_, ?_, brimful_steps⟩
  · unfold State.servoCombined; decide +kernel
  · unfold State.northKept; decide +kernel

/-- A part at the ends of its ranges: the last fine unit of the timescale, A and I at the largest A_max, U at the
ceiling. -/
def extreme : State :=
  let s := following .locked true
  { s with
    pending := [.runCounterTick]
    clock := { s.clock with
      value := timescaleRange - 1, remainder := 999999999999, rateA := -200000000, integI := 200000000 }
    servo := { s.servo with aMax := 200000000, lockedU := uCeiling } }

theorem witness_StepKeepsFigures : extreme.figuresKept ∧ ∃ t, step extreme = .next t := by
  refine ⟨?_, ⟨_, rfl⟩⟩
  unfold State.figuresKept; decide +kernel

theorem witness_UnboundedExactlyInFreeOrAcquireWithoutMemory :
    extreme.figuresKept ∧ extreme.servo.uncertainty ≠ 4294967295 := by
  refine ⟨?_, by decide +kernel⟩
  unfold State.figuresKept; decide +kernel

/-- A rack of one tracked server. -/
def oneServer : State :=
  { rackOf [1200] (.cleared { RackConfig.initial with enabled := true }) with pending := [.evaluation] }

/-- Every place of a table of equal entries reads as that entry. -/
theorem getD_replicate {α : Type} (n k : Nat) (x : α) : (List.replicate n x).getD k x = x := by
  rw [List.getD_eq_getElem?_getD, List.getElem?_replicate]
  split <;> rfl

/-- The origin entries of `oneServer`. -/
theorem oneServer_origin (j : Nat) :
    oneServer.mon.origin j = if j = 0 then tracked 1 1200 else OriginEntry.initial := by
  cases j with
  | zero => rfl
  | succ j => exact getD_replicate 511 j OriginEntry.initial

/-- The racks of `oneServer`. -/
theorem oneServer_rack (k : Nat) :
    oneServer.mon.rack k =
      if k = 0 then .cleared { RackConfig.initial with enabled := true } else .cleared .initial := by
  cases k with
  | zero => rfl
  | succ k => exact getD_replicate 31 k (Rack.cleared .initial)

theorem witness_StepKeepsOriginAndRackTables : oneServer.mon.tablesKept ∧ ∃ t, step oneServer = .next t := by
  refine ⟨⟨by decide +kernel, by decide +kernel, by decide +kernel, by decide +kernel, ?_, ?_, ?_, ?_⟩, ⟨_, rfl⟩⟩
  · intro i j hi hj _
    rw [oneServer_origin] at hi hj
    by_cases a : i = 0 <;> by_cases b : j = 0 <;> simp_all [OriginEntry.initial]
  · intro j h
    rw [oneServer_origin] at h ⊢
    by_cases a : j = 0 <;> simp_all [OriginEntry.initial, tracked, oneServer_rack, Rack.cleared]
  · intro j h
    rw [oneServer_origin] at h ⊢
    by_cases a : j = 0
    · subst a; decide +kernel
    · simp_all [OriginEntry.initial]
  · intro k _
    rw [oneServer_rack]
    split <;> rfl

/-- A date record of stream 0. -/
def recordOf (seq gap : BitVec 32) : DateRecord where
  stream := 0
  beginning := 0
  seq := seq
  date := 5
  uncertainty := 2236
  state := .locked
  held := false
  short := false
  gap := gap
  origin := none
  issueOffset := none
  createdAt := 0

/-- A dater whose stream 0 has lost two records after the one queued. -/
def losing : State :=
  { running with
    pending := [.clear 0]
    dater := { Dater.initial with
      queue := [recordOf 6 1]
      streams := { lastDate := some 9, nextSeq := 9, gap := 2, armed := false, beginning := 0 } ::
        List.replicate 63 (.fresh 0) } }

theorem witness_StepKeepsSequenceAccounting : losing.dater.gapsAccounted ∧ ∃ t, step losing = .next t := by
  refine ⟨⟨by decide +kernel, ?_, ?_⟩, ⟨_, rfl⟩⟩
  · intro r hr _
    have : r = recordOf 6 1 := by simpa [losing] using hr
    subst this; decide +kernel
  · intro k _
    by_cases h : k = 0
    · subst h
      exact (by decide +kernel :
        (losing.dater.stream 0).nextSeq = (recordOf 6 1).seq + 1 + (losing.dater.stream 0).gap)
    · have : losing.dater.recordsOf k = [] := by
        simp [Dater.recordsOf, losing, recordOf, Ne.symm h]
      rw [this]; trivial

/-! ## Witnesses: power, the reset pin and resets -/

theorem witness_PowerResetLeavesThePowerValues :
    running.resetPin = false ∧ ({ running with resetPin := true } : State).resetPin = true := by decide +kernel

theorem witness_ResetPinStartsAFullReset :
    running.phase = .running ∧ 10000 ≤ 10000 ∧ 999 < 1000 ∧ (1000 ≤ 1000 ∧ 1000 < 10000) ∧
      (1000 ≤ 9999 ∧ 9999 < 10000) := by decide +kernel

theorem witness_ResetPinReleaseEndsTheReset :
    ({ running with phase := .pinReset, resetPin := true } : State).phase = .pinReset := by decide +kernel

/-- A part that holds a RESET from a reading. -/
def holding (full released : Bool) (now : BitVec 32) : State :=
  { running with
    clock := { running.clock with runCounter := now }
    agent := { running.agent with hold := some { full := full, offeredAt := 0xFFFFFFFF, released := released } } }

theorem witness_ResetIsAnsweredThenHeldThenMade :
    (handed running (asking 11 [1])).currentItem = some (asking 11 [1], .resetFull) ∧
      (handed running (asking 11 [0])).currentItem = some (asking 11 [0], .resetWarm) ∧
      (holding true true 0).phase = .running ∧
      (holding true true 0).agent.hold = some { full := true, offeredAt := 0xFFFFFFFF, released := true } ∧
      10 ≤ ((holding false false 9).clock.runCounter - 0xFFFFFFFF).toNat ∧
      ((holding false false 8).clock.runCounter - 0xFFFFFFFF).toNat < 10 := by decide +kernel

theorem witness_WarmResetKeepsAndClears :
    brimful.warmReset.servo.holdForm = true ∧ losing.dater.queue ≠ [] ∧ 63 < losing.dater.streams.length := by
  decide +kernel

/-! ## Witnesses: the timescale, the run counter and the boundaries -/

theorem witness_RunningIsExactAndAdditive :
    extreme.clock.value < timescaleRange ∧ extreme.clock.remainder < 1000000000000 ∧
      -1000000000000 ≤ extreme.clock.rateA := by decide +kernel

theorem witness_StepMovesTheValueAndEveryHeldStamp :
    let c := extreme.clock
    c.value < timescaleRange ∧ (0 ≤ (c.value : Int) + (-(timescaleRange - 1 : Int)) ∧
      (c.value : Int) + (-(timescaleRange - 1 : Int)) < timescaleRange) ∧
      (c.value : Int) + (-(timescaleRange : Int)) < 0 ∧ (timescaleRange : Int) ≤ (c.value : Int) + 1 := by
  decide +kernel

theorem witness_StepAnnouncementReachesEachBlock :
    let s : State := { running with
      clock := { running.clock with value := fuPerSecond - 1 }, cls := { running.cls with swapPending := true } }
    let t := s.applyStep 1 .align
    s.cls.swapPending = true ∧ s.clock.value / fuPerSecond < t.clock.value / fuPerSecond ∧
      running.cls.swapPending = false ∧
      (s.applyStep 0 .align).clock.value / fuPerSecond ≤ s.clock.value / fuPerSecond := by decide +kernel

theorem witness_TickAddsOneAndAdvancesTheMeasures :
    running.phase = .running ∧ running.tickIn ≤ running.slack ∧ 0 < running.tickIn := by decide +kernel

/-- A part one nanosecond before the end of the timescale's range, with a line in SECOND mode. -/
def beforeBoundary : State :=
  { running with
    clock := { running.clock with value := timescaleRange - 65536 }
    rep := { running.rep with pulseLines := { PulseLine.initial with mode := .second } :: List.replicate 3 .initial } }

theorem witness_BoundaryIsReachedByRunning :
    beforeBoundary.figuresKept ∧ (∀ d ∈ beforeBoundary.deadlines, beforeBoundary.clock.boundaryIn ≤ d) ∧
      beforeBoundary.clock.boundaryIn = 65536 := by
  refine ⟨?_, by decide +kernel, by decide +kernel⟩
  unfold State.figuresKept; decide +kernel

theorem witness_SwapExchangesTheBanks : 63 < running.dater.streams.length := by decide +kernel

/-! ## Witnesses: the pulse input -/

/-- A part whose pulse input is timing a pulse. -/
def timing (mark : Option (BitVec 32)) : State :=
  { running with
    clock := { running.clock with runCounter := 1000, tickAt := fuPerMs }
    pulse := { running.pulse with
      pinHigh := true, qualifier := .timing, previousMark := mark
      tentative := some { value := 70000, runCounter := 1000, endsAt := 1000 * 65536 } } }

theorem witness_PulseEdgesMoveTheQualifier :
    (running.phase = .running ∧ running.pulse.isActive = false ∧ running.pulse.qualifier = .waiting) ∧
      ((timing none).pulse.isActive = true ∧ (timing none).pulse.qualifier = .timing) ∧
      (let p : PulseInput := .initial true
       p.isActive = true ∧ p.qualifier = .releasing) := by decide +kernel

theorem witness_DebouncedPulseIsRecordedAndHandedOver :
    let s := timing (some 1)
    let t : Tentative := { value := 70000, runCounter := 1000, endsAt := 1000 * 65536 }
    s.phase = .running ∧ s.pulse.qualifier = .timing ∧ s.pulse.tentative = some t ∧
      t.endsAt - s.clock.osc ≤ s.slack ∧ (s.pulse.captureOf t).regular = true ∧
      ((timing (some 2)).pulse.captureOf t).regular = false ∧ ((timing none).pulse.captureOf t).regular = false := by
  decide +kernel

theorem witness_RegularTestComparesWithThePreviousMark :
    (timing none).pulse.tentative = some { value := 70000, runCounter := 1000, endsAt := 1000 * 65536 } := by
  decide +kernel

theorem witness_CaptureNowRecordsThePresent :
    (handed brimful (asking 7 [1])).currentItem = some (asking 7 [1], .captureNow) := by decide +kernel

theorem witness_CaptureReadReturnsAndEmptiesTheQueue :
    (handed brimful (asking 7 [0])).currentItem = some (asking 7 [0], .captureRead) := by decide +kernel


/-! ## Witnesses: the line pair -/

/-- A frame in passage, ACTIVE and pending. -/
def passing (bytes : List Byte) : Passage where
  bytes := bytes
  treatment := .active
  arrival := some 100
  firstAt := 0
  notedBank := some .bank0
  payloadStarted := false
  classification := some .pending
  consumer := none
  edits := []
  status := .arriving
  departedAt := none
  residence := none
  cutAt := none

/-- A part with frames in the buffer of a line. -/
def buffering (line : Line) (frames : List Passage) : State :=
  running.setLine line { LineState.initial with buffer := frames }

/-- A management request to the part that asks for COPY, of the least length. -/
def copyFrame : List Byte := framed partAddress station 0x9C42 ([1, 1, 0, 7, 3, 0] ++ beBytes 40 0)

/-- A timing frame to the part, of the least length. -/
def timingFrame (kind domain : Byte) : List Byte := framed partAddress station 0x9C41 ([2, kind, domain] ++ beBytes 43 0)

/-- A storage frame between others, of some payload. -/
def storageFrame (payload : List Byte) : List Byte := framed 0x0A0000000002 station 0x0800 payload

theorem witness_LinePairModesAndBypassEntry :
    (let s : State := { State.reset with clock := { State.reset.clock with runCounter := 2 } }
     s.phase = .running ∧ s.lines.mode = .boot ∧ 2 ≤ s.clock.runCounter.toNat) ∧
      (handed running (asking 10 [0])).currentItem = some (asking 10 [0], .bypassOff) ∧
      (handed running (asking 10 [1])).currentItem = some (asking 10 [1], .bypassOn) ∧
      (let p := passing copyFrame
       p.departedAt = none ∧ p.consumer = none ∧ p.treatment = .active) ∧
      ({ passing copyFrame with departedAt := some 0 } : Passage).departedAt.isSome = true ∧
      ({ passing copyFrame with consumer := some .agent } : Passage).consumer.isSome = true := by decide +kernel

/-- A frame of so many bytes that has wholly arrived. -/
def longFrame (n : Nat) : Passage := { passing (List.replicate n 0) with treatment := .boot, status := .good }

/-- The occupancy that such a frame makes. -/
theorem occupancy_longFrame (n osc : Nat) : occupancy [longFrame n] osc = n := by
  simp [occupancy, Passage.unsent, Passage.arrived, Passage.sent, longFrame, passing]

theorem witness_FirstByteIsAdmittedOrCounted :
    copyFrame ≠ [] ∧ ((buffering .north [longFrame 56320]).lineAt .north).arriving = none ∧
      occupancy [longFrame 56320] 0 + 9216 ≤ 65536 ∧ 65536 < occupancy [longFrame 56321] 0 + 9216 := by
  refine ⟨by decide +kernel, by decide +kernel, ?_, ?_⟩
  · rw [occupancy_longFrame]
  · rw [occupancy_longFrame]; decide

theorem witness_RecognitionConsumesByTypeKindLineAndDomain :
    ((buffering .north [passing copyFrame]).lineAt .north).arriving = some (passing copyFrame) ∧
      (passing copyFrame).classification = some .pending ∧
      typeOf (timingFrame 2 0) ≠ some running.lines.managementType ∧
      destinationOf copyFrame = some running.agent.address ∧ typeOf copyFrame = some running.lines.managementType ∧
      destinationOf (timingFrame 2 0) = some running.agent.address ∧
      typeOf (timingFrame 2 0) = some running.lines.timingType ∧ payloadByte (timingFrame 2 0) 1 = some 2 ∧
      (payloadByte (timingFrame 2 0) 2).map BitVec.toNat = some running.exch.northDomain ∧
      payloadByte (timingFrame 1 0) 1 = some 1 ∧
      (payloadByte (timingFrame 1 0) 2).map BitVec.toNat = some running.south.domain ∧
      (payloadByte (timingFrame 1 255) 2).map BitVec.toNat ≠ some running.south.domain ∧
      (let p : Passage := { passing copyFrame with treatment := .commanded, classification := none }
       p.treatment = .commanded ∧ p.consumer = none ∧ p.payloadStarted = false ∧
         payloadStart p.bytes < p.bytes.length) ∧
      destinationOf (storageFrame []) ≠ some running.agent.address ∧
      typeOf (timingFrame 1 0) ≠ some running.lines.managementType := by decide +kernel

/-- A class table whose entry 1 dates every frame of type 0x0800 and writes its date. -/
def dating (date : Bool) : State :=
  { running with cls := { Classifier.initial with
      bank0 := .blank :: { ClassEntry.blank with
          enabled := true, typeValue := some 0x0800, date := date, line := .south, stampOffset := some 36 } ::
        List.replicate 62 .blank } }

theorem witness_PassingFrameIsClassifiedByItsFirstFit :
    (let f := storageFrame (beBytes 46 0)
     ((buffering .south [passing f]).lineAt .south).arriving = some (passing f) ∧
       (passing f).classification = some .pending ∧ (passing f).notedBank = some .bank0 ∧
       destinationOf f ≠ some running.agent.address ∧ sourceOf f = some 0x0A0000000001 ∧ 64 ≤ f.length ∧
       (∀ e ∈ running.cls.entries .bank0, e.fits .south f = false) ∧
       (∀ date : Bool,
         (((dating date).cls.entries .bank0)[1]?.map fun e => (e.fits .south f, e.date)) = some (true, date) ∧
           (((dating date).cls.entries .bank0)[0]?.map fun e => e.fits .south f) = some false)) ∧
      (let f := storageFrame (beBytes 45 0)
       f.length < 64 ∧ (((dating true).cls.entries .bank0)[1]?.map fun e => e.fits .south f) = some true) := by
  decide +kernel

theorem witness_FrameEndSettlesTheFrame :
    (let p : Passage := { passing (storageFrame (beBytes 45 0)) with classification := some .complete }
     ((buffering .north [p]).lineAt .north).arriving = some p ∧ p.mayEnd = true ∧ p.bytes.length = 63 ∧
       p.departedAt = none) ∧
      (let p : Passage := { passing copyFrame with classification := some .complete, consumer := some .agent }
       ((buffering .north [p]).lineAt .north).arriving = some p ∧ p.mayEnd = true ∧ p.bytes.length = 64) ∧
      (let p : Passage := { passing (storageFrame (beBytes 46 0)) with classification := some .complete }
       p.mayEnd = true ∧ p.bytes.length = 64 ∧ p.consumer = none) ∧
      (passing (List.replicate 9217 0)).bytes.length = 9217 ∧
      ({ passing (List.replicate 9217 0) with treatment := .boot } : Passage).mayEnd = true ∧
      (let p : Passage := { passing (List.replicate 9217 0) with treatment := .boot, departedAt := some 0 }
       p.mayEnd = true ∧ p.departedAt.isSome = true) :=
  ⟨by decide +kernel, by decide +kernel, by decide +kernel, List.length_replicate, rfl, rfl, rfl⟩

/-- A part with own frames in the origin queue of line S. -/
def queued (kinds : List OwnKind) (transmit : Transmit) : State :=
  running.setLine .south { LineState.initial with
    origin := kinds.map fun k => running.ownFrame k 1 none 0x9C41 (beBytes 67 0)
    transmit := transmit }

theorem witness_DepartureStampsTheFrame :
    (let p : Passage := { passing (storageFrame (beBytes 46 0)) with status := .good }
     let q : Passage := { passing copyFrame with consumer := some .agent }
     let s := (buffering .north [q, p]).setLine .south { LineState.initial with transmit := .pickedPassing }
     (s.lineAt .south).transmit = .pickedPassing ∧ (s.lineAt .north).buffer = [q] ++ p :: [] ∧
       (∀ x ∈ [q], x.consumer.isSome = true) ∧ p.consumer = none) ∧
      (let s := queued [.notice, .query] (.pickedOwn 1)
       (s.lineAt .south).transmit = .pickedOwn 1 ∧
         (s.lineAt .south).origin[1]? = some (running.ownFrame .query 1 none 0x9C41 (beBytes 67 0))) := by
  decide +kernel

theorem witness_OwnFramesLeaveWithTheirMarkedFieldsWritten :
    (let f := running.ownFrame .query 1 none 0x9C41 (beBytes 34 0)
     f.kind = .query ∧ f.start + 34 ≤ f.bytes.length) ∧
      (let f := running.ownFrame .reply 1 none 0x9C41 (beBytes 67 0)
       f.kind = .reply ∧ f.start + 67 ≤ f.bytes.length) ∧
      (let f := running.ownFrame .summary 1 none 0x9C42 []
       f.kind ≠ .query ∧ f.kind ≠ .reply) := by decide +kernel

theorem witness_TransmitEndSendsTheCheckSequenceAndPicks :
    ((queued [] (.sendingOwn [1])).lineAt .south).transmit = .sendingOwn [1] ∧
      (let p : Passage := { passing copyFrame with status := .bad, departedAt := some 0 }
       let s := (buffering .north [p]).setLine .south { LineState.initial with transmit := .sendingPassing }
       (s.lineAt .south).transmit = .sendingPassing ∧ (s.lineAt .north).buffer = [] ++ p :: [] ∧
         p.consumer = none ∧ p.status ≠ .arriving) ∧
      (passing copyFrame).status = .arriving ∧ (passing copyFrame).consumer = none := by decide +kernel

theorem witness_BadFramesNeverLeaveGood :
    (let p : Passage := { passing copyFrame with status := .good }
     p.cutAt = none ∧ p.edits = [] ∧ p.status = .good ∧ checkGood p.bytes = true) ∧
      (let p : Passage := { passing (beBytes 64 0) with status := .bad, edits := [.stampField 0 0] }
       p.cutAt = none ∧ p.status = .bad ∧ checkGood p.bytes = false) ∧
      ({ passing copyFrame with cutAt := some 9217 } : Passage).cutAt.isSome = true := by decide +kernel

theorem witness_EditsWriteTheirFieldAndNoOther :
    (let p : Passage := { passing (beBytes 40 0) with residence := some 5, edits := [.correctionAdd] }
     p.cutAt = none ∧ p.residence = some 5 ∧ p.edits = [.correctionAdd] ∧
       payloadStart p.bytes + 26 ≤ p.bytes.length) ∧
      (let p : Passage := { passing (beBytes 64 0) with edits := [.stampField 36 7] }
       p.cutAt = none ∧ p.edits = [.stampField 36 7] ∧ payloadStart p.bytes + 36 + 14 ≤ p.bytes.length ∧
         p.bytes.length < payloadStart p.bytes + 37 + 14) := by decide +kernel

theorem witness_ArbiterPicksByPriorityWithinTheLimit :
    (let s := queued [.notice, .query] .idle
     s.lines.mode = .active ∧ occupancy (s.lineAt .north).buffer 0 ≤ s.lines.injectionLimit ∧
       (s.lineAt .south).origin ≠ []) ∧
      occupancy [longFrame 16384] 0 ≤ running.lines.injectionLimit ∧
      ¬occupancy [longFrame 16385] 0 ≤ running.lines.injectionLimit ∧
      (running.lineAt .south).origin = [] ∧
      (let q : Passage := { passing copyFrame with consumer := some .agent }
       let p := passing (storageFrame (beBytes 46 0))
       ((buffering .north [q, p]).lineAt .north).buffer = [q] ++ p :: [] ∧ (∀ x ∈ [q], x.consumer.isSome = true) ∧
         p.consumer = none) := by
  refine ⟨by decide +kernel, ?_, ?_, by decide +kernel, by decide +kernel⟩ <;>
    (rw [occupancy_longFrame]; decide +kernel)

/-! ## Witnesses: dating -/

/-- A part whose stream 63 has a last date. -/
def dated (last : Option Nat) : State :=
  { running with dater := { Dater.initial with
      streams := List.replicate 63 (.fresh 0) ++ [{ StreamState.fresh 2 with lastDate := last, nextSeq := 4 }] } }

theorem witness_SettleKeepsDatesRising :
    63 < (dated none).dater.streams.length ∧ ((dated none).dater.stream 63).lastDate = none ∧
      ((dated (some 6)).dater.stream 63).lastDate = some 6 ∧ 6 ≠ 2 ^ 48 * 1000000000 - 1 ∧
      6 < candidateDate (7 * 65536) 0 ∧ candidateDate (6 * 65536) 0 ≤ 6 ∧
      ((dated (some (2 ^ 48 * 1000000000 - 1))).dater.stream 63).lastDate = some (2 ^ 48 * 1000000000 - 1) := by
  decide +kernel

/-- An open date of stream 63. -/
def opened (beginning : Nat) : OpenDate where
  stream := 63
  beginning := beginning
  date := 8
  held := false
  uncertainty := 2236
  state := .locked
  origin := none
  issueOffset := none
  stampOffset := none
  payloadStart := 14

/-- A part with an open date on line N and so many records queued. -/
def closing (beginning records : Nat) : State :=
  { dated (some 8) with dater := { (dated (some 8)).dater with
      openN := some (opened beginning), queue := List.replicate records (recordOf 0 0) } }

theorem witness_FrameEndMakesOrLosesTheDateRecord :
    (closing 2 1023).dater.openDate .north = some (opened 2) ∧
      ((closing 2 1023).dater.stream 63).beginning = (opened 2).beginning ∧
      ((closing 1 0).dater.stream 63).beginning ≠ (opened 1).beginning ∧
      (closing 2 1023).dater.queue.length < 1024 ∧ 1024 ≤ (closing 2 1024).dater.queue.length := by
  refine ⟨rfl, by decide +kernel, by decide +kernel, ?_, ?_⟩ <;>
    (simp only [closing, List.length_replicate]; decide)


/-! ## Witnesses: the north exchange and the servo -/

/-- A part with NORTH LIVE and a Query record. -/
def asked (record : QueryRecord) : State :=
  let s := following .locked true
  { s with exch := { s.exch with queryIn := some 0, record := record, nextSeq := 8, issued := 3 } }

/-- A part that follows PULSE. -/
def followingPulse (state : ServoState) (memory : Bool) : State :=
  { running with
    exch := { running.exch with liveP := true, pulseExpiry := some 0 }
    servo := { running.servo with state := state, memory := memory, primary := .pulse, active := .pulse } }

theorem witness_QueryTimerWindowsAndMisses :
    (∀ record ∈ [QueryRecord.empty, .waiting 7, .opened 7 5 0],
      (asked record).phase = .running ∧ (asked record).exch.queryIn = some 0 ∧ (asked record).exch.record = record) ∧
      ((asked .empty).clock.runCounter - 0x80000001).toNat < 2 ^ 31 ∧
      ((asked .empty).clock.runCounter - 0).toNat < 2 ^ 31 ∧
      ((asked .empty).exch.liveN = true ∧ ({ (asked .empty).exch with missed := 3 } : Exchange).missedLimit ≤ 3 + 1) ∧
      (running.exch.liveN = false ∧ min 65535 ((asked .empty).exch.missed + 1) < (asked .empty).exch.missedLimit) ∧
      ((followingPulse .locked true).exch.liveP = true ∧ (followingPulse .locked true).exch.pulseExpiry = some 0) := by
  decide +kernel

/-- A part locked to NORTH with PULSE as its secondary. -/
def withSecondary (state : ServoState) (live : Bool) : State :=
  let s := following state true
  { s with servo := { s.servo with secondary := .pulse }, exch := { s.exch with liveP := live } }

theorem witness_LossSwitchesOrHoldsOver :
    (∀ state ∈ [ServoState.locked, .acquire], ∀ live : Bool,
      let s := withSecondary state live
      s.servo.held = false ∧ s.servo.active = .north ∧ s.servo.state = state ∧ s.available .pulse = live) ∧
      (withSecondary .locked true).servo.active ≠ .pulse := by decide +kernel

/-- A Reply from the leader, to a requester, echoing sequence 7. -/
def replyFrom (leader requester : Nat) (leaderClass : Byte) (t3 : Nat) : List Byte :=
  framed partAddress leader 0x9C41 ([2, 2, 0, 0] ++ beBytes 2 7 ++ beBytes 8 0 ++ beBytes 8 0 ++ beBytes 8 requester
    ++ stampBytes 40 ++ (beBytes 6 0 ++ beBytes 4 t3 ++ beBytes 2 60) ++ beBytes 8 0 ++ [leaderClass] ++ beBytes 4 250)

/-- The fields of that Reply. -/
def replyFields (requester : SenderId) (leaderClass : Nat) (nanos : Nat) : ReplyFields where
  seq := 7
  correction := 0
  requester := requester
  t2 := ⟨0, 0, 40⟩
  t3 := ⟨0, nanos, 60⟩
  cFwd := 0
  leaderClass := leaderClass
  leaderU := 250

theorem witness_RepliesAreMatchedBySequence :
    let part := partAddress * 65536 + 1
    let good := replyFrom 0x0A0000000009 part 14 0
    let f := replyFields (BitVec.ofNat 64 part) 14 0
    readReply copyFrame = none ∧ sourceOf (replyFrom 1 part 14 0) ≠ some (asked .empty).exch.leader ∧
      readReply good = some f ∧ sourceOf good = some (asked .empty).exch.leader ∧
      f.requester.toNat = (asked .empty).agent.address.toNat * 65536 + 1 ∧
      readReply (replyFrom 0x0A0000000009 5 14 0) = some (replyFields 5 14 0) ∧
      (replyFields 5 14 0).requester.toNat ≠ (asked .empty).agent.address.toNat * 65536 + 1 ∧
      (asked (.opened 7 30 0)).exch.record = .opened f.seq 30 0 ∧ f.leaderClass < 15 ∧
      (roundTrip 30 70 0 f).isSome = true ∧
      readReply (replyFrom 0x0A0000000009 part 15 0) = some (replyFields (BitVec.ofNat 64 part) 15 0) ∧
      readReply (replyFrom 0x0A0000000009 part 14 1000000000) =
        some (replyFields (BitVec.ofNat 64 part) 14 1000000000) ∧
      roundTrip 30 70 0 (replyFields (BitVec.ofNat 64 part) 14 1000000000) = none ∧
      (asked (.waiting 7)).exch.record = .waiting f.seq ∧
      0 < (asked .empty).exch.issued ∧ ((asked .empty).exch.nextSeq - 1 - 5).toNat < (asked .empty).exch.issued ∧
      ¬((asked .empty).exch.nextSeq - 1 - 4).toNat < (asked .empty).exch.issued := by decide +kernel

/-- A Query from a rack's server. -/
def queryFrom (source : Nat) : List Byte :=
  framed partAddress source 0x9C41 ([2, 1, 0, 1] ++ beBytes 2 7 ++ beBytes 8 9 ++ beBytes 8 52428800
    ++ (beBytes 6 2000 ++ beBytes 4 500000000 ++ beBytes 2 0) ++ beBytes 4 3200 ++ beBytes 8 0)

theorem witness_QueriesAreSampledAndQueued :
    readQuery copyFrame = none ∧
      readQuery (queryFrom station) =
        some { seq := 7, senderId := 9, correction := 52428800, t1 := ⟨2000, 500000000, 0⟩, reported := some 3200 } ∧
      sourceOf (queryFrom station) = some 0x0A0000000001 ∧ (0x0A0000000001 : Address).getLsbD 40 = false ∧
      (readQuery (queryFrom 0x010000000001)).isSome = true ∧
      sourceOf (queryFrom 0x010000000001) = some 0x010000000001 ∧ (0x010000000001 : Address).getLsbD 40 = true ∧
      running.south.queue.length < 16 ∧ 16 ≤ brimful.south.queue.length ∧
      oneServer.mon.lookup 1 = some 0 ∧ oneServer.mon.lookup 2 = none := by decide +kernel

theorem witness_SelectionAndStepTest :
    [sampleOf 5, sampleOf 3] ≠ [] ∧ selectSample [sampleOf 5, sampleOf 3] = some (sampleOf 3) := by decide +kernel

theorem witness_ServoArithmetic :
    (0 < 2 ∧ 2 * ((-163840001 : Int) - 2 * roundDiv (-163840001) 2).natAbs = 2) ∧
      (0 ≤ roundDiv (0 + 0) 2 ∧ roundDiv (655360000000 + 655360000000) 2 ≤ 655360000000) ∧
      roundDiv (-1 + -1) 2 < 0 ∧ 655360000000 < roundDiv (655360000001 + 655360000001) 2 := by decide +kernel

/-- A part in HOLDOVER, or in ACQUIRE with memory, for some time. -/
def heldOver (state : ServoState) (th : BitVec 48) (h : Nat) : State :=
  let s := following state true
  { s with servo := { s.servo with entryU := some 2236, holdTime := some th, holdBound := h } }

theorem witness_HoldoverEndsByLimitOrCeiling :
    (heldOver .holdover 0 50000).servo.state = .holdover ∧
      ((heldOver .acquire 0 50000).servo.state = .acquire ∧ (heldOver .acquire 0 50000).servo.memory = true) ∧
      (heldOver .holdover 0 50000).phase = .running ∧
      (let s := heldOver .holdover 86400000 50000
       s.servo.holdoverLimit * 1000 ≤ (s.servo.holdTime.getD 0).toNat) ∧
      4294967294 ≤ 2236 + (10000000 * 429496506 + 999999) / 1000000 ∧
      (let s := heldOver .holdover 429496506 10000000
       (s.servo.entryU, s.servo.holdTime, s.servo.holdBound) = (some 2236, some 429496506, 10000000)) ∧
      (handed (heldOver .holdover 0 50000) (writing 29 86400)).currentItem =
        some (writing 29 86400, .writeSetting 29 86400) ∧
      (handed (heldOver .acquire 0 50000) (writing 22 0)).currentItem =
        some (writing 22 0, .writeSetting 22 0) := by decide +kernel

/-- A part locked to its secondary while its primary has been LIVE for some time. -/
def reverting (age : BitVec 48) : State :=
  let s := withSecondary .locked true
  { s with servo := { s.servo with
    active := .pulse, markN := some { since := 0, age := age }, revertIn := some 0 } }

theorem witness_RevertReturnsToThePrimary :
    (reverting 60000).revertPasses = true ∧ (reverting 60000).servo.memory = true ∧
      (reverting 59999).revertPasses = false ∧ (reverting 60000).phase = .running ∧
      (reverting 60000).servo.revertIn = some 0 ∧
      (handed (reverting 59999) (writing 25 0)).currentItem = some (writing 25 0, .writeSetting 25 0) ∧
      (handed (reverting 59999) (writing 26 59)).currentItem = some (writing 26 59, .writeSetting 26 59) := by
  decide +kernel

/-- A part in HELD mode. -/
def heldIn (state : ServoState) : State :=
  let s := heldOver state 5 50000
  { s with servo := { s.servo with held := true } }

theorem witness_ServoModeCommands :
    (handed (heldIn .holdover) (asking 5 [1])).currentItem = some (asking 5 [1], .servoHeld) ∧
      (handed (following .locked true) (asking 5 [1])).currentItem = some (asking 5 [1], .servoHeld) ∧
      (handed (heldIn .holdover) (asking 5 [0])).currentItem = some (asking 5 [0], .servoAuto) ∧
      (heldIn .holdover).servo.held = true ∧ (following .locked true).servo.held = false := by decide +kernel

theorem witness_AlignSetRateAndSetTime :
    let set (nanos : Nat) : Request := asking 6 (beBytes 6 5 ++ beBytes 4 nanos ++ beBytes 2 0)
    (handed (heldIn .free) (asking 5 [2])).currentItem = some (asking 5 [2], .servoAlign) ∧
      (handed (heldIn .free) (asking 5 ([3] ++ beBytes 8 100000001))).currentItem =
        some (asking 5 ([3] ++ beBytes 8 100000001), .servoSetRate 100000001) ∧
      (handed running (set 1000000000)).currentItem = some (set 1000000000, .setTime ⟨5, 1000000000, 0⟩) ∧
      (handed running (set 999999999)).currentItem = some (set 999999999, .setTime ⟨5, 999999999, 0⟩) ∧
      running.servo.state = .free ∧ (heldIn .holdover).servo.held = true ∧
      ((following .locked true).servo.state ≠ .free ∧ (following .locked true).servo.held = false) := by
  decide +kernel

/-! ## Witnesses: the drift monitor and the report engine -/

theorem witness_EvaluationJudgesEachEnabledRack :
    let before : Rack := .cleared { RackConfig.initial with enabled := true }
    let s := rackOf [1200] before
    let figures (t : State) : List Int :=
      ((t.mon.membersOf 0).filter fun j => (t.mon.origin j).state == .tracking).map t.mon.offsetOf
    ({ s with mon := { s.mon with evalIn := 0 } } : State).phase = .running ∧
      (s.mon.rack 31).config.enabled = false ∧ 0 < s.mon.racks.length ∧ (s.mon.rack 0).config.enabled = true ∧
      figures (s.evaluateRack 0) ≠ [] ∧ ¬(s.mon.judgeLimit < s.servo.uncertainty ∨ 0 < s.mon.settleCounter) ∧
      figures ((rackOf [] before).evaluateRack 0) = [] ∧
      (let u : State := { s with servo := { s.servo with lockedU := 10001 } }
       figures (u.evaluateRack 0) ≠ [] ∧ u.mon.judgeLimit < u.servo.uncertainty) ∧
      (let u : State := { s with mon := { s.mon with settleCounter := 1 } }
       figures (u.evaluateRack 0) ≠ [] ∧ 0 < u.mon.settleCounter) := by decide +kernel

theorem witness_RackLevelsFollowTheirCandidates :
    let r : Rack := .cleared { RackConfig.initial with enabled := true }
    (r.state = .quiet ∧ ({ r with state := .unjudged } : Rack).state = .unjudged) ∧
      ({ r with state := .watch } : Rack).state = Level.watch.state ∧
      (({ r with state := .inStep, pending := some .watch } : Rack).pending = some .watch ∧
        RackState.inStep ≠ Level.watch.state) := by decide +kernel

/-- A part with a collector, a record queued and a transition to tell. -/
def reporting : State :=
  { running with
    dater := { Dater.initial with queue := [recordOf 0 0] }
    rep := { running.rep with
      collector := 0x0A0000000002, summaryIn := some 0
      notices := [{ subject := .swap, firstOld := .bank .bank0, latestNew := .bank .bank1, snapshot := .swap 1,
                    count := 1, createdAt := 0 }] } }

/-- The same part at the instant before the grade timer, the report latency and the holdoff come. -/
def reportingAt (osc : Nat) : State :=
  { reporting with
    clock := { reporting.clock with osc := osc, tickAt := osc + fuPerMs }
    rep := { reporting.rep with summaryIn := some 5 } }

theorem witness_OwnFrameTimersAndReadiness :
    (let s : State := { running with clock := { running.clock with osc := 2 * fuPerMs - 1, tickAt := 2 * fuPerMs } }
     s.phase = .running ∧ s.south.gradeAt - s.clock.osc ≤ s.slack ∧ s.south.gradeAt - s.clock.osc = 1) ∧
      (reporting.phase = .running ∧ reporting.rep.summaryIn = some 0) ∧
      (let s := reportingAt (fuPerMs - 1)
       s.dater.queue = [recordOf 0 0] ∧ s.rep.collector ≠ 0 ∧ s.rep.dateReportWaiting = false ∧
         s.dater.latency = 1000 ∧ (recordOf 0 0).createdAt + 1000 * 65536 * 1000 - s.clock.osc = 1 ∧ 1 ≤ s.slack) ∧
      (let s : State := { reportingAt (10 * fuPerMs - 1) with
         dater := Dater.initial, south := { running.south with gradeAt := 20 * fuPerMs } }
       s.rep.notices.length = 1 ∧ s.rep.collector ≠ 0 ∧ s.rep.noticeWaiting = false ∧
         0 + 1000000 * 65536 * s.rep.holdoff - s.clock.osc = 1 ∧ 1 ≤ s.slack) ∧
      (∀ id ∈ [33, 34, 41, 42, 45], (handed reporting (writing id 1)).currentItem =
        some (writing id 1, .writeSetting id 1)) := by decide +kernel

/-- A part with pulse line 3 about to start, and one about to end. -/
def pulsing : State :=
  { running with rep := { running.rep with
      pulseLines := List.replicate 3 { PulseLine.initial with mode := .second, pulseEnd := some 5 } ++
        [{ PulseLine.initial with mode := .second, starts := [9, 5] }] } }

theorem witness_PulseLinesStartEndAndRemode :
    pulsing.figuresKept ∧
      (pulsing.rep.pulseLines[3]? = some { PulseLine.initial with mode := .second, starts := [9, 5] } ∧
        [9, 5].min? = some 5 ∧ pulsing.clock.timeFor 5 ≤ pulsing.slack) ∧
      (pulsing.rep.pulseLines[0]? = some { PulseLine.initial with mode := .second, pulseEnd := some 5 } ∧
        5 - pulsing.clock.osc ≤ pulsing.slack) ∧
      (∀ id ∈ [46, 47, 61, 62], (handed pulsing (writing id 2)).currentItem =
        some (writing id 2, .writeSetting id 2)) := by
  refine ⟨?_, by decide +kernel, by decide +kernel, by decide +kernel⟩
  unfold State.figuresKept; decide +kernel

/-! ## Witnesses: requests -/

theorem witness_RequestsAreAnswered :
    (∀ command ∈ [(0 : Byte), 12], let r := asking command []
      (handed running r).agent.queue = [r] ∧ (handed running r).agent.hold = none ∧
        ¬(1 ≤ r.command ∧ r.command ≤ 11)) ∧
      (let r := asking 3 []
       1 ≤ r.command ∧ r.command ≤ 11 ∧ r.countSuits = false) ∧
      (let r : Request := { asking 11 [] with body := [1, 1, 0, 0, 11, 1, 0, 1] }
       r.command = 11 ∧ r.contents = none) ∧
      (let r := asking 1 [9]
       r.countSuits = true ∧ r.contents.isSome = true ∧ r.itemAt 0 = none) ∧
      (let r := asking 1 [4]
       let x : ItemResult := { status := .ok, content := [] }
       ([] ++ [x]).length = r.responseItems ∧ ([x] ++ [x]).length ≠ r.responseItems) ∧
      ((handed running (asking 1 [4])).lineAt .north).origin.length < 8 ∧
      8 ≤ ((queued (List.replicate 8 .notice) .idle).lineAt .south).origin.length := by decide +kernel

/-- What fits in the response to the request for the manager list: 9,189 bytes. -/
theorem fits_running (b : List Byte) :
    running.fits (asking 1 [4]) b = decide (14 + 6 + (3 + b.length) + 3 * 0 + 4 ≤ 9216) := rfl

theorem witness_ReadsThatClearNothing :
    (let ask (content : List Byte) (i : ReqItem) : Prop :=
       (handed running (asking 1 content)).currentItem = some (asking 1 content, i)
     ask [0, 0, 1, 0, 65] (.readSettings [1, 65]) ∧ ask [1, 1, 0, 48, 16] (.readClass true 48 16) ∧
       ask [1, 0, 0, 49, 16] (.readClass false 49 16) ∧ ask [3, 0, 16, 16] (.readRack 16 16) ∧
       ask [3, 0, 17, 16] (.readRack 17 16) ∧ ask [6, 0, 60, 4] (.readStream 60 4) ∧
       ask [6, 0, 60, 5] (.readStream 60 5) ∧ ask [4] .readManagers) ∧
      [1, 65].mapM running.settingValue ≠ none ∧ [0].mapM running.settingValue = none ∧
      running.agent.overflowed = false ∧
      running.fits (asking 1 [4]) (List.replicate 9189 0) = true ∧
      running.fits (asking 1 [4]) (List.replicate 9190 0) = false := by
  refine ⟨by decide +kernel, by decide +kernel, by decide +kernel, by decide +kernel, ?_, ?_⟩ <;>
    (rw [fits_running, List.length_replicate]; decide)

theorem witness_ReadsThatClearWhatTheyReturn :
    let ask (content : List Byte) (i : ReqItem) : Prop :=
      (handed running (asking 1 content)).currentItem = some (asking 1 content, i)
    (ask [5, 0, 48, 16] (.readMatch 48 16) ∧ ask [5, 0, 49, 16] (.readMatch 49 16) ∧
        ask [2, 1, 240, 16] (.readOrigin 496 16) ∧ ask [2, 1, 241, 16] (.readOrigin 497 16)) ∧
      (∀ block ∈ [(0 : Byte), 2, 4, 5, 6, 8], ask [7, block] (.readCounts block.toNat)) ∧
      (∀ block ∈ [(1 : Byte), 3, 7], ask [8, block] (.readStatus block.toNat)) ∧
      running.fits (asking 1 [5, 0, 48, 16]) (List.replicate 128 0) = true ∧
      running.fits (asking 1 [8, 7]) (running.blockStatus 7) = true := by decide +kernel

theorem witness_SettingsAreStoredClampedOrRefused :
    (∀ id ∈ [5, 8, 11, 12, 13, 15, 16, 17, 18, 19, 21, 27, 28, 31, 35, 37, 39, 40, 44, 2, 6, 10, 30, 1, 32, 3, 4, 43, 48, 49,
        50, 65, 0, 66], (handed running (writing id 1)).currentItem = some (writing id 1, .writeSetting id 1)) ∧
      running.rep.pulseLines.length = 4 ∧
      (1 < (2 : BitVec 64).toNat ∧ 255 < (256 : BitVec 64).toNat) ∧
      ((1#64).setWidth 48 : BitVec 48).getLsbD 40 = false ∧
      ((0x010000000000#64).setWidth 48 : BitVec 48).getLsbD 40 = true ∧
      (0x8000000000000000#64).getLsbD 63 = true ∧ (32767#64).toNat < 32768 ∧
      ((32768#64).getLsbD 63 = false ∧ 32768 ≤ (32768#64).toNat) := by decide +kernel

theorem witness_SettingsThatActAtOnce :
    (∀ id ∈ [7, 20, 38, 14, 36], (handed brimful (writing id 1)).currentItem =
        some (writing id 1, .writeSetting id 1)) ∧
      (handed brimful (writing 7 2)).currentItem = some (writing 7 2, .writeSetting 7 2) := by decide +kernel

/-- A request leaves what is kept of the north exchange as it is. -/
theorem northKept_handed {s : State} (r : Request) (h : s.northKept) : (handed s r).northKept := h

/-- `running` and a part that follows NORTH keep what R54 asks. -/
theorem northKept_running : running.northKept ∧ (following .locked true).northKept := by
  constructor <;> unfold State.northKept <;> decide +kernel

theorem witness_ReferencesAreReconfigured :
    (∀ r : Request, (handed running r).northKept ∧ (handed (following .locked true) r).northKept) ∧
      (let s := handed (following .locked true) (writing 9 0)
       s.currentItem = some (writing 9 0, .writeSetting 9 0) ∧ s.configured .north = true ∧
         (after (.writeLeaderAddress 0) s).configured .north = false) ∧
      (let s := handed (following .locked true) (writing 9 5)
       s.currentItem = some (writing 9 5, .writeSetting 9 5) ∧
         (after (.writeLeaderAddress 0) s).configured .north = true) ∧
      (let s := handed running (writing 9 5)
       s.currentItem = some (writing 9 5, .writeSetting 9 5) ∧ s.configured .north = false ∧
         (after (.writeLeaderAddress 0) s).configured .north = true) ∧
      (handed running (writing 9 0x010000000000)).currentItem =
        some (writing 9 0x010000000000, .writeSetting 9 0x010000000000) ∧
      (handed running (writing 23 2)).currentItem = some (writing 23 2, .writeSetting 23 2) ∧
      (handed running (writing 24 3)).currentItem = some (writing 24 3, .writeSetting 24 3) ∧ ¬(3#64).toNat ≤ 2 := by
  refine ⟨fun r => ⟨northKept_handed r northKept_running.1, northKept_handed r northKept_running.2⟩, ?_⟩
  decide +kernel

/-- A class-table entry as a WRITE item carries it (R178). -/
def classItem (index : Nat) (line : Byte) (e : ClassEntry) : List Byte :=
  let b := e.bytes
  [1] ++ beBytes 2 index ++ b.take 1 ++ [line] ++ b.drop 2

theorem witness_TableWritesTestThenStore :
    (let ask (content : List Byte) (i : ReqItem) : Prop :=
       (handed running (asking 2 content)).currentItem = some (asking 2 content, i)
     let e := ClassEntry.blank
     ask (classItem 63 2 e) (.writeClass 63 2 e) ∧ ask (classItem 64 2 e) (.writeClass 64 2 e) ∧
       ask (classItem 63 3 e) (.writeClass 63 3 e) ∧
       ask ([2] ++ beBytes 2 511 ++ [1] ++ beBytes 6 station ++ [31]) (.writeOrigin 511 true 0x0A0000000001 31) ∧
       ask ([2] ++ beBytes 2 512 ++ [0] ++ beBytes 6 station ++ [0]) (.writeOrigin 512 false 0x0A0000000001 0) ∧
       ask ([2] ++ beBytes 2 0 ++ [0] ++ beBytes 6 0x010000000000 ++ [32]) (.writeOrigin 0 false 0x010000000000 32) ∧
       ask ([3] ++ beBytes 2 31 ++ RackConfig.initial.bytes) (.writeRack 31 .initial) ∧
       ask ([3] ++ beBytes 2 32 ++ RackConfig.initial.bytes) (.writeRack 32 .initial) ∧
       ask ([4] ++ beBytes 2 3 ++ beBytes 8 (2 ^ 63)) (.writeManager 3 0x8000000000000000) ∧
       ask ([4] ++ beBytes 2 4 ++ beBytes 8 5) (.writeManager 4 5)) ∧
      (0x8000000000000000#64).getLsbD 63 = true ∧ (5#64).getLsbD 63 = false ∧
      ((oneServer.mon.origin 0).enabled = true ∧ (oneServer.mon.origin 0).source = 1) ∧
      (oneServer.mon.rack 0).config.enabled = true ∧ running.mon.racks.length = 32 ∧
      ((after (.swap 0) (handed running (askingBare 4))).cls.swapPending = true ∧
        running.cls.swapPending = false) := by decide +kernel

theorem witness_CopySwapClearAndSummary :
    (handed running (askingBare 3)).currentItem = some (askingBare 3, .copy) ∧
      (handed running (askingBare 4)).currentItem = some (askingBare 4, .swap) ∧
      (handed running (asking 8 [3])).currentItem = some (asking 8 [3], .clear true true) ∧
      (handed running (askingBare 9)).currentItem = some (askingBare 9, .summary) := by decide +kernel


/-! ## Witnesses: further clauses, at the limits they name -/

theorem witness_ResetPinReleaseEndsTheReset_power :
    ({ running with phase := .powerReset, resetPin := true } : State).supplyGood = running.supplyGood ∧
      ({ running with phase := .powerReset, supplyGood := true } : State).supplyGood = true ∧
      ({ running with phase := .powerReset, supplyGood := false } : State).phase = .powerReset ∧
      running.phase = .running := by decide +kernel

/-- One fine unit before the debounce width has elapsed, and as it does. -/
theorem witness_PulseEdgesMoveTheQualifier_ends :
    let t : Tentative := { value := 70000, runCounter := 1000, endsAt := 1000 * 65536 }
    let early : State := { timing none with clock := { (timing none).clock with osc := 1000 * 65536 - 1 } }
    let due : State := { timing none with clock := { (timing none).clock with osc := 1000 * 65536 } }
    (early.pulse.tentative = some t ∧ (early.runBy 0).clock.osc < t.endsAt) ∧
      (due.phase = .running ∧ due.pulse.tentative = some t ∧ t.endsAt ≤ (due.runBy 0).clock.osc) ∧
      (after (.pulseInputInactive 0) early).pulse.rejected = 1 ∧
      ((after (.pulseInputInactive 0) due).pulse.rejected, (after (.pulseInputInactive 0) due).pulse.queue.length) =
        (0, 1) := by decide +kernel

/-- A REGULAR pulse with PULSE configured, and without; and the offset at the half second. -/
theorem witness_DebouncedPulseIsRecordedAndHandedOver_regular :
    let s : State := { timing (some 1) with servo := { running.servo with primary := .pulse } }
    (s.configured .pulse = true ∧ (timing (some 1)).configured .pulse = false ∧ s.exch.liveP = false) ∧
      ((after .debounceExpiry s).exch.windowP.map (·.theta), (after .debounceExpiry s).exch.liveP) = ([], true) ∧
      pulseTheta 70000 = 70000 ∧ pulseTheta (fuPerSecond / 2) = fuPerSecond / 2 ∧
      pulseTheta (fuPerSecond / 2 + 1) = 1 - fuPerSecond / 2 := by decide +kernel

theorem witness_LinePairModesAndBypassEntry_payload :
    (let p : Passage := { passing copyFrame with status := .good }
     (running.convertFrame p).payloadStarted = true ∧ (running.convertFrame p).consumer = some .agent) ∧
      (let p := passing copyFrame
       p.arrived running.clock.osc ≤ payloadStart p.bytes ∧ (running.convertFrame p).consumer = none) ∧
      (let s := { buffering .north [{ passing copyFrame with status := .good }] with
         rep := { running.rep with collector := 5 } }
       s.enterBypass.agent.queue.length = 1 ∧ (s.enterBypass.lineAt .north).buffer = []) := by decide +kernel

/-- The longest frame of legal length, and one of 63 bytes that has begun to leave in BYPASS. -/
theorem witness_FrameEndSettlesTheFrame_limits :
    ((longFrame 9216).bytes.length = 9216 ∧ (longFrame 9216).treatment = .boot ∧ (longFrame 9216).consumer = none) ∧
      ({ longFrame 9216 with status := .arriving } : Passage).mayEnd = true ∧
      (let p : Passage := { passing (storageFrame (beBytes 45 0)) with treatment := .boot, departedAt := some 0 }
       p.mayEnd = true ∧ p.bytes.length = 63 ∧ p.departedAt.isSome = true) := by
  refine ⟨⟨?_, rfl, rfl⟩, rfl, ?_⟩
  · exact List.length_replicate
  · decide +kernel

/-- The departure of the Query the record waits for, and of one built before it. -/
theorem witness_DepartureStampsTheFrame_query :
    let s := after .queryTimerExpiry (asked .empty)
    let later : State := { s with exch := { s.exch with built := s.exch.built + 1 } }
    ((s.lineAt .north).transmit = .pickedOwn 0 ∧ s.exch.record = .waiting 8 ∧
        ((s.lineAt .north).origin.map OwnFrame.queryNumber) = [some s.exch.built]) ∧
      later.exch.record = .waiting 8 ∧ ((later.lineAt .north).origin.map OwnFrame.queryNumber) ≠ [some later.exch.built] ∧
      (after (.frameDeparture .north) s).exch.record = .opened 8 0 100 ∧
      (after (.frameDeparture .north) later).exch.record = .waiting 8 := by decide +kernel

/-- What each source of a Notice entry's snapshot may be, and a date record of each flag. -/
theorem witness_OwnFramesLeaveWithTheirMarkedFieldsWritten_entries :
    let entry (x : Snapshot) : NoticeEntry :=
      { subject := .servo, firstOld := .servo running.servo.condition, latestNew := .servo running.servo.condition,
        snapshot := x, count := 255, createdAt := 0 }
    ((entry (.condition 4294967295 15)).sentBytes.drop 6 = [0, 255, 255, 255, 255, 15] ++ beBytes 14 0 ∧
      (entry (.step (-1) .setTime 5)).sentBytes.drop 6 =
        [1, 0, 0, 0, 5, 0] ++ List.replicate 12 255 ++ [2, 0] ∧
      (entry (.gap 6 7)).sentBytes.drop 6 = [0, 0, 0, 6, 0, 0, 0, 7] ++ beBytes 12 0 ∧
      (entry (.swap 9)).sentBytes.drop 6 = [0, 0, 0, 0, 0, 9] ++ beBytes 14 0) ∧
      (recordOf 6 0).sentBytes = [0, 0, 2, 0, 0, 0, 6] ++ beBytes 9 0 ++ [5] ++ beBytes 2 0 ++ [8, 188] ∧
      ({ recordOf 6 1 with held := true, short := true, state := .holdover, origin := some 2, issueOffset := some (-1) } :
          DateRecord).sentBytes =
        [0, 63, 3, 0, 0, 0, 6] ++ beBytes 9 0 ++ [5] ++ beBytes 2 0 ++ [8, 188] ++ [0, 0, 0, 1] ++ [0, 2] ++
          [255, 255, 255, 255] := by decide +kernel

/-- An own frame joining an idle line, one that has picked a passing frame, and one that is sending; seven places taken and
eight; and each frame that may be offered. -/
theorem witness_ArbiterPicksByPriorityWithinTheLimit_joins :
    (∀ transmit ∈ [Transmit.idle, .pickedPassing, .sendingPassing],
      ((queued [.notice] transmit).lineAt .south).transmit = transmit) ∧
      (let s : State := { queued (List.replicate 7 .notice) .idle with
         south := { running.south with queue := brimful.south.queue.take 1 } }
       (s.lineAt .south).origin.length < 8 ∧ (s.offer .south).isSome = true ∧
         ((s.fill .south).lineAt .south).origin.length = 8) ∧
      8 ≤ ((queued (List.replicate 8 .notice) .idle).lineAt .south).origin.length ∧
      running.offer .south = none ∧ running.offer .north = none ∧
      (let grade : State := { running with south := { running.south with waitingGrade := some running.buildGrade } }
       grade.south.queue = [] ∧ (grade.offer .south).map (·.1.kind) = some .grade) ∧
      (let query : State := { running with exch := { running.exch with waitingQuery := some running.buildQuery } }
       (query.offer .north).map (·.1.kind) = some .query) ∧
      (let x (notice date summary : Bool) : State := { running with rep := { running.rep with
         noticeWaiting := notice, dateReportWaiting := date, summaryWaiting := summary } }
       ([x true true true, x false true true, x false false true].map fun s =>
         (s.offer running.rep.collectorLine).map (·.1.kind)) = [some .notice, some .dateReport, some .summary]) ∧
      (let p : Passage := { passing (storageFrame (beBytes 46 0)) with status := .good, classification := some .complete }
       let s := (buffering .north [p]).setLine .south { LineState.initial with transmit := .pickedPassing }
       let t := s.join .south (running.ownFrame .notice 1 none 0x9C42 [])
       (t.lineAt .south).transmit = .pickedOwn 0) := by decide +kernel

/-- A part in AUTO and ACQUIRE on NORTH, which is LOST, with PULSE its secondary: an offer of PULSE switches it. A part locked
to its secondary whose primary has long been LIVE: an offer makes the revert. -/
theorem witness_LossSwitchesOrHoldsOver_offers :
    (let s := withSecondary .acquire false
     let t : State := { s with exch := { s.exch with liveN := false } }
     t.servo.held = false ∧ t.configured .pulse = true ∧ t.servo.state = .acquire ∧ t.servo.active ≠ .pulse ∧
       t.live t.servo.active = false ∧ (t.liveEvent .pulse).servo.active = .pulse) ∧
      (let s := reverting 60000
       let marked := s.setServo
         ((s.servo.setMark .pulse (some { since := s.clock.runCounter, age := 0 })).reschedule s.servo)
       s.servo.held = false ∧ s.configured .pulse = true ∧ s.servo.state = .locked ∧ marked.revertPasses = true ∧
         (s.liveEvent .pulse).servo.active = .north) ∧
      running.configured .north = false := by decide +kernel

/-- A part whose rack 0 takes storage samples, with a sample held on line S. -/
def storing : State :=
  { oneServer with mon := { oneServer.mon with
      racks := .cleared { RackConfig.initial with enabled := true, storageSamples := true } :: List.replicate 31 (.cleared .initial)
      heldS := some { index := 0, source := 1, residual := 5 * 65536, sample := 5 } } }

theorem witness_QueriesAreSampledAndQueued_monitor :
    1 ≤ storing.mon.settleCount ∧
      ((storing.mon.origin 0).enabled = true ∧ (storing.mon.rack 0).config.enabled = true) ∧
      (storing.mon.origin 1).enabled = false ∧
      (storing.mon.lookup 1 = some 0 ∧ storing.mon.lookup 2 = none) ∧
      ((storing.mon.rack 0).config.storageSamples = true ∧ (oneServer.mon.rack 0).config.enabled = true ∧
        (oneServer.mon.rack 0).config.storageSamples = RackConfig.initial.storageSamples) ∧
      (storing.mon.heldSample .north = none ∧
        storing.mon.heldSample .south = some { index := 0, source := 1, residual := 5 * 65536, sample := 5 }) ∧
      (storing.mon.origin 0).source = 1 := by decide +kernel

/-- A part in some state that follows NORTH over a window. -/
def sampling (state : ServoState) (held align : Bool) (window : List Sample) : State :=
  let s := following state true
  { s with
    exch := { s.exch with windowN := window }
    servo := { s.servo with held := held, alignPending := align, lockCounter := 3, unlockCounter := 2 } }

theorem witness_SelectionAndStepTest_events :
    let full := List.replicate 7 (sampleOf 0)
    ((sampling .acquire false false (full ++ [sampleOf 5])).activeWindow = full ++ [sampleOf 5] ∧
        selectSample (full ++ [sampleOf 5]) = some (sampleOf 5) ∧ full.length + 1 = running.exch.windowSize ∧
        ((sampling .acquire false false (full ++ [sampleOf 5])).sampleEntered .north).servo.state = .locked ∧
        ((sampling .acquire false false [sampleOf 5]).sampleEntered .north).servo.state = .acquire) ∧
      (let limit : Int := running.servo.stepLimit
       stepTest [sampleOf (limit + 1), sampleOf (limit + 1)] (65536 * running.servo.stepLimit) = .step ∧
         stepTest [sampleOf 0, sampleOf (limit + 1)] (65536 * running.servo.stepLimit) = .hold ∧
         stepTest [sampleOf (limit + 1), sampleOf limit] (65536 * running.servo.stepLimit) = .steer) ∧
      (let limit : Int := max running.servo.unlockLimit running.servo.lockLimit
       ¬65536 * max running.servo.unlockLimit running.servo.lockLimit < (sampleOf limit).theta.natAbs ∧
         65536 * max running.servo.unlockLimit running.servo.lockLimit < (sampleOf (limit + 1)).theta.natAbs ∧
         ((sampling .locked false false [sampleOf (limit + 1)]).sampleEntered .north).servo.state = .acquire ∧
         ((sampling .locked false false [sampleOf limit]).sampleEntered .north).servo.state = .locked) ∧
      (∀ align : Bool, (sampling .holdover true align [sampleOf 5]).servo.held = true ∧
        (sampling .holdover true align [sampleOf 5]).servo.alignPending = align) ∧
      (let s := sampling .holdover false false [sampleOf 5]
       s.servo.held = false ∧ s.servo.state = .holdover ∧ s.available .north = true ∧ s.servo.primary = .north ∧
         s.available .pulse = false ∧ s.servo.active ≠ .pulse) := by decide +kernel

theorem witness_ServoArithmetic_stamps :
    let f (t2 t3 : Nat) : ReplyFields := { replyFields 1 14 0 with t2 := ⟨0, t2, 0⟩, t3 := ⟨0, t3, 0⟩ }
    ((f 1000000000 0).t2.nanos = 1000000000 ∧ roundTrip 0 0 0 (f 1000000000 0) = none ∧
        roundTrip 0 0 0 (f 0 1000000000) = none) ∧
      ((f 999999999 999999999).t2.nanos < 1000000000 ∧ (f 999999999 999999999).t3.nanos < 1000000000 ∧
        roundTrip 0 0 0 (f 999999999 999999999) = some { theta := -999999999 * 65536, delay := 0 }) := by
  decide +kernel

theorem witness_HoldoverEndsByLimitOrCeiling_elsewhere :
    (handed running (writing 29 1)).currentItem = some (writing 29 1, .writeSetting 29 1) ∧
      (handed running (writing 22 1)).currentItem = some (writing 22 1, .writeSetting 22 1) ∧
      running.servo.state = .free ∧ (following .locked true).servo.state = .locked ∧
      ((following .acquire false).servo.state = .acquire ∧ (following .acquire false).servo.memory = false) := by
  decide +kernel

/-- The primary's mark unchanged with an expiry due, changed to absent, and changed with the revert time to come and reached. -/
theorem witness_RevertReturnsToThePrimary_schedule :
    let v := (reverting 60000).servo
    let old := (reverting 59999).servo
    (v.mark v.primary = v.mark v.primary ∧ (v.reschedule v).revertIn = some 0) ∧
      (v.mark v.primary ≠ old.mark old.primary ∧ v.mark v.primary = some { since := 0, age := 60000 } ∧
        v.revertTime * 1000 ≤ (60000 : BitVec 48).toNat ∧ (v.reschedule old).revertIn = none) ∧
      ((59999 : BitVec 48).toNat < old.revertTime * 1000 ∧ (old.reschedule v).revertIn = some 1) ∧
      (v.setMark .north none).mark v.primary = none ∧
      v.revertTime ≠ ({ v with revertTime := 61 } : Servo).revertTime := by decide +kernel

theorem witness_OwnFrameTimersAndReadiness_transitions :
    (reporting.rep.notices.map NoticeEntry.subject = [.swap]) ∧ (∀ f ∈ reporting.rep.notices, f.subject ≠ .servo) ∧
      (∀ f ∈ brimful.rep.notices, f.subject ≠ .servo) ∧ 64 ≤ brimful.rep.notices.length ∧
      reporting.rep.notices.length < 64 := by decide +kernel

/-- Payloads that are no readable request, one that is, and the agent's states that turn one away. -/
theorem witness_RequestsAreAnswered_taken :
    let shortFrame := framed partAddress station 0x9C42 [1, 1, 0, 7, 3]
    let body := payloadOf copyFrame
    (body[0]? = some 1 ∧ body[1]? = some 1 ∧ 6 ≤ body.length) ∧ sourceOf copyFrame = some 0x0A0000000001 ∧
      (payloadOf shortFrame).length = 5 ∧
      (0x010000000001 : Address).getLsbD 40 = true ∧
      sourceOf (framed partAddress 0x010000000001 0x9C42 [1, 1, 0, 7, 3, 0]) = some 0x010000000001 ∧
      running.agent.managers = [none, none, none, none] ∧
      (let s : State := { running with agent := { running.agent with managers := [some 5, none, none, none] } }
       s.agent.managers.all Option.isNone = false ∧ some (0x0A0000000001 : Address) ∉ s.agent.managers ∧
         (s.takeRequest .north copyFrame).agent.disallowed = 1) ∧
      ({ running with agent := { running.agent with southManagement := false } } : State).agent.southManagement = false ∧
      (4 ≤ brimful.agent.queue.length ∧ running.agent.queue.length < 4 ∧
        (brimful.takeRequest .north copyFrame).agent.queueFull = 1 ∧
        (running.takeRequest .north copyFrame).agent.queue.length = 1) := by decide +kernel

/-- R168, R180: a request of two items of which the second is no item is answered BAD_VALUE with an item for each. -/
theorem test_bad_items_are_counted :
    let r : Request := { asking 2 [] with body := [1, 1, 0x03, 0x12, 2, 2] ++ beBytes 2 1 ++ [0] }
    let t := after (.requestBadItems 0) (handed running r)
    t.lines.north.origin.map (fun f => f.bytes.drop f.start) =
      [[1, 2, 0x03, 0x12, 4, 2, 4, 0, 0, 4, 0, 0]] := by decide +kernel

theorem witness_ReadsThatClearWhatTheyReturn_refused :
    ({ running with agent := { running.agent with overflowed := true } } : State).agent.overflowed = true ∧
      running.agent.overflowed = false ∧
      running.fits (asking 1 [4]) (List.replicate 9190 0) = false ∧
      (running.cls.matchCounts.length = 64 ∧ running.mon.origins.length = 512) := by
  refine ⟨rfl, rfl, ?_, by decide +kernel, by decide +kernel⟩
  rw [fits_running, List.length_replicate]; decide

/-- The limits of a frame type, each way of being refused, and the pulse lines' limits. -/
theorem witness_SettingsAreStoredClampedOrRefused_limits :
    let legal (v : BitVec 64) : Bool :=
      0x0600 ≤ v.toNat && v.toNat ≤ 0xFFFF && v.toNat != 0x8100 && v.toNat != running.lines.managementType.toNat
    ([0x05FF, 0x0600, 0x80FF, 0x8100, 0x8101, 0x9C42, 0xFFFF, 0x10000].map legal) =
        [false, true, true, false, true, false, true, false] ∧
      (handed running (writing 3 0x8100)).currentItem = some (writing 3 0x8100, .writeSetting 3 0x8100) ∧
      [0x05FF, 0x0600, 0x8100, 0xFFFF, 0x10000].map (fun v =>
        (after (.writeSetting 0) (handed running (writing 3 v))).lines.timingType) =
          [0x9C41, 0x0600, 0x9C41, 0xFFFF, 0x9C41] := by
  decide +kernel

/-- A STRAY entry with fewer samples than an n_s of 16, in a rack that is enabled. -/
def straying : State :=
  { oneServer with mon := { oneServer.mon with
      origins := [{ tracked 1 1200 with state := .stray, sampleCount := 15 }, .initial] } }

theorem witness_SettingsThatActAtOnce_stray :
    (handed straying (writing 36 16)).currentItem = some (writing 36 16, .writeSetting 36 16) ∧
      ((straying.mon.origin 0).state = .stray ∧ (straying.mon.origin 0).sampleCount < 16) ∧
      (after (.writeSettleCount 0) (handed straying (writing 36 16))).rep.notices.map NoticeEntry.subject =
        [.server 0] := by decide +kernel

theorem witness_TableWritesTestThenStore_stray :
    let disabled := { RackConfig.initial with enabled := false }
    let r := asking 2 ([3] ++ beBytes 2 0 ++ disabled.bytes)
    let o := asking 2 ([2] ++ beBytes 2 0 ++ [1] ++ beBytes 6 1 ++ [0])
    let s : State := { straying with mon := { straying.mon with
      racks := { Rack.cleared { RackConfig.initial with enabled := true } with state := .watch } :: straying.mon.racks.drop 1 } }
    ((handed s r).currentItem = some (r, .writeRack 0 disabled) ∧ (s.mon.rack 0).config.enabled = true ∧
        disabled.enabled = false ∧
        (after (.writeRackEntry 0) (handed s r)).rep.notices.map NoticeEntry.subject = [.server 0, .rack 0]) ∧
      (handed s o).currentItem = some (o, .writeOrigin 0 true 1 0) ∧
        (after (.writeOriginEntry 0) (handed s o)).rep.notices.map NoticeEntry.subject = [.server 0] := by decide +kernel

/-- An assertion of 1 ns in a POWER reset whose supply is good is held, and the release that follows ends the reset. -/
theorem witness_ResetPinReleaseEndsTheReset_short :
    let s : State := { running with phase := .powerReset, resetPin := false, supplyGood := true }
    let t := after (.resetPinAssert 0 1) s
    (t.phase, t.resetPin, t.supplyGood) = (.powerReset, true, true) ∧
      (after (.resetPinRelease 0 5) t).phase = .running := by decide +kernel

/-- A frame that carries both edits, whose stamp field lies just inside it, and one byte further on; the date stands over
the correction where the two fields share bytes. -/
theorem witness_EditsWriteTheirFieldAndNoOther_both :
    let p (offset : Nat) : Passage :=
      { passing (beBytes 64 0) with residence := some 5, edits := [.correctionAdd, .stampField offset 7] }
    ((p 36).cutAt = none ∧ payloadStart (p 36).bytes = 14 ∧ (p 36).bytes.length = 64) ∧
      (withoutCheck (p 36).sentBytes).drop 28 = beBytes 7 0 ++ [5] ++ beBytes 14 0 ++ beBytes 9 0 ++ [7] ∧
      (withoutCheck (p 37).sentBytes).drop 28 = beBytes 7 0 ++ [5] ++ beBytes 24 0 ∧
      (withoutCheck (p 12).sentBytes).drop 24 = beBytes 11 0 ++ [7] ++ beBytes 24 0 := by decide +kernel

/-- The bytes of a rack's snapshot, of a server's without a filtered sample, and of a Summary's rack record. -/
theorem witness_OwnFramesLeaveWithTheirMarkedFieldsWritten_snapshots :
    let entry (subject : Subject) (x y : SubjectState) (snapshot : Snapshot) : NoticeEntry :=
      { subject := subject, firstOld := x, latestNew := y, snapshot := snapshot, count := 2, createdAt := 0 }
    (entry (.rack 31) (.rack .inStep) (.rack .drifting) (.rack (some (-1)) (some 300) none 7 true false)).sentBytes =
        [1, 0, 31, 2, 4, 2, 0b01011, 255, 255, 255, 255, 0, 0, 1, 44] ++ beBytes 4 0 ++ [0, 7] ++ beBytes 5 0 ∧
      (entry (.server 511) (.server .stray) (.server .silent) (.server none 31)).sentBytes =
        [2, 1, 255, 3, 4, 2, 0] ++ beBytes 4 0 ++ [31] ++ beBytes 14 0 ∧
      ({ Rack.cleared RackConfig.initial with state := .watch, mean := some 258, members := 300, drill := true } :
          Rack).summaryBytes = [3, 0b1001, 0, 0, 1, 2, 0, 0, 0, 0, 1, 44] ∧
      ({ state := .holdover, held := true, memory := true, active := .pulse } : Condition).code = 0x1F := by decide +kernel

/-- A part locked to NORTH, or in ACQUIRE on it, keeps what R54 asks. -/
theorem northKept_withSecondary (state : ServoState) (live : Bool) : (withSecondary state live).northKept := by
  cases state <;> cases live <;> unfold State.northKept <;> decide +kernel

/-- The writes of a reference that take the active one away, with the other available and not; in ACQUIRE and in HELD mode
with nothing to switch to; and the write that leaves the set as it was. -/
theorem witness_ReferencesAreReconfigured_losses :
    let write (s : State) (id : Nat) (v : BitVec 64) : Servo :=
      (after (if id = 9 then .writeLeaderAddress 0 else .writeReference 0) (handed s (writing id v))).servo
    let entered (v : Servo) := (v.state, v.active, v.entryU.isSome, v.holdTime, v.lastChange.isSome)
    (∀ live : Bool, (withSecondary .locked live).northKept ∧ (withSecondary .acquire live).northKept) ∧
      entered (write (withSecondary .locked true) 9 0) = (.acquire, .pulse, true, some 0, true) ∧
      entered (write (withSecondary .locked false) 9 0) = (.holdover, .none, true, some 0, true) ∧
      entered (write (withSecondary .acquire true) 9 0) = (.acquire, .pulse, true, some 0, true) ∧
      entered (write (withSecondary .acquire false) 9 0) = (.acquire, .none, false, none, true) ∧
      (let s := heldIn .holdover
       s.northKept ∧ entered (write s 23 2) = (.holdover, .none, true, some 5, true)) ∧
      entered (write (withSecondary .locked true) 9 5) = (.locked, .north, false, none, false) := by
  refine ⟨fun live => ⟨northKept_withSecondary _ live, northKept_withSecondary _ live⟩, ?_⟩
  refine ⟨by decide +kernel, by decide +kernel, by decide +kernel, by decide +kernel, ⟨?_, by decide +kernel⟩,
    by decide +kernel⟩
  unfold State.northKept; decide +kernel

/-- PULSE becoming configured while LIVE is an offer in ACQUIRE; a primary that comes to be PULSE, long LIVE, while the
servo is locked to its secondary makes the revert. -/
theorem witness_ReferencesAreReconfigured_offers :
    let write (s : State) (id : Nat) (v : BitVec 64) : Servo := (after (.writeReference 0) (handed s (writing id v))).servo
    (let s : State := { running with
       exch := { running.exch with liveP := true }
       servo := { running.servo with state := .acquire, active := .none, primary := .none } }
     s.northKept ∧ s.configured .pulse = false ∧ s.live s.servo.active = false ∧
       ((write s 23 1).state, (write s 23 1).active) = (.acquire, .pulse)) ∧
      (let f := following .locked true
       let s : State := { f with
         exch := { f.exch with liveP := true }
         servo := { f.servo with primary := .none, secondary := .north, markP := some { since := 0, age := 60000 } } }
       s.northKept ∧ s.servo.held = false ∧
         ((write s 23 1).state, (write s 23 1).active, (write s 23 1).primary) = (.acquire, .pulse, .pulse)) := by
  refine ⟨⟨?_, by decide +kernel⟩, ?_, by decide +kernel⟩ <;> (unfold State.northKept; decide +kernel)

/-- Each limit of a rack entry, met and passed. -/
theorem witness_TableWritesTestThenStore_limits :
    let low : RackConfig := { RackConfig.initial with
      watchOn := 0, watchOff := 1, driftOn := -1, driftOff := 0, rateOn := 1, spreadLimit := 0, strayLimit := 0, confirm := 0
      nominalDelay := -1, drillOffset := -100000001 }
    let high : RackConfig := { RackConfig.initial with
      watchOn := 2000000001, watchOff := 2000000000, driftOn := 2000000001, driftOff := 2000000001, rateOn := 1000001
      spreadLimit := 4000000001, strayLimit := 4000000001, confirm := 9, nominalDelay := 10000001
      drillOffset := 100000001 }
    let figures (c : RackConfig) : List Int := [c.watchOn, c.watchOff, c.driftOn, c.driftOff, c.rateOn, c.spreadLimit,
      c.strayLimit, c.confirm, c.nominalDelay, c.drillOffset]
    let write (c : RackConfig) : List Int :=
      figures ((after (.writeRackEntry 0) (handed running (asking 2 ([3] ++ beBytes 2 31 ++ c.bytes)))).mon.rack 31).config
    write low = [1, 1, 1, 1, 2, 1, 1, 1, 0, -100000000] ∧
      write high = [2000000000, 2000000000, 2000000000, 2000000000, 1000000, 4000000000, 4000000000, 8, 10000000,
        100000000] := by decide +kernel

/-- An arbiter that sends a frame finishes it; an idle one, and one whose own pick has not begun to leave, pick a passing frame
that has not begun to leave, and none where the oldest has. -/
theorem witness_ResetPinStartsAFullReset_arbiters :
    let p := passing copyFrame
    let s (transmit : Transmit) (frame : Passage) : State :=
      (buffering .south [frame]).setLine .north { LineState.initial with transmit := transmit }
    let after (transmit : Transmit) (frame : Passage) : Transmit :=
      ((after (.resetPinAssert 0 10000) (s transmit frame)).lineAt .north).transmit
    (after .idle p, after (.pickedOwn 0) p, after (.sendingOwn [1]) p) = (.pickedPassing, .pickedPassing, .sendingOwn [1]) ∧
      (after .sendingPassing { p with departedAt := some 5 }, after (.pickedOwn 0) { p with departedAt := some 5 },
        after .idle { p with consumer := some .agent }) = (.sendingPassing, .idle, .idle) := by decide +kernel

/-- R175: where the fields of a Query and of a Reply stand, each frame of the fewest payload bytes and of one fewer, and one of
another version; and the last stamp of the timescale. -/
theorem witness_RepliesAreMatchedBySequence_fields :
    let header (kind flags : Byte) : List Byte := [2, kind, 9, flags, 1, 2] ++ beBytes 8 3 ++ List.replicate 7 255 ++ [254]
    let query (flags : Byte) (rest : List Byte) : List Byte :=
      framed partAddress station 0x9C41 (header 1 flags ++ beBytes 6 4 ++ beBytes 4 5 ++ beBytes 2 6 ++ rest)
    let body : List Byte := beBytes 8 7 ++ beBytes 6 8 ++ beBytes 4 9 ++ beBytes 2 10 ++ beBytes 6 11 ++ beBytes 4 12 ++
      beBytes 2 13 ++ beBytes 8 14 ++ [15] ++ beBytes 4 16
    let reply (payload : List Byte) : Option ReplyFields := readReply (framed partAddress station 0x9C41 payload)
    (readQuery (query 0 []) = some { seq := 258, senderId := 3, correction := -2, t1 := ⟨4, 5, 6⟩, reported := none } ∧
      (readQuery (query 3 (beBytes 4 17))).map (·.reported) = some (some 17) ∧
      readQuery (framed partAddress station 0x9C41 (header 1 0 ++ beBytes 11 0)) = none) ∧
      reply (header 2 0 ++ body) = some
        { seq := 258, correction := -2, requester := 7, t2 := ⟨8, 9, 10⟩, t3 := ⟨11, 12, 13⟩, cFwd := 14, leaderClass := 15,
          leaderU := 16 } ∧
      reply (header 2 0 ++ body.take 44) = none ∧ reply ([1] ++ (header 2 0).drop 1 ++ body) = none ∧
      stampBytes (2 ^ 48 * 1000000000 * 65536 - 1) =
        List.replicate 6 255 ++ beBytes 4 999999999 ++ [255, 255] := by decide +kernel

/-- The notice set's oldest entry is 5 ms old: a holdoff of 5 ms makes its Notice join at once, and one of 6 ms does not. -/
theorem witness_SettingsAreStoredClampedOrRefused_holdoff :
    let write (ms : BitVec 64) : State := after (.writeSetting 0) (handed (reportingAt (5 * fuPerMs)) (writing 44 ms))
    ((write 6).rep.notices.length, (write 6).rep.noticeWaiting) = (1, false) ∧
      ((write 5).rep.notices.length, (write 5).lines.north.origin.map (·.kind)) = (0, [.notice, .response]) := by
  decide +kernel

/-- A write of q and one of g leave their timers as they run. -/
theorem witness_SettingsAreStoredClampedOrRefused_timers :
    let s := { following .locked true with south := { running.south with gradeAt := 77 * fuPerMs } }
    (after (.writeSetting 0) (handed s (writing 11 4))).exch.queryIn = some 1000 ∧
      (after (.writeSetting 0) (handed s (writing 31 4))).south.gradeAt = 77 * fuPerMs := by decide +kernel

/-- U and the own class in each state: locked, with the class of the selection or of the pulses, and in HOLDOVER. -/
theorem witness_UnboundedExactlyInFreeOrAcquireWithoutMemory_forms :
    (let v : Servo := { Servo.initial with
       state := .holdover, memory := true, entryU := some 2236, holdTime := some 1000 }
     v.uncertainty = 2286 ∧ ({ v with state := .acquire } : Servo).uncertainty = 2286 ∧
       ({ running with servo := v } : State).ownClass = 13) ∧
      (∀ c ∈ [(0, 1), (11, 12), (14, 12)],
        let s := following .locked true
        ({ s with servo := { s.servo with leaderClass := some c.1, lockedU := 454 } } : State).ownClass = c.2) ∧
      (let s := followingPulse .locked true
       s.servo.active = .pulse ∧ s.ownClass = 1) ∧
      ((following .acquire true).ownClass, (following .acquire false).ownClass, running.ownClass) = (13, 14, 15) := by
  decide +kernel

/-- R180: a regular capture and a SOFT one, as they are read. -/
theorem witness_CaptureReadReturnsAndEmptiesTheQueue_bytes :
    let c (soft : Bool) : CaptureRecord := { value := 65537, runCounter := 258, regular := !soft, soft := soft }
    (c false).bytes = beBytes 6 0 ++ [0, 0, 0, 1, 0, 1] ++ [0, 0, 1, 2] ++ [1] ∧
      (c true).bytes = beBytes 6 0 ++ [0, 0, 0, 1, 0, 1] ++ [0, 0, 1, 2] ++ [2] := by decide +kernel

/-- An entry that names all it can: a line, a type, a source and masked bytes, the last of them the frame's last byte; and the
issue stamp at its limits, the frame's end and a second's nanoseconds. -/
theorem witness_PassingFrameIsClassifiedByItsFirstFit_fits :
    (let f := storageFrame [0x5A, 0xC3]
     let e : ClassEntry := { ClassEntry.blank with
       enabled := true, line := .south, typeValue := some 0x0800, source := some 0x0A0000000001
       terms := [some { offset := 0, value := 0x0A, mask := 0x0F }, none,
                 some { offset := 1, value := 0xC3, mask := 0xFF }, none] }
     e.fits .south (f.take 16) = true ∧ e.fits .south (f.take 15) = false ∧ e.fits .north (f.take 16) = false ∧
       ({ e with source := some 1 } : ClassEntry).fits .south f = false ∧
       ({ e with typeValue := some 0x9C41 } : ClassEntry).fits .south f = false ∧
       ({ e with enabled := false, line := .either } : ClassEntry).fits .south f = false) ∧
      (let e : ClassEntry := { ClassEntry.blank with issueOffset := some 2 }
       let f (nanos : Nat) : List Byte := (storageFrame ([0, 0] ++ beBytes 6 77 ++ beBytes 4 nanos)).take 26
       e.issueStamp (f 999999999) = some { seconds := 77, nanos := 999999999, fraction := 0 } ∧
         e.issueStamp (f 1000000000) = none ∧ e.issueStamp ((f 5).take 25) = none) := by decide +kernel

/-- The loss of a primary takes a revert expiry that stood with it, and that of the secondary does not. -/
theorem witness_LossSwitchesOrHoldsOver_revert :
    let s := withSecondary .locked true
    let mark : LiveMark := { since := 7, age := 9 }
    let t : State := { s with servo := { s.servo with markN := some mark, markP := some mark, revertIn := some 5 } }
    ((t.lostEvent .north).servo.revertIn, (t.lostEvent .pulse).servo.revertIn) = (none, some 5) ∧
      ((t.lostEvent .north).servo.lastChange, (t.lostEvent .pulse).servo.lastChange) = (some 0, none) := by
  decide +kernel

/-- R178, R179: items read at the limits of their lengths, counts, selectors, flags and operands. -/
theorem witness_RequestsAreAnswered_items :
    (parseItem 1 [0, 0, 7] = some (.readSettings [7]) ∧ parseItem 1 [0, 0, 7, 0] = none ∧
        parseItem 1 (List.replicate 33 0) = some (.readSettings (List.replicate 16 0)) ∧
        parseItem 1 (List.replicate 35 0) = none) ∧
      (parseItem 1 [1, 1, 1, 2, 16] = some (.readClass true 258 16) ∧ parseItem 1 [1, 2, 1, 2, 16] = none ∧
        parseItem 1 [3, 0, 1, 0] = none ∧ parseItem 1 [3, 0, 1, 17] = none) ∧
      (parseItem 1 [7, 8] = some (.readCounts 8) ∧ parseItem 1 [7, 7] = none ∧ parseItem 1 [8, 0] = none ∧
        parseItem 1 [9] = none) := by decide +kernel

/-- The entries of a WRITE and the operands of the other commands, read likewise. -/
theorem witness_RequestsAreAnswered_operands :
    (parseItem 2 [2, 1, 255, 1, 1, 2, 3, 4, 5, 6, 9] = some (.writeOrigin 511 true 0x010203040506 9) ∧
        parseItem 2 [2, 1, 255, 2, 1, 2, 3, 4, 5, 6, 9] = none) ∧
      (parseItem 5 ([3] ++ List.replicate 8 255) = some (.servoSetRate (-1)) ∧ parseItem 5 [3] = none ∧
        parseItem 5 [2] = some .servoAlign ∧ parseItem 5 [4] = none) ∧
      (parseItem 6 (List.replicate 12 0) = some (.setTime { seconds := 0, nanos := 0, fraction := 0 }) ∧
        parseItem 6 (List.replicate 11 0) = none) ∧
      (parseItem 8 [0] = none ∧ parseItem 8 [3] = some (.clear true true) ∧ parseItem 10 [2] = none ∧
        parseItem 11 [1] = some .resetFull) := by decide +kernel

/-- In ACTIVE after reset the first tick is the first thing due; a query timer that is due lets no time run, and a reset that
the pin holds lets it run to the boundary. -/
theorem witness_RunningIsExactAndAdditive_slack :
    running.clock.remainder < 1000000000000 ∧ -1000000000000 < running.clock.rateA ∧ running.slack = fuPerMs ∧
      ({ running with exch := { running.exch with queryIn := some 0 } } : State).slack = 0 ∧
      ({ running with phase := .pinReset } : State).slack = fuPerSecond - 1 := by decide +kernel

/-- The supply becomes good in a POWER reset in which the pulse input has become active, with the pin asserted and not. -/
theorem witness_ResetPinReleaseEndsTheReset_supply :
    let s (pin : Bool) : State :=
      { running with phase := .powerReset, supplyGood := false, resetPin := pin, pulse := { running.pulse with pinHigh := true } }
    ((after (.powerGood 0 9) (s false)).phase, (after (.powerGood 0 9) (s false)).pulse.qualifier) =
        (.running, .releasing) ∧
      ((after (.powerGood 0 9) (s true)).phase, (after (.powerGood 0 9) (s true)).supplyGood) = (.powerReset, true) ∧
      running.phase ≠ .powerReset := by decide +kernel

/-- When a passing frame is ready, by its treatment, and when it is not. -/
theorem witness_ArbiterPicksByPriorityWithinTheLimit_ready :
    let p (n : Nat) : Passage := { passing (List.replicate n 0) with classification := some .complete }
    ((p 64).ready, (p 63).ready, (passing (List.replicate 64 0)).ready) = (true, false, false) ∧
      ({ p 64 with departedAt := some 5 } : Passage).ready = false ∧
      (∀ started : Bool, ({ passing [0] with treatment := .commanded, payloadStarted := started } : Passage).ready = started) ∧
      ({ passing [0] with treatment := .boot } : Passage).ready = true := by decide +kernel

/-- R139: a nominal delay written while the frame is in passage is in the sample as it is applied. -/
theorem witness_QueriesAreSampledAndQueued_delay :
    let m : Monitor := storing.mon.modifyRack 0 fun r => { r with config := { r.config with nominalDelay := 100 } }
    ((m.frameEnd .south true 7).origin 0).lastSample = some 105 ∧
      ((storing.mon.frameEnd .south true 7).origin 0).lastSample = some 5 := by decide +kernel

/-- R174: the tag of a request with its drop flag set, copied. -/
theorem witness_RequestsAreAnswered_tag :
    tagOf (List.replicate 12 0 ++ [0x81, 0x00, 0xB2, 0x34]) = some 0xA234 ∧
      tagOf (List.replicate 12 0 ++ [0x81, 0x00, 0xB2]) = none ∧ tagOf (storageFrame []) = none := by decide +kernel

/-! ## Further tests, each of one command -/

/-- R165, R167: a good management frame addressed to the part enters the request queue at its last byte. -/
theorem test_request_enters_at_frame_end :
    let p : Passage := { passing copyFrame with classification := some .complete, consumer := some .agent }
    let t := after (.frameEnd 0 .north) (buffering .north [p])
    t.agent.queue.map Request.command = [3] ∧ (t.lineAt .north).buffer = [] := by decide +kernel

/-- R26: the same frame with one bit wrong is counted, and nothing is taken. -/
theorem test_bad_request_is_counted :
    let p : Passage := { passing (copyFrame.take 63 ++ [copyFrame.getD 63 0 ^^^ 1]) with
      classification := some .complete, consumer := some .agent }
    let t := after (.frameEnd 0 .north) (buffering .north [p])
    t.agent.queue = [] ∧ (t.lineAt .north).badCheck = 1 := by decide +kernel

/-- R57, R175: a Query: version 2, kind 1, domain, flags, sequence, sender id, correction 0. -/
theorem test_query_layout :
    let t := after .queryTimerExpiry (asked .empty)
    (t.lineAt .north).origin.map OwnFrame.bytes =
      [beBytes 6 0x0A0000000009 ++ beBytes 6 partAddress ++ [0x9C, 0x41] ++ [2, 1, 0, 0, 0, 8] ++
        beBytes 6 partAddress ++ [0, 1] ++ beBytes 20 0] := by decide +kernel

/-- R116, R175: a Grade of a FREE part: class 15, code 0, exponent 0, U unbounded. -/
theorem test_grade_layout :
    (running.buildGrade.bytes.drop 36) = [15, 0, 0, 0xFF, 0xFF, 0xFF, 0xFF] := by decide +kernel

/-- R15: CAPTURE NOW with eight records queued sets OVERRUN and keeps the queue. -/
theorem test_capture_now_overruns :
    let t := after (.captureNow 0) (handed brimful (asking 7 [1]))
    t.pulse.overrun = true ∧ t.pulse.queue.length = 8 := by decide +kernel

/-- R121: a candidate at the last date is held at one nanosecond more. -/
theorem test_held_date :
    settleDate (some 6) 6 = (7, true) ∧ settleDate (some 6) 7 = (7, false) ∧ settleDate none 0 = (0, false) := by
  decide

/-- R47: a second SWAP is answered ALREADY_PENDING. -/
theorem test_second_swap :
    let s := after (.swap 0) (handed running (askingBare 4))
    let t := after (.swap 0) (handed s (askingBare 4))
    t.lines.north.origin.map (fun f => f.bytes.drop f.start) =
      [[1, 2, 0x03, 0x12, 0, 1, 0, 0, 0], [1, 2, 0x03, 0x12, 7, 1, 7, 0, 0]] := by decide +kernel

/-- R97: at the default limit of 86,400 s HOLDOVER ends in FREE, with no active reference. -/
theorem test_holdover_limit :
    let t := after .holdoverLimitExpiry (heldOver .holdover 86400000 50000)
    (t.servo.state, t.servo.memory, t.servo.active, t.servo.uncertainty) = (.free, false, .none, 4294967295) := by
  decide +kernel

/-- R63: the fourth miss in a row makes NORTH LOST, and a part with no other reference enters HOLDOVER. -/
theorem test_fourth_miss :
    let s := asked (.opened 7 5 0)
    let t := after .replyWindowExpiry { s with exch := { s.exch with missed := 3 } }
    (t.exch.liveN, t.exch.missed, t.servo.state, t.servo.active) = (false, 4, .holdover, .north) := by decide +kernel

/-- R22: the entry into commanded BYPASS takes the stamp and the classification of a waiting frame. -/
theorem test_bypass_converts :
    let s := handed (buffering .north [passing (storageFrame (beBytes 46 0))]) (asking 10 [1])
    let t := after (.bypassOn 0) s
    t.lines.mode = .commanded ∧ ((t.lineAt .north).buffer.map fun p => (p.treatment, p.arrival, p.classification)) =
      [(.commanded, none, none)] := by decide +kernel

/-- R172: the reset pin held for 10 µs starts a FULL reset, which a release ends with the straps in the address. -/
theorem test_pin_reset :
    let t := after (.resetPinAssert 0 10000) (following .locked true)
    let u := after (.resetPinRelease 0 0x2A) t
    (t.phase, t.servo.state, u.phase, u.agent.address) = (.pinReset, .free, .running, 0x02C51A00002A) := by
  decide +kernel

end Sys2Proof.Tests
end

section
/-! The pulse input's capture mark and the capture commands: what the servo leaves of the mark (R13, R14), and CAPTURE
NOW (R16). -/

namespace Sys2Proof.Machine

/-! ### The previous capture mark under the servo and the pulse reference (R14)

Taking a capture can end in a step of the timescale, which moves the tentative capture (R13) and so leaves no frame lemma
about the whole pulse input. The mark is a run-counter reading, which no step moves. -/

@[simp] theorem PulseInput.shift_previousMark (p : PulseInput) (applied : Int) :
    (p.shift applied).previousMark = p.previousMark := rfl

@[simp] theorem State.applyStep_pulse (s : State) (sigma : Int) (source : StepSource) :
    (s.applyStep sigma source).pulse = s.pulse.shift (s.clock.appliedAmount sigma) := by
  simp [State.applyStep, State.stepStamps]

@[simp] theorem State.acquireSample_previousMark (s : State) :
    s.acquireSample.pulse.previousMark = s.pulse.previousMark := by
  unfold State.acquireSample
  cases stepTest s.activeWindow (fuPerNs * s.servo.stepLimit) with
  | step => simp
  | hold => simp
  | steer => cases s.selected <;> simp

@[simp] theorem State.alignTest_previousMark (s : State) :
    s.alignTest.pulse.previousMark = s.pulse.previousMark := by
  unfold State.alignTest
  split <;> simp

@[simp] theorem State.sampleWork_previousMark (s : State) (r : Ref) :
    (s.sampleWork r).pulse.previousMark = s.pulse.previousMark := by
  unfold State.sampleWork
  split
  · split <;> simp
  · cases s.servo.state with
    | free => simp
    | holdover => simp
    | acquire => by_cases h : s.servo.active = r <;> simp [h]
    | locked => by_cases h : s.servo.active = r <;> simp [h]

@[simp] theorem State.sampleEntered_previousMark (s : State) (r : Ref) :
    (s.sampleEntered r).pulse.previousMark = s.pulse.previousMark := by
  simp only [State.sampleEntered, State.tracked_frame, State.sampleWork_previousMark]
  split <;> simp

@[simp] theorem State.enterSample_previousMark (s : State) (r : Ref) (x : Sample) :
    (s.enterSample r x).pulse.previousMark = s.pulse.previousMark := by
  simp [State.enterSample]

@[simp] theorem State.takeCapture_previousMark (s : State) (c : CaptureRecord) :
    (s.takeCapture c).pulse.previousMark = s.pulse.previousMark := by
  unfold State.takeCapture
  split
  · dsimp only
    split <;> simp
  · rfl

/-! ### The pulse input's own operations and the mark (R12 to R15) -/

/-- The REGULAR flag of a capture record (R14). -/
theorem PulseInput.captureOf_regular_iff (p : PulseInput) (t : Tentative) :
    (p.captureOf t).regular = true ↔
      ∃ m, p.previousMark = some m ∧ 999 ≤ (t.runCounter - m).toNat ∧ (t.runCounter - m).toNat ≤ 1001 := by
  cases h : p.previousMark <;> simp [PulseInput.captureOf, PulseInput.isRegular, h]

@[simp] theorem PulseInput.record_previousMark (p : PulseInput) (c : CaptureRecord) :
    (p.record c).previousMark = p.previousMark := by
  unfold PulseInput.record
  split <;> rfl

@[simp] theorem PulseInput.deactivate_previousMark (p : PulseInput) :
    p.deactivate.previousMark = p.previousMark := by
  cases h : p.qualifier <;> simp [PulseInput.deactivate, h]

/-- A qualified pulse leaves its own reading as the mark (R14). -/
theorem State.qualify_previousMark {s : State} {t : Tentative} (h : s.pulse.tentative = some t) :
    s.qualify.pulse.previousMark = some t.runCounter := by
  simp [State.qualify, h]

/-! ### Resets and the mark (R17) -/

@[simp] theorem State.startFull_pulse (s : State) : s.startFull.pulse = .initial s.pulse.pinHigh := by
  simp [State.startFull]

@[simp] theorem State.startTimers_pulse (s : State) : s.startTimers.pulse = s.pulse.restart := rfl

@[simp] theorem State.warmReset_pulse (s : State) : s.warmReset.pulse = s.pulse.warm.restart := by
  simp [State.warmReset]

/-! ### CAPTURE NOW (R16) -/

theorem exec_captureNow (dt : Nat) (s : State) : exec (.captureNow dt) s = execCaptureNow dt s := rfl

/-- A record joins the capture queue, or at eight records sets OVERRUN (R15). -/
theorem State.setPulse_record (s : State) (c : CaptureRecord) :
    s.setPulse (s.pulse.record c) =
      { s with pulse := if s.pulse.queue.length < 8 then { s.pulse with queue := s.pulse.queue ++ [c] }
                        else { s.pulse with overrun := true } } := rfl

/-- A SOFT record as it is returned: its last byte has SOFT in bit 1 and REGULAR clear (R180). -/
theorem State.softRecord_bytes (s : State) :
    s.softRecord.bytes = stampBytes s.clock.value ++ beBytes 4 s.clock.runCounter.toNat ++ [2] := by
  have flags : flagByte [false, true] = 2 := by decide
  simp only [CaptureRecord.bytes, State.softRecord, flags]

/-- Where the item in hand is CAPTURE NOW, it is carried out on the state at its handling (R16, R167). -/
theorem exec_captureNow_item {s : State} {dt : Nat} {r : Request} (h : s.currentItem = some (r, .captureNow)) :
    exec (.captureNow dt) s =
      .next ((s.runBy dt).captureNow.1.finishItem r (s.runBy dt).captureNow.2) := by
  have item : (s.runBy dt).currentItem = some (r, .captureNow) := by simpa using h
  rw [exec_captureNow, execCaptureNow, State.carryOut_work item rfl]

end Sys2Proof.Machine

section

open Sys2Proof Sys2Proof.Machine

/-- Settles O23: each operation on the pulse input by its own lemma; for the qualified pulse, nothing that the servo does
with the capture reaches the mark. -/
theorem regularTestComparesWithThePreviousMark : Obligations.RegularTestComparesWithThePreviousMark := by
  refine ⟨PulseInput.captureOf_regular_iff, fun _ _ => State.qualify_previousMark, PulseInput.deactivate_previousMark,
    PulseInput.record_previousMark, fun s => ⟨rfl, ?full, ?warm⟩⟩
  case full => rw [State.startFull_pulse]; rfl
  case warm => rw [State.warmReset_pulse]; rfl

/-- Settles O24: the item is carried out on the state that the run has reached, whose pulse input is still the one
before it. -/
theorem captureNowRecordsThePresent : Obligations.CaptureNowRecordsThePresent := by
  intro s dt r h
  rw [exec_captureNow_item h, State.captureNow, State.setPulse_record, State.softRecord_bytes]
  rfl

end
end

section
/-! The swap (R48 to R50): which entries begin a stream, and what beginning several streams does to each. -/

namespace Sys2Proof.Machine

/-! ### The entries whose new-stream flag is set (R49) -/

/-- An index is among the new streams just if its entry has the flag; one past the end of the bank reads as a blank entry,
which has not. -/
theorem mem_newStreams {entries : List ClassEntry} {i : Nat} :
    i ∈ newStreams entries ↔ (entries.getD i .blank).newStream = true := by
  have named : i ∈ newStreams entries ↔ ∃ e, entries[i]? = some e ∧ e.newStream = true := by
    simp [newStreams, List.mem_zipIdx_iff_getElem?]
  have blank : ClassEntry.blank.newStream = false := rfl
  rw [named, List.getD_eq_getElem?_getD]
  cases entries[i]? with
  | none => simp [blank]
  | some e => simp

/-- No index is named twice, so that one swap begins each stream at most once. -/
theorem newStreams_nodup (entries : List ClassEntry) : (newStreams entries).Nodup := by
  have indexes : (entries.zipIdx.map (·.2)).Nodup := by
    rw [List.zipIdx_map_snd]
    exact List.nodup_range'
  exact indexes.sublist (List.filter_sublist.map _)

/-! ### Beginning a stream, and several (R49, R119) -/

theorem Dater.resetStream_stream_same {d : Dater} {k : Nat} (h : k < d.streams.length) :
    (d.resetStream k).stream k = .fresh ((d.stream k).beginning + 1) := by
  simp [Dater.resetStream, Dater.stream, h]

theorem Dater.resetStream_stream_ne (d : Dater) {k i : Nat} (h : k ≠ i) : (d.resetStream k).stream i = d.stream i := by
  simp [Dater.resetStream, Dater.stream, h]

@[simp] theorem Dater.resetStream_streams_length (d : Dater) (k : Nat) :
    (d.resetStream k).streams.length = d.streams.length := by simp [Dater.resetStream]

/-- Beginning streams touches the stream states alone. -/
theorem Dater.foldl_resetStream_frame (ks : List Nat) (d : Dater) :
    ks.foldl Dater.resetStream d = { d with streams := (ks.foldl Dater.resetStream d).streams } := by
  induction ks generalizing d with
  | nil => rfl
  | cons k ks ih => exact ih (d.resetStream k)

/-- Of distinct indexes, each named stream begins once and every other stays as it is. -/
theorem Dater.foldl_resetStream_stream {ks : List Nat} (distinct : ks.Nodup) (d : Dater) {i : Nat}
    (h : i < d.streams.length) :
    (ks.foldl Dater.resetStream d).stream i =
      if i ∈ ks then .fresh ((d.stream i).beginning + 1) else d.stream i := by
  induction ks generalizing d with
  | nil => rfl
  | cons k ks ih =>
    obtain ⟨once, distinct⟩ := List.nodup_cons.mp distinct
    rw [List.foldl_cons, ih distinct (d.resetStream k) (by simpa using h)]
    by_cases same : k = i
    · subst same
      simp [once, Dater.resetStream_stream_same h]
    · simp [Dater.resetStream_stream_ne d same, Ne.symm same]

/-! ### The three blocks that a swap changes -/

/-- A bank's entries do not depend on its role. -/
theorem Classifier.entries_exchange (c : Classifier) (b b' : Bank) (p : Bool) :
    { c with active := b', swapPending := p }.entries b = c.entries b := by cases b <;> rfl

theorem State.swapBanks_cls (s : State) (k : Nat) :
    (s.swapBanks k).cls = { s.cls with active := s.cls.active.other, swapPending := false } := rfl

theorem State.swapBanks_dater (s : State) (k : Nat) :
    (s.swapBanks k).dater = (newStreams (s.cls.entries s.cls.active.other)).foldl Dater.resetStream s.dater := by
  rw [← Classifier.entries_exchange s.cls _ s.cls.active.other false]; rfl

theorem State.swapBanks_rep (s : State) (k : Nat) :
    (s.swapBanks k).rep =
      s.rep.transition s.clock.osc .swap (.bank s.cls.active) (.bank s.cls.active.other) (.swap k) := rfl

end Sys2Proof.Machine

section

open Sys2Proof Sys2Proof.Machine

/-- Settles O20: the classifier and the report engine by the swap's own equations; the dater by the streams that begin,
whose indexes are distinct. -/
theorem swapExchangesTheBanks : Obligations.SwapExchangesTheBanks := by
  intro s k
  have frame := Dater.foldl_resetStream_frame (newStreams (s.cls.entries s.cls.active.other)) s.dater
  refine ⟨State.swapBanks_cls s k, fun i h => ?streams, ?queue, ?openN, ?openS, State.swapBanks_rep s k⟩
  case streams =>
    rw [State.swapBanks_dater, Dater.foldl_resetStream_stream (newStreams_nodup _) s.dater h]
    simp only [mem_newStreams]
  all_goals rw [State.swapBanks_dater, frame]

end
end

section
/-! The arithmetic of the servo: what the rounding leaves over (00_scope.md), when four stamps give an offset and a delay
(R72 to R74), and the rate that a PI update forms (R79 to R81). -/

namespace Sys2Proof.Machine

/-! ### The rounding (00_scope.md) -/

/-- A quotient is the nearest integer to `n / d`, and of two equally near ones that of the larger magnitude, said without
a division. -/
def IsNearest (n : Int) (d : Nat) (q : Int) : Prop :=
  2 * (n - d * q).natAbs ≤ d ∧ (2 * (n - d * q).natAbs = d → n.natAbs < (d * q).natAbs)

theorem IsNearest.neg {n q : Int} {d : Nat} (h : IsNearest n d q) : IsNearest (-n) d (-q) := by
  have away : -n - -(d * q) = -(n - d * q) := by ring
  simpa only [IsNearest, mul_neg, away, Int.natAbs_neg] using h

/-- Rounding away from zero is odd: the sign is set aside and put back. -/
theorem roundDiv_neg (n : Int) {d : Nat} (pos : 0 < d) : roundDiv (-n) d = -roundDiv n d := by
  have noHalf : ¬d ≤ 0 := by omega
  obtain below | rfl | above := lt_trichotomy n 0
  · simp [roundDiv, below, not_lt.mpr below.le]
  · simp [roundDiv, noHalf]
  · simp [roundDiv, above, not_lt.mpr above.le]

/-- A remainder below a half rounds down, and is what is left over. -/
theorem sub_roundDiv_of_lt {m d : Nat} (h : 2 * (m % d) < d) : (m : Int) - d * roundDiv m d = (m % d : Nat) := by
  have quotient : roundDiv m d = (m / d : Nat) := by simp [roundDiv, not_le.mpr h]
  rw [quotient, Int.natCast_mod, Int.emod_def, Int.natCast_div]

/-- A remainder of a half or more rounds up, and lacks itself of the divisor. -/
theorem sub_roundDiv_of_le {m d : Nat} (h : d ≤ 2 * (m % d)) : (m : Int) - d * roundDiv m d = (m % d : Nat) - d := by
  have quotient : roundDiv m d = (m / d : Nat) + 1 := by simp [roundDiv, h]
  rw [quotient, Int.natCast_mod, Int.emod_def, Int.natCast_div]
  ring

theorem isNearest_roundDiv_natCast (m : Nat) {d : Nat} (pos : 0 < d) : IsNearest m d (roundDiv m d) := by
  have below := Nat.mod_lt m pos
  unfold IsNearest
  obtain small | large := Nat.lt_or_ge (2 * (m % d)) d
  · have left := sub_roundDiv_of_lt small
    omega
  · have left := sub_roundDiv_of_le large
    omega

/-- The nearest integer by the remainder for a number from 0 on, and by the sign for the others. -/
theorem isNearest_roundDiv (n : Int) {d : Nat} (pos : 0 < d) : IsNearest n d (roundDiv n d) := by
  obtain ⟨m, rfl | rfl⟩ := n.eq_nat_or_neg
  · exact isNearest_roundDiv_natCast m pos
  · rw [roundDiv_neg _ pos]
    exact (isNearest_roundDiv_natCast m pos).neg

/-! ### From four stamps to offset and delay (R72 to R74) -/

theorem RawStamp.isInstant_iff (r : RawStamp) : r.isInstant = true ↔ r.nanos < 1000000000 := by simp [RawStamp.isInstant]

theorem roundTrip_of_instants (t1 t4 alpha : Int) {f : ReplyFields} (h2 : f.t2.isInstant) (h3 : f.t3.isInstant) :
    roundTrip t1 t4 alpha f =
      offsetDelay (f.t2.fineUnits - t1 - f.cFwd) (t4 - f.t3.fineUnits - f.correction) alpha := by
  simp [roundTrip, h2, h3]

theorem roundTrip_of_no_instant (t1 t4 alpha : Int) {f : ReplyFields} (h : ¬(f.t2.isInstant ∧ f.t3.isInstant)) :
    roundTrip t1 t4 alpha f = none := by
  simp [roundTrip, h]

theorem offsetDelay_of_within {a b : Int} (alpha : Int) (low : 0 ≤ roundDiv (a + b) 2)
    (high : roundDiv (a + b) 2 ≤ delayLimit) :
    offsetDelay a b alpha =
      some { theta := roundDiv (b - a - alpha * fuPerNs) 2, delay := (roundDiv (a + b) 2).toNat } :=
  if_pos ⟨low, high⟩

theorem offsetDelay_of_beyond {a b : Int} (alpha : Int) (h : roundDiv (a + b) 2 < 0 ∨ delayLimit < roundDiv (a + b) 2) :
    offsetDelay a b alpha = none :=
  if_neg fun within => h.elim within.left.not_gt within.right.not_gt

/-! ### The PI update (R79 to R81) -/

/-- The figures of R79 and R80 are formed once; I is clamped first, and A is formed from the clamped I (R81). -/
theorem State.piUpdate_eq (s : State) (x : Sample) :
    let f := s.piFigures x.theta
    let i := s.servo.limitRate (s.clock.integI + f.incr)
    s.piUpdate x = { s with
      clock := { s.clock with integI := i, rateA := s.servo.limitRate (i + f.prop) }
      servo := { s.servo with lastPi := some f } } := rfl

end Sys2Proof.Machine

section

open Sys2Proof Sys2Proof.Machine

/-- Settles O44: the rounding by its remainder, a round trip and its offset and delay by whether the stamps are instants
and the delay is in range, and the PI update by its equation. -/
theorem servoArithmetic : Obligations.ServoArithmetic := by
  refine ⟨fun n d pos => isNearest_roundDiv n pos,
    fun t1 t4 alpha f => ⟨fun bad => ?notInstant, fun h2 h3 => ?instants⟩,
    fun a b alpha => ⟨offsetDelay_of_within alpha, offsetDelay_of_beyond alpha⟩,
    fun s x => ?update⟩
  case notInstant =>
    apply roundTrip_of_no_instant
    simp only [RawStamp.isInstant_iff]
    omega
  case instants => exact roundTrip_of_instants t1 t4 alpha (f.t2.isInstant_iff.mpr h2) (f.t3.isInstant_iff.mpr h3)
  case update => exact State.piUpdate_eq s x

end
end

section
/-! The rack's judgement: which rows of R149 form its candidate level, and how its state follows the candidate by the rows
of R150. -/

namespace Sys2Proof.Machine

/-! ### The candidate level (R149) -/

theorem reaches_iff (x : Option Int) (level : Int) : reaches x level = true ↔ ∃ v, x = some v ∧ level ≤ v.natAbs := by
  cases x <;> simp [reaches]

/-- The two rows of DRIFTING: its on levels, and its off levels for a rack that is there. -/
def Rack.onDriftingRow (r : Rack) : Bool :=
  (reaches r.mean r.config.effDriftOn || reaches r.rate r.config.rateOn) ||
    (r.state == .drifting && (reaches r.mean r.config.effDriftOff || reaches r.rate r.config.rateOff))

/-- The two rows of WATCH, without what they say of the rows above them. -/
def Rack.onWatchRow (r : Rack) : Bool :=
  reaches r.mean r.config.watchOn ||
    ((r.state == .watch || r.state == .drifting) && reaches r.mean r.config.effWatchOff)

theorem Rack.onDriftingRow_iff (r : Rack) :
    r.onDriftingRow = true ↔
      (reaches r.mean r.config.effDriftOn = true ∨ reaches r.rate r.config.rateOn = true) ∨
        (r.state = .drifting ∧
          (reaches r.mean r.config.effDriftOff = true ∨ reaches r.rate r.config.rateOff = true)) := by
  simp only [Rack.onDriftingRow, Bool.or_eq_true, Bool.and_eq_true, beq_iff_eq]

theorem Rack.onWatchRow_iff (r : Rack) :
    r.onWatchRow = true ↔
      reaches r.mean r.config.watchOn = true ∨
        ((r.state = .watch ∨ r.state = .drifting) ∧ reaches r.mean r.config.effWatchOff = true) := by
  simp only [Rack.onWatchRow, Bool.or_eq_true, Bool.and_eq_true, beq_iff_eq]

/-- The rows of a level taken together, DRIFTING before WATCH. -/
theorem Rack.candidate_eq (r : Rack) :
    r.candidate = if r.onDriftingRow then .drifting else if r.onWatchRow then .watch else .inStep := by
  simp only [Rack.candidate, Rack.onDriftingRow, Rack.onWatchRow, Bool.or_eq_true, ite_or]

theorem Rack.candidate_eq_drifting_iff (r : Rack) : r.candidate = .drifting ↔ r.onDriftingRow = true := by
  rw [Rack.candidate_eq]
  split_ifs <;> simp [*]

theorem Rack.candidate_eq_watch_iff (r : Rack) :
    r.candidate = .watch ↔ ¬r.onDriftingRow = true ∧ r.onWatchRow = true := by
  rw [Rack.candidate_eq]
  split_ifs <;> simp [*]

/-- A rack is a candidate for IN_STEP exactly where it is one for neither level above. -/
theorem Rack.candidate_eq_inStep_iff (r : Rack) :
    r.candidate = .inStep ↔ ¬r.candidate = .drifting ∧ ¬r.candidate = .watch := by
  cases r.candidate <;> simp

/-! ### Confirmation (R150) -/

section

variable {r : Rack} {c : Level}

theorem Rack.confirm_inStep_of_unplaced (unplaced : r.state = .quiet ∨ r.state = .unjudged) :
    r.confirm .inStep = { r with state := .inStep, pending := none, pendingCount := 0 } := by
  rw [Rack.confirm, if_pos unplaced, if_pos rfl]

theorem Rack.confirm_of_unplaced (unplaced : r.state = .quiet ∨ r.state = .unjudged) (higher : c ≠ .inStep) :
    r.confirm c = r.pend .inStep c 1 := by
  rw [Rack.confirm, if_pos unplaced, if_neg higher]

theorem Rack.confirm_of_state_eq (placed : ¬(r.state = .quiet ∨ r.state = .unjudged)) (same : r.state = c.state) :
    r.confirm c = { r with pending := none, pendingCount := 0 } := by
  rw [Rack.confirm, if_neg placed, if_pos same]

theorem Rack.confirm_of_pending_eq (placed : ¬(r.state = .quiet ∨ r.state = .unjudged)) (differs : r.state ≠ c.state)
    (again : r.pending = some c) : r.confirm c = r.pend r.state c (r.pendingCount + 1) := by
  rw [Rack.confirm, if_neg placed, if_neg differs, if_pos again]

theorem Rack.confirm_of_pending_ne (placed : ¬(r.state = .quiet ∨ r.state = .unjudged)) (differs : r.state ≠ c.state)
    (first : r.pending ≠ some c) : r.confirm c = r.pend r.state c 1 := by
  rw [Rack.confirm, if_neg placed, if_neg differs, if_neg first]

end

end Sys2Proof.Machine

section

open Sys2Proof Sys2Proof.Machine

/-- Settles O50: the candidate by the rows of each level taken together, the confirmation by a lemma for each row. -/
theorem rackLevelsFollowTheirCandidates : Obligations.RackLevelsFollowTheirCandidates := by
  intro r atLeast driftOn driftOff watchOff drifting watch pend unplaced
  have driftingIff : r.candidate = .drifting ↔ drifting := by
    rw [Rack.candidate_eq_drifting_iff, Rack.onDriftingRow_iff]
    simp only [reaches_iff]
    rfl
  have watchIff : r.candidate = .watch ↔ watch := by
    rw [Rack.candidate_eq_watch_iff, ← Rack.candidate_eq_drifting_iff, driftingIff, Rack.onWatchRow_iff]
    simp only [reaches_iff]
    rfl
  have inStepIff : r.candidate = .inStep ↔ ¬drifting ∧ ¬watch := by
    rw [Rack.candidate_eq_inStep_iff, driftingIff, watchIff]
  refine ⟨driftingIff, watchIff, inStepIff, fun c =>
    ⟨fun new level => ?inStep, Rack.confirm_of_unplaced, Rack.confirm_of_state_eq, Rack.confirm_of_pending_eq,
      Rack.confirm_of_pending_ne⟩⟩
  case inStep =>
    subst level
    exact Rack.confirm_inStep_of_unplaced new

end
end

section
/-! What a command can do, said once for every property of states: a property that each of the part's operations keeps is kept
by every command and by every step. An invariant is then proved operation by operation; an operation that does not reach what
the invariant speaks of is left to the frame lemmas. -/

namespace Sys2Proof.Machine

/-! ### Writes (R168, R169) -/

theorem writeNumber_fst (lo hi value : Int) (store : Int → State) :
    (writeNumber lo hi value store).1 = store (clampInt lo hi value) := rfl

theorem le_clampInt (lo hi v : Int) : lo ≤ clampInt lo hi v := le_max_left _ _

theorem clampInt_le {lo hi : Int} (h : lo ≤ hi) (v : Int) : clampInt lo hi v ≤ hi := by
  unfold clampInt; omega

/-- A structural number is stored within its limit, or nothing is (R168). -/
theorem writeChoice_cases (s : State) (limit : Nat) (v : BitVec 64) (store : Nat → State) :
    (v.toNat ≤ limit ∧ (writeChoice s limit v store).1 = store v.toNat) ∨ (writeChoice s limit v store).1 = s := by
  unfold writeChoice; split
  · exact .inl ⟨by assumption, rfl⟩
  · exact .inr rfl

theorem writeChoice_keeps {P : State → Prop} {s : State} {limit : Nat} {v : BitVec 64} {store : Nat → State} (h : P s)
    (stores : P (store v.toNat)) : P (writeChoice s limit v store).1 := by
  rcases writeChoice_cases s limit v store with ⟨-, e⟩ | e <;> rw [e] <;> assumption

theorem writeFlag_keeps {P : State → Prop} {s : State} {v : BitVec 64} {store : Bool → State} (h : P s)
    (stores : ∀ b, P (store b)) : P (writeFlag s v store).1 := writeChoice_keeps h (stores _)

theorem writeAddress_keeps {P : State → Prop} {s : State} {group : Bool} {v : BitVec 64} {store : Address → State}
    (h : P s) (stores : P (store (addressIn v))) : P (writeAddress s group v store).1 := by
  unfold writeAddress; split
  · exact stores
  · exact h

theorem writeType_keeps {P : State → Prop} {s : State} {other : BitVec 16} {v : BitVec 64} {store : BitVec 16 → State}
    (h : P s) (stores : ∀ t, P (store t)) : P (writeType s other v store).1 := by
  unfold writeType; split
  · exact h
  · exact stores _

theorem writeTag_keeps {P : State → Prop} {s : State} {v : BitVec 64} {store : Option (BitVec 16) → State} (h : P s)
    (stores : ∀ t, P (store t)) : P (writeTag s v store).1 := by
  unfold writeTag; split
  · exact stores _
  · split
    · exact stores _
    · exact h

/-- What a write of a setting without a step of its own can leave: one block with some of its plain settings changed. -/
inductive PlainWrite (s : State) : State → Prop where
  | none : PlainWrite s s
  | agent (a : Address) (m : Bool) : PlainWrite s (s.setAgent { s.agent with address := a, southManagement := m })
  | lines (t m : BitVec 16) (limit : Nat) (c : Bool) : PlainWrite s (s.setLines
      { s.lines with timingType := t, managementType := m, injectionLimit := limit, transitCorrection := c })
  | pulse (n : Nat) : PlainWrite s (s.setPulse { s.pulse with debounce := n })
  | exch (domain window limit pclass pu : Nat) (exp : Int) : PlainWrite s (s.setExch
      { s.exch with northDomain := domain, queryExp := exp, replyWindow := window, missedLimit := limit,
                    pulseClass := pclass, pulseU := pu })
  | servo (alpha : Int) (prop integ limit lock unlock : Nat) : PlainWrite s (s.setServo
      { s.servo with alpha := alpha, propExp := prop, integExp := integ, stepLimit := limit, lockLimit := lock,
                     unlockLimit := unlock })
  | south (domain : Nat) (exp : Int) (group : Address) : PlainWrite s (s.setSouth
      { s.south with domain := domain, gradeExp := exp, group := group })
  | mon (filter silence limit period : Nat) : PlainWrite s (s.setMon
      { s.mon with filterExp := filter, silence := silence, judgeLimit := limit, settlePeriod := period })
  | tag (t : Option (BitVec 16)) : PlainWrite s (s.setRep { s.rep with collectorTag := t })
  | holdoff (n : Nat) : PlainWrite s (s.setRep { s.rep with holdoff := n }).refreshNotice
  | pulseLines (l : List PulseLine) : PlainWrite s (s.setRep { s.rep with pulseLines := l })

/-- What one of several alternatives gives, one of them gives. -/
theorem orElse_keeps {α : Type} {Q : α → Prop} {a b : Option α} (ha : ∀ x, a = some x → Q x) (hb : ∀ x, b = some x → Q x)
    (x : α) (h : (a <|> b) = some x) : Q x := (orElse_some h).elim (ha x) (hb x)

theorem State.writeLow_plainWrite (s : State) (id : Nat) (v : BitVec 64) (p : State × ItemResult)
    (h : s.writeLow id v = some p) : PlainWrite s p.1 := by
  unfold State.writeLow at h
  split at h <;> cases h
  · exact writeAddress_keeps .none (.agent _ s.agent.southManagement)
  · exact writeFlag_keeps .none fun b => .agent s.agent.address b
  · exact writeType_keeps .none fun t => .lines t s.lines.managementType s.lines.injectionLimit s.lines.transitCorrection
  · exact writeType_keeps .none fun t => .lines s.lines.timingType t s.lines.injectionLimit s.lines.transitCorrection
  · exact .lines s.lines.timingType s.lines.managementType _ s.lines.transitCorrection
  · exact writeFlag_keeps .none fun b => .lines s.lines.timingType s.lines.managementType s.lines.injectionLimit b
  · exact .pulse _

theorem State.writeExchange_plainWrite (s : State) (id : Nat) (v : BitVec 64) (p : State × ItemResult)
    (h : s.writeExchange id v = some p) : PlainWrite s p.1 := by
  unfold State.writeExchange at h
  split at h <;> cases h
  · exact writeChoice_keeps .none (.exch _ s.exch.replyWindow s.exch.missedLimit s.exch.pulseClass s.exch.pulseU s.exch.queryExp)
  · exact .exch s.exch.northDomain s.exch.replyWindow s.exch.missedLimit s.exch.pulseClass s.exch.pulseU _
  · exact .exch s.exch.northDomain _ s.exch.missedLimit s.exch.pulseClass s.exch.pulseU s.exch.queryExp
  · exact .exch s.exch.northDomain s.exch.replyWindow _ s.exch.pulseClass s.exch.pulseU s.exch.queryExp
  · exact .exch s.exch.northDomain s.exch.replyWindow s.exch.missedLimit _ s.exch.pulseU s.exch.queryExp
  · exact .exch s.exch.northDomain s.exch.replyWindow s.exch.missedLimit s.exch.pulseClass _ s.exch.queryExp

theorem State.writeServo_plainWrite (s : State) (id : Nat) (v : BitVec 64) (p : State × ItemResult)
    (h : s.writeServo id v = some p) : PlainWrite s p.1 := by
  unfold State.writeServo at h
  split at h <;> cases h
  · exact .servo _ s.servo.propExp s.servo.integExp s.servo.stepLimit s.servo.lockLimit s.servo.unlockLimit
  · exact .servo s.servo.alpha _ s.servo.integExp s.servo.stepLimit s.servo.lockLimit s.servo.unlockLimit
  · exact .servo s.servo.alpha s.servo.propExp _ s.servo.stepLimit s.servo.lockLimit s.servo.unlockLimit
  · exact .servo s.servo.alpha s.servo.propExp s.servo.integExp _ s.servo.lockLimit s.servo.unlockLimit
  · exact .servo s.servo.alpha s.servo.propExp s.servo.integExp s.servo.stepLimit _ s.servo.unlockLimit
  · exact .servo s.servo.alpha s.servo.propExp s.servo.integExp s.servo.stepLimit s.servo.lockLimit _

theorem State.writeSouthMonitor_plainWrite (s : State) (id : Nat) (v : BitVec 64) (p : State × ItemResult)
    (h : s.writeSouthMonitor id v = some p) : PlainWrite s p.1 := by
  unfold State.writeSouthMonitor at h
  split at h <;> cases h
  · exact writeChoice_keeps .none (.south _ s.south.gradeExp s.south.group)
  · exact .south s.south.domain _ s.south.group
  · exact writeAddress_keeps .none (.south s.south.domain s.south.gradeExp _)
  · exact .mon _ s.mon.silence s.mon.judgeLimit s.mon.settlePeriod
  · exact .mon s.mon.filterExp _ s.mon.judgeLimit s.mon.settlePeriod
  · exact .mon s.mon.filterExp s.mon.silence _ s.mon.settlePeriod
  · exact .mon s.mon.filterExp s.mon.silence s.mon.judgeLimit _

theorem State.writeReport_plainWrite (s : State) (id : Nat) (v : BitVec 64) (p : State × ItemResult)
    (h : s.writeReport id v = some p) : PlainWrite s p.1 := by
  unfold State.writeReport at h
  split at h <;> cases h
  · exact writeTag_keeps .none .tag
  · exact .holdoff _

theorem State.writePulseId_plainWrite (s : State) (id : Nat) (v : BitVec 64) (p : State × ItemResult)
    (h : s.writePulseId id v = some p) : PlainWrite s p.1 := by
  unfold State.writePulseId at h
  split at h
  · unfold State.writePulsePlain at h
    dsimp only at h
    split at h <;> cases h <;> exact .pulseLines _
  · cases h

theorem State.writePlain_plainWrite (s : State) (id : Nat) (v : BitVec 64) : PlainWrite s (s.writePlain id v).1 := by
  unfold State.writePlain
  generalize h : (s.writeLow id v <|> s.writeExchange id v <|> s.writeServo id v <|> s.writeSouthMonitor id v <|>
    s.writeReport id v <|> s.writePulseId id v) = o
  cases o with
  | none => exact .none
  | some p =>
    exact orElse_keeps (s.writeLow_plainWrite id v) (orElse_keeps (s.writeExchange_plainWrite id v)
      (orElse_keeps (s.writeServo_plainWrite id v) (orElse_keeps (s.writeSouthMonitor_plainWrite id v)
        (orElse_keeps (s.writeReport_plainWrite id v) (s.writePulseId_plainWrite id v))))) p h

/-! ### A write of the references reaches the servo, the exchange and the notice set alone (R91) -/

@[simp] theorem State.reconfigure_frame (s : State) (write : State → State) :
    (s.reconfigure write).pending = (write s).pending ∧ (s.reconfigure write).phase = (write s).phase ∧
      (s.reconfigure write).supplyGood = (write s).supplyGood ∧ (s.reconfigure write).resetPin = (write s).resetPin ∧
      (s.reconfigure write).straps = (write s).straps ∧ (s.reconfigure write).free = (write s).free ∧
      (s.reconfigure write).clock = (write s).clock ∧ (s.reconfigure write).pulse = (write s).pulse ∧
      (s.reconfigure write).lines = (write s).lines ∧ (s.reconfigure write).cls = (write s).cls ∧
      (s.reconfigure write).south = (write s).south ∧ (s.reconfigure write).dater = (write s).dater ∧
      (s.reconfigure write).mon = (write s).mon ∧ (s.reconfigure write).agent = (write s).agent := by
  unfold State.reconfigure
  simp only [State.tracked_frame]
  split <;> simp

/-! ### The operations that the commands are made of -/

/-- Each operation that a command is made of keeps a property. An operation that is not named where the property is shown to
be kept is closed by the frame lemmas. -/
structure ExecKeeps (P : State → Prop) : Prop where
  pins : ∀ s phase good pin straps free, P s → P { s with phase := phase, supplyGood := good, resetPin := pin, straps := straps, free := free } := by
    intro s _ _ _ _ _ h; exact h
  advance : ∀ s dt, P s → P (s.setClock (s.clock.advance dt)) := by
    intro s _ h; simpa using h
  pulseLines : ∀ s l, P s → P (s.setRep { s.rep with pulseLines := l }) := by
    intro s _ h; simpa using h
  latches : ∀ s a b n, P s → P (s.setRep { s.rep with dateGap := a, noticeOverflow := b, summarySeq := n }) := by
    intro s _ _ _ h; simpa using h
  classifier : ∀ s c, P s → P (s.setCls c) := by
    intro s _ h; simpa using h
  overflowed : ∀ s b, P s → P (s.setAgent { s.agent with overflowed := b }) := by
    intro s _ h; simpa using h
  managers : ∀ s l, P s → P (s.setAgent { s.agent with managers := l }) := by
    intro s _ h; simpa using h
  powerUp : ∀ s, P s → P s.powerUp := by
    intro s h; simpa [State.powerUp] using h
  endReset : ∀ s straps, P s → P (s.endReset straps) := by
    intro s _ h; simpa [State.endReset, State.startTimers] using h
  startPower : ∀ s c, P s → P (s.setClock (.initial c)) := by
    intro s _ h; simpa using h
  startFull : ∀ s, P s → P s.startFull := by
    intro s h; simpa [State.startFull] using h
  warmReset : ∀ s, P s → P s.warmReset := by
    intro s h; simpa [State.warmReset, State.startTimers] using h
  tick : ∀ s, P s → P s.tick := by
    intro s h; simpa [State.tick] using h
  boundaryEvent : ∀ s k, P s → P (s.boundaryEvent k) := by
    intro s _ h; simpa using h
  pinLevel : ∀ s high q t, P s → P (s.setPulse { s.pulse with pinHigh := high, qualifier := q, tentative := t }) := by
    intro s _ _ _ h; simpa using h
  deactivate : ∀ s, P s → P (s.setPulse s.pulse.deactivate) := by
    intro s h; simpa using h
  setPolarity : ∀ s high, P s → P (s.setPulse (s.pulse.setPolarity high)) := by
    intro s _ h; simpa using h
  captureRead : ∀ s, P s → P s.captureRead.1 := by
    intro s h; simpa [State.captureRead] using h
  captureNow : ∀ s, P s → P s.captureNow.1 := by
    intro s h; simpa [State.captureNow] using h
  qualify : ∀ s, P s → P s.qualify := by
    intro s h; unfold State.qualify; split <;> simpa using h
  firstByte : ∀ s line b, P s → P (s.firstByte line b) := by
    intro s _ _ h; simpa using h
  startPayload : ∀ s line, P s → P (s.startPayload line) := by
    intro s _ h; simpa using h
  completeClassification : ∀ s line, P s → P (s.completeClassification line) := by
    intro s _ h; simpa using h
  endFrame : ∀ s line, P s → P (s.endFrame line) := by
    intro s _ h; simpa using h
  reachOverlength : ∀ s line, P s → P (s.reachOverlength line) := by
    intro s _ h; simpa using h
  departFrame : ∀ s line, P s → P (s.departFrame line) := by
    intro s _ h; simpa using h
  endTransmit : ∀ s line, P s → P (s.endTransmit line) := by
    intro s _ h; simpa using h
  enterActive : ∀ s, P s → P s.enterActive := by
    intro s h; simpa using h
  enterBypass : ∀ s, P s → P s.enterBypass := by
    intro s h; simpa using h
  queryTimer : ∀ s, s.queryTimerDue = true → P s → P s.queryTimer := by
    intro s _ h; simpa using h
  replyWindow : ∀ s, s.replyWindowDue = true → P s → P s.replyWindow := by
    intro s _ h; simpa using h
  pulseLost : ∀ s, P s → P s.pulseLost := by
    intro s h; simpa using h
  endHoldover : ∀ s, P s → P s.endHoldover := by
    intro s h; simpa using h
  revertExpiry : ∀ s, P s → P s.revertExpiry := by
    intro s h; simpa [State.revertExpiry] using h
  gradeTimer : ∀ s, P s → P s.gradeTimer := by
    intro s h; simpa using h
  evaluate : ∀ s, P s → P s.evaluate := by
    intro s h; simpa using h
  summaryTimer : ∀ s, P s → P s.summaryTimer := by
    intro s h; simpa [State.summaryTimer] using h
  refreshDateReport : ∀ s, P s → P s.refreshDateReport := by
    intro s h; simpa using h
  refreshNotice : ∀ s, P s → P s.refreshNotice := by
    intro s h; simpa using h
  finishItem : ∀ s r x, P s → P (s.finishItem r x) := by
    intro s _ _ h; simpa using h
  respond : ∀ s r x l, P s → P (s.respond r x l) := by
    intro s _ _ _ h; simpa using h
  respondReset : ∀ s r full, P s → P (s.respondReset r full) := by
    intro s _ _ h; simpa using h
  originsRead : ∀ s first count, P s → P (s.setMon { s.mon with
      origins := modifyRange s.mon.origins first count fun e => { e with queryCount := 0, storageCount := 0 } }) := by
    intro s _ _ h; simpa using h
  clearGroup : ∀ s block, P s → P (s.clearGroup block) := by
    intro s _ h; unfold State.clearGroup; split <;> simpa using h
  clearStatus : ∀ s block, P s → P (s.clearStatus block) := by
    intro s _ h; unfold State.clearStatus; split <;> simpa using h
  plain : ∀ s t, PlainWrite s t → P s → P t := by
    intro s t _ h; cases ‹PlainWrite s t› <;> simpa using h
  setLeader : ∀ s a, P s → P (s.reconfigure fun t => t.setLeader a) := by
    intro s _ h; simpa [State.setLeader] using h
  setPrimary : ∀ s r, P s → P (s.reconfigure fun t => t.setServo { t.servo with primary := r }) := by
    intro s _ h; simpa using h
  setSecondary : ∀ s r, P s → P (s.reconfigure fun t => t.setServo { t.servo with secondary := r }) := by
    intro s _ h; simpa using h
  setAMax : ∀ s x, 1000000 ≤ x → x ≤ 200000000 → P s → P (s.setAMax x) := by
    intro s _ _ _ h; simpa [State.setAMax] using h
  setHoldBound : ∀ s x, P s → P (s.setServo { s.servo with holdBound := x }) := by
    intro s _ h; simpa using h
  setHoldLimit : ∀ s x, P s → P (s.setServo { s.servo with holdoverLimit := x }) := by
    intro s _ h; simpa using h
  shortenWindows : ∀ s w, P s → P (s.shortenWindows w) := by
    intro s _ h; simpa using h
  setRevert : ∀ s enable time, P s → P (s.setRevert enable time) := by
    intro s _ _ h; simpa [State.setRevert] using h
  writeInterval : ∀ s x, P s → P (s.setMon (s.mon.writeInterval x)) := by
    intro s _ h; simpa using h
  writeSettle : ∀ s x, 1 ≤ x → x ≤ 16 → P s → P (s.writeSettle x) := by
    intro s _ _ _ h; simpa using h
  setCollector : ∀ s a, P s → P (s.setCollector a) := by
    intro s _ h; simpa [State.setCollector] using h
  setCollectorLine : ∀ s line, P s → P ((s.setRep { s.rep with collectorLine := line }).fill line) := by
    intro s _ h; simpa using h
  setSummary : ∀ s x, P s → P (s.setRep (s.rep.setSummary x)) := by
    intro s _ h; simpa using h
  setDrain : ∀ s batch latency, P s → P (s.setDater { s.dater with batch := batch, latency := latency }) := by
    intro s _ _ h; simpa using h
  writeOrigin : ∀ s j enabled source k, j ≤ 511 → k ≤ 31 → (enabled && s.mon.duplicates j source) = false → P s → P (s.writeOrigin j enabled source k) := by
    intro s _ _ _ _ _ _ _ h; simpa using h
  writeRack : ∀ s k config, k ≤ 31 → P s → P (s.writeRack k config) := by
    intro s _ _ _ h; simpa using h
  servoAuto : ∀ s, s.servo.held = true → P s → P (s.tracked State.release) := by
    intro s _ h; simpa using h
  servoHeld : ∀ s, s.servo.held = false → P s → P (s.tracked fun t => t.setServo t.servo.hold) := by
    intro s _ h; simpa using h
  servoAlign : ∀ s, P s → P (s.setServo { s.servo with alignPending := true }) := by
    intro s h; simpa using h
  setRate : ∀ s x, P s → P (s.setClock { s.clock with integI := s.servo.limitRate x, rateA := s.servo.limitRate x }) := by
    intro s _ h; simpa using h
  setTime : ∀ s x, s.servo.state = .free ∨ s.servo.held = true → P s → P (s.setTime x) := by
    intro s _ _ h; simpa using h

namespace ExecKeeps

variable {P : State → Prop} (k : ExecKeeps P) {s : State} (h : P s)

include k h

theorem runFor (dt : Nat) : P (s.runFor dt) := k.pulseLines _ _ (k.advance _ _ h)

theorem runBy (dt : Nat) : P (s.runBy dt) := k.runFor h _

theorem takeAt {d : Nat} {f : State → State} (hf : ∀ t, P t → P (f t)) : P (s.takeAt d f) := by
  rcases State.takeAt_eq s d f with e | ⟨-, e⟩ <;> rw [e]
  · exact h
  · exact hf _ (k.runFor h d)

theorem takeTimed {d : Option Nat} {f : State → State} (hf : ∀ t, P t → P (f t)) : P (s.takeTimed d f) := by
  rcases State.takeTimed_eq s d f with e | ⟨n, -, -, -, e⟩ <;> rw [e]
  · exact h
  · exact hf _ (k.runFor h n)

omit k in
theorem takeIf {due : Bool} {f : State → State} (hf : due = true → P (f s)) : P (s.takeIf due f) := by
  rcases State.takeIf_eq s due f with e | ⟨-, d, e⟩ <;> rw [e]
  · exact h
  · exact hf d

/-- An item is carried out and its result answered. -/
theorem carryOut (dt : Nat) {work : State → ReqItem → Option (State × ItemResult)}
    (hw : ∀ t i p, P t → work t i = some p → P p.1) : P ((s.runBy dt).carryOut work) := by
  have ran := k.runBy h dt
  rcases State.carryOut_cases (s.runBy dt) work with e | ⟨r, i, t, x, -, w, e⟩ <;> rw [e]
  · exact ran
  · exact k.finishItem _ _ _ (hw _ _ _ ran w)

/-- A READ leaves the state as read, the state itself, or the state with the mark that a READ did not fit. -/
theorem carryRead (dt : Nat) {read : State → ReqItem → Option ReadResult}
    (hr : ∀ t i x, P t → read t i = some x → ∀ p, x = some p → P p.2) : P ((s.runBy dt).carryRead read) := by
  have ran := k.runBy h dt
  rcases State.carryRead_cases (s.runBy dt) read with e | ⟨r, i, x, -, w, e⟩ <;> rw [e]
  · exact ran
  · refine k.finishItem _ _ _ ?_
    rcases State.readOutcome_cases (s.runBy dt) r x with ⟨c, t, rfl, e⟩ | e | e <;> rw [e]
    · exact hr _ _ _ ran w _ rfl
    · exact ran
    · exact k.overflowed _ _ ran

theorem carryReset (dt : Nat) (full : Bool) : P ((s.runBy dt).carryReset full) := by
  have ran := k.runBy h dt
  unfold State.carryReset
  split
  · rename_i r i _
    by_cases own : i = (if full then .resetFull else .resetWarm)
    · rw [if_pos own]; exact k.respondReset _ _ _ ran
    · rw [if_neg own]; exact ran
  · exact ran

theorem answerBadCommand : P s.answerBadCommand := by
  unfold State.answerBadCommand
  split
  · split
    · exact h
    · exact k.respond _ _ _ _ h
  · exact h

theorem answerBadItems : P s.answerBadItems := by
  unfold State.answerBadItems
  split
  · split
    · split
      · split
        · exact h
        · exact k.finishItem _ _ _ h
      · exact k.respond _ _ _ _ h
    · exact h
  · exact h

/-! ### The supply, the pin and the hold of a RESET -/

theorem supply (straps : BitVec 6) : P (s.supply straps) := by
  have noted : P { s with supplyGood := true } := k.pins _ _ true _ _ _ h
  unfold State.supply
  split
  · dsimp only
    split
    · exact noted
    · exact k.endReset _ _ (k.startPower _ _ noted)
  · exact h

theorem assertPin (heldNs : Nat) : P (s.assertPin heldNs) := by
  unfold State.assertPin
  split
  · have spent : P (s.spendFree heldNs) := by
      unfold State.spendFree
      split
      · exact k.pins _ _ _ _ _ (s.free + 1) h
      · exact h
    dsimp only
    split
    · exact k.pins _ .pinReset _ true _ _ (k.startFull _ spent)
    · exact spent
  · exact k.pins _ _ _ true _ _ h
  · exact h

theorem releasePin (straps : BitVec 6) : P (s.releasePin straps) := by
  have low : P { s with resetPin := false } := k.pins _ _ _ false _ _ h
  unfold State.releasePin
  dsimp only
  split
  · exact low
  · split
    · exact k.endReset _ _ (k.startPower _ _ low)
    · exact low
  · exact k.endReset _ _ low

theorem endHold (straps : BitVec 6) : P (s.endHold straps) := by
  unfold State.endHold
  split
  · split
    · exact k.endReset _ _ (k.startFull _ h)
    · exact k.warmReset _ h
  · exact h

/-! ### Time, the pulse input and the pulse lines -/

theorem reachBoundary : P s.reachBoundary := k.boundaryEvent _ _ (k.pulseLines _ _ h)

theorem takeBoundary : P s.takeBoundary := by
  rcases State.takeBoundary_eq s with e | e <;> rw [e]
  · exact h
  · exact k.reachBoundary (k.runFor h _)

theorem leadingEdge : P s.leadingEdge := by
  unfold State.leadingEdge
  split
  · exact h
  · dsimp only
    split
    · exact k.pinLevel _ _ _ _ h
    · exact k.pinLevel _ _ _ _ h

theorem trailingEdge : P s.trailingEdge := by
  unfold State.trailingEdge
  split
  · refine k.deactivate _ ?_
    rcases State.qualifyDue_cases s with ⟨e, -, -⟩ | ⟨e, -⟩ <;> rw [e]
    · exact k.qualify _ h
    · exact h
  · exact h

theorem takeStart (n : Nat) : P (s.takeStart n) := by
  unfold State.takeStart
  split
  · exact k.takeAt h fun t ht => k.pulseLines _ _ ht
  · exact h

theorem takeEnd (n : Nat) : P (s.takeEnd n) := by
  unfold State.takeEnd
  split
  · exact k.takeAt h fun t ht => k.pulseLines _ _ ht
  · exact h

/-! ### Writes -/

theorem writePlain (id : Nat) (v : BitVec 64) : P (s.writePlain id v).1 := k.plain _ _ (s.writePlain_plainWrite id v) h

theorem writePolarity (v : BitVec 64) : P (s.writePolarity v).1 := writeFlag_keeps h fun _ => k.setPolarity _ _ h

theorem writeLeader (v : BitVec 64) : P (s.writeLeader v).1 := writeAddress_keeps h (k.setLeader _ _ h)

theorem writeRef (primary : Bool) (v : BitVec 64) : P (s.writeRef primary v).1 := by
  refine writeChoice_keeps h ?_
  cases primary
  · exact k.setSecondary _ _ h
  · exact k.setPrimary _ _ h

theorem writeAMax (v : BitVec 64) : P (s.writeAMax v).1 := by
  have low := le_clampInt 1000000 200000000 v.toInt
  have high := clampInt_le (lo := 1000000) (hi := 200000000) (by omega) v.toInt
  exact k.setAMax _ _ (by omega) (by omega) h

theorem writeHoldBound (v : BitVec 64) : P (s.writeHoldBound v).1 := by
  unfold State.writeHoldBound State.setHoldBound
  rw [writeNumber_fst]
  dsimp only
  split
  · exact k.endHoldover _ (k.setHoldBound _ _ h)
  · exact k.setHoldBound _ _ h

theorem writeHoldLimit (v : BitVec 64) : P (s.writeHoldLimit v).1 := by
  unfold State.writeHoldLimit State.setHoldLimit
  rw [writeNumber_fst]
  dsimp only
  split
  · exact k.endHoldover _ (k.setHoldLimit _ _ h)
  · exact k.setHoldLimit _ _ h

theorem writeRevertEnable (v : BitVec 64) : P (s.writeRevertEnable v).1 := writeFlag_keeps h fun _ => k.setRevert _ _ _ h

theorem writeSettleCount (v : BitVec 64) : P (s.writeSettleCount v).1 := by
  have low := le_clampInt 1 16 v.toInt
  have high := clampInt_le (lo := 1) (hi := 16) (by omega) v.toInt
  exact k.writeSettle _ _ (by omega) (by omega) h

theorem writeCollectorLine (v : BitVec 64) : P (s.writeCollectorLine v).1 :=
  writeChoice_keeps h (k.setCollectorLine _ _ h)

theorem writePulseMode (id : Nat) (v : BitVec 64) : P (s.writePulseMode id v).1 := by
  unfold State.writePulseMode
  dsimp only
  split
  · exact writeChoice_keeps h (k.pulseLines _ _ h)
  · exact writeFlag_keeps h fun _ => k.pulseLines _ _ h

theorem writeBatch (v : BitVec 64) : P (s.writeBatch v).1 :=
  k.refreshDateReport _ (k.setDrain _ _ s.dater.latency h)

theorem writeLatency (v : BitVec 64) : P (s.writeLatency v).1 :=
  k.refreshDateReport _ (k.setDrain _ s.dater.batch _ h)

theorem setEntries (b : Bank) (l : List ClassEntry) : P (s.setCls (s.cls.setEntries b l)) := k.classifier _ _ h

theorem writeClass (index line : Nat) (e : ClassEntry) : P (s.writeClass index line e).1 := by
  unfold State.writeClass
  split
  · exact h
  · split
    · exact h
    · split
      · exact k.classifier _ _ h
      · exact h

theorem writeOriginItem (j : Nat) (enabled : Bool) (source : Address) (n : Nat) :
    P (s.writeOriginItem j enabled source n).1 := by
  unfold State.writeOriginItem
  split
  · exact h
  · split
    · exact h
    · split
      · exact h
      · exact k.writeOrigin _ _ _ _ _ (by omega) (by omega) (by simp_all) h

theorem writeRackItem (j : Nat) (c : RackConfig) : P (s.writeRackItem j c).1 := by
  unfold State.writeRackItem
  split
  · exact h
  · exact k.writeRack _ _ _ (by omega) h

theorem writeManager (j : Nat) (v : BitVec 64) : P (s.writeManager j v).1 := by
  unfold State.writeManager
  split
  · exact h
  · split
    · exact k.managers _ _ h
    · split
      · exact h
      · exact k.managers _ _ h

/-! ### The other commands of a request -/

theorem copyBank : P s.copyBank.1 := by
  unfold State.copyBank; split
  · exact h
  · exact k.classifier _ _ h

theorem requestSwap : P s.requestSwap.1 := by
  unfold State.requestSwap; split
  · exact h
  · exact k.classifier _ _ h

theorem autoItem : P s.servoAuto.1 := by
  unfold State.servoAuto accept; dsimp only; split
  · exact k.servoAuto _ (by assumption) h
  · exact h

theorem heldItem : P s.servoHeld.1 := by
  unfold State.servoHeld accept; dsimp only; split
  · exact h
  · exact k.servoHeld _ (by simp_all) h

theorem alignItem : P s.servoAlign.1 := by
  unfold State.servoAlign; split
  · exact k.servoAlign _ h
  · exact h

theorem setRateItem (rate : Int) : P (s.servoSetRate rate).1 := by
  unfold State.servoSetRate; split
  · exact k.setRate _ _ h
  · exact h

theorem setTimeItem (target : RawStamp) : P (s.setTimeItem target).1 := by
  unfold State.setTimeItem; split
  · exact h
  · split
    · exact k.setTime _ _ (by assumption) h
    · exact h

theorem bypassOn : P s.bypassOn.1 := by
  unfold State.bypassOn accept; dsimp only; split
  · exact h
  · exact k.enterBypass _ h

theorem bypassOff : P s.bypassOff.1 := by
  unfold State.bypassOff accept; dsimp only; split
  · exact k.enterActive _ h
  · exact h

end ExecKeeps

/-- A READ of a table that clears nothing leaves the state as it is. -/
theorem read_snd {α β : Type} {o : Option α} {f : α → List Byte} {t : β} {p : List Byte × β}
    (h : o.map (fun l => (f l, t)) = some p) : p.2 = t := by
  cases o <;> cases h
  rfl

open ExecKeeps in
/-- A property that each operation keeps is kept by every command, each of which has a next state. -/
theorem ExecKeeps.exec {P : State → Prop} (k : ExecKeeps P) (c : Instr) {s : State} (h : P s) :
    ∃ t, exec c s = .next t ∧ P t := by
  cases c with
  | powerOn => exact ⟨_, rfl, k.powerUp s h⟩
  | powerGood dt straps => exact ⟨_, rfl, k.supply (k.runBy h dt) straps⟩
  | resetPinAssert dt n => exact ⟨_, rfl, k.assertPin (k.runBy h dt) n⟩
  | resetPinRelease dt straps => exact ⟨_, rfl, k.releasePin (k.runBy h dt) straps⟩
  | runCounterTick => exact ⟨_, rfl, k.takeTimed h k.tick⟩
  | bootWindowEnd => exact ⟨_, rfl, takeIf h fun _ => k.enterActive s h⟩
  | boundaryReached => exact ⟨_, rfl, k.takeBoundary h⟩
  | pulseLeadingEdge dt => exact ⟨_, rfl, k.leadingEdge (k.runBy h dt)⟩
  | pulseInputInactive dt => exact ⟨_, rfl, k.trailingEdge (k.runBy h dt)⟩
  | debounceExpiry => exact ⟨_, rfl, k.takeTimed h k.qualify⟩
  | frameFirstByte dt line b => exact ⟨_, rfl, k.firstByte _ line b (k.runBy h dt)⟩
  | bypassPayloadStart dt line => exact ⟨_, rfl, k.startPayload _ line (k.runBy h dt)⟩
  | classificationComplete dt line => exact ⟨_, rfl, k.completeClassification _ line (k.runBy h dt)⟩
  | frameEnd dt line => exact ⟨_, rfl, k.endFrame _ line (k.runBy h dt)⟩
  | frameOverlength dt line => exact ⟨_, rfl, k.reachOverlength _ line (k.runBy h dt)⟩
  | frameDeparture line => exact ⟨_, rfl, k.departFrame _ line h⟩
  | transmitEnd dt line => exact ⟨_, rfl, k.endTransmit _ line (k.runBy h dt)⟩
  | queryTimerExpiry => exact ⟨_, rfl, takeIf h fun due => k.queryTimer s due h⟩
  | replyWindowExpiry => exact ⟨_, rfl, takeIf h fun due => k.replyWindow s due h⟩
  | pulseLivenessExpiry => exact ⟨_, rfl, takeIf h fun _ => k.pulseLost s h⟩
  | holdoverLimitExpiry => exact ⟨_, rfl, takeIf h fun _ => k.endHoldover s h⟩
  | uCeiling => exact ⟨_, rfl, takeIf h fun _ => k.endHoldover s h⟩
  | revertExpiry => exact ⟨_, rfl, takeIf h fun _ => k.revertExpiry s h⟩
  | gradeTimerExpiry => exact ⟨_, rfl, k.takeTimed h k.gradeTimer⟩
  | evaluation => exact ⟨_, rfl, takeIf h fun _ => k.evaluate s h⟩
  | summaryTimerExpiry => exact ⟨_, rfl, takeIf h fun _ => k.summaryTimer s h⟩
  | reportLatencyExpiry => exact ⟨_, rfl, k.takeTimed h k.refreshDateReport⟩
  | noticeHoldoffExpiry => exact ⟨_, rfl, k.takeTimed h k.refreshNotice⟩
  | pulseLineStart n => exact ⟨_, rfl, k.takeStart h n⟩
  | pulseLineEnd n => exact ⟨_, rfl, k.takeEnd h n⟩
  | resetHoldExpiry straps => exact ⟨_, rfl, takeIf h fun _ => k.endHold h straps⟩
  | requestBadCommand dt => exact ⟨_, rfl, k.answerBadCommand (k.runBy h dt)⟩
  | requestBadItems dt => exact ⟨_, rfl, k.answerBadItems (k.runBy h dt)⟩
  | resetWarm dt => exact ⟨_, rfl, k.carryReset h dt false⟩
  | resetFull dt => exact ⟨_, rfl, k.carryReset h dt true⟩
  | readSettings dt =>
    refine ⟨_, rfl, k.carryRead h dt fun t i x ht w p hp => ?_⟩
    split at w <;> cases w
    exact read_snd hp ▸ ht
  | readClassTable dt =>
    refine ⟨_, rfl, k.carryRead h dt fun t i x ht w p hp => ?_⟩
    split at w <;> cases w
    exact read_snd hp ▸ ht
  | readMatchCounts dt =>
    refine ⟨_, rfl, k.carryRead h dt fun t i x ht w p hp => ?_⟩
    split at w <;> cases w
    exact read_snd hp ▸ k.classifier _ _ ht
  | readOriginTable dt =>
    refine ⟨_, rfl, k.carryRead h dt fun t i x ht w p hp => ?_⟩
    split at w <;> cases w
    exact read_snd hp ▸ k.originsRead _ _ _ ht
  | readRackTable dt =>
    refine ⟨_, rfl, k.carryRead h dt fun t i x ht w p hp => ?_⟩
    split at w <;> cases w
    exact read_snd hp ▸ ht
  | readManagerList dt =>
    refine ⟨_, rfl, k.carryRead h dt fun t i x ht w p hp => ?_⟩
    split at w <;> cases w
    cases hp; exact ht
  | readStreamTable dt =>
    refine ⟨_, rfl, k.carryRead h dt fun t i x ht w p hp => ?_⟩
    split at w <;> cases w
    exact read_snd hp ▸ ht
  | readCountGroup dt =>
    refine ⟨_, rfl, k.carryRead h dt fun t i x ht w p hp => ?_⟩
    split at w <;> cases w
    cases hp; exact k.clearGroup _ _ ht
  | readBlockStatus dt =>
    refine ⟨_, rfl, k.carryRead h dt fun t i x ht w p hp => ?_⟩
    split at w <;> cases w
    cases hp; exact k.clearStatus _ _ ht
  | writeSetting dt =>
    refine ⟨_, rfl, k.carryOut h dt fun t i p ht w => ?_⟩
    split at w
    · split at w <;> cases w
      exact k.writePlain ht _ _
    · cases w
  | writePulsePolarity dt =>
    refine ⟨_, rfl, k.carryOut h dt fun t i p ht w => ?_⟩
    split at w
    · split at w <;> cases w
      exact k.writePolarity ht _
    · cases w
  | writeLeaderAddress dt =>
    refine ⟨_, rfl, k.carryOut h dt fun t i p ht w => ?_⟩
    split at w
    · split at w <;> cases w
      exact k.writeLeader ht _
    · cases w
  | writeReference dt =>
    refine ⟨_, rfl, k.carryOut h dt fun t i p ht w => ?_⟩
    split at w
    · split at w <;> cases w
      exact k.writeRef ht _ _
    · cases w
  | writeAMax dt =>
    refine ⟨_, rfl, k.carryOut h dt fun t i p ht w => ?_⟩
    split at w
    · split at w <;> cases w
      exact k.writeAMax ht _
    · cases w
  | writeHoldoverBound dt =>
    refine ⟨_, rfl, k.carryOut h dt fun t i p ht w => ?_⟩
    split at w
    · split at w <;> cases w
      exact k.writeHoldBound ht _
    · cases w
  | writeHoldoverLimit dt =>
    refine ⟨_, rfl, k.carryOut h dt fun t i p ht w => ?_⟩
    split at w
    · split at w <;> cases w
      exact k.writeHoldLimit ht _
    · cases w
  | writeWindowSize dt =>
    refine ⟨_, rfl, k.carryOut h dt fun t i p ht w => ?_⟩
    split at w
    · split at w <;> cases w
      exact k.shortenWindows _ _ ht
    · cases w
  | writeRevertSetting dt =>
    refine ⟨_, rfl, k.carryOut h dt fun t i p ht w => ?_⟩
    split at w
    · split at w <;> cases w
      split
      · exact k.writeRevertEnable ht _
      · exact k.setRevert _ _ _ ht
    · cases w
  | writeEvaluationInterval dt =>
    refine ⟨_, rfl, k.carryOut h dt fun t i p ht w => ?_⟩
    split at w
    · split at w <;> cases w
      exact k.writeInterval _ _ ht
    · cases w
  | writeSettleCount dt =>
    refine ⟨_, rfl, k.carryOut h dt fun t i p ht w => ?_⟩
    split at w
    · split at w <;> cases w
      exact k.writeSettleCount ht _
    · cases w
  | writeCollectorAddress dt =>
    refine ⟨_, rfl, k.carryOut h dt fun t i p ht w => ?_⟩
    split at w
    · split at w <;> cases w
      exact k.setCollector _ _ ht
    · cases w
  | writeCollectorLine dt =>
    refine ⟨_, rfl, k.carryOut h dt fun t i p ht w => ?_⟩
    split at w
    · split at w <;> cases w
      exact k.writeCollectorLine ht _
    · cases w
  | writeSummaryInterval dt =>
    refine ⟨_, rfl, k.carryOut h dt fun t i p ht w => ?_⟩
    split at w
    · split at w <;> cases w
      exact k.setSummary _ _ ht
    · cases w
  | writePulseLineMode dt =>
    refine ⟨_, rfl, k.carryOut h dt fun t i p ht w => ?_⟩
    split at w
    · split at w <;> cases w
      exact k.writePulseMode ht _ _
    · cases w
  | writeDrainSetting dt =>
    refine ⟨_, rfl, k.carryOut h dt fun t i p ht w => ?_⟩
    split at w
    · split at w <;> cases w
      split
      · exact k.writeBatch ht _
      · exact k.writeLatency ht _
    · cases w
  | writeClassEntry dt =>
    refine ⟨_, rfl, k.carryOut h dt fun t i p ht w => ?_⟩
    split at w <;> cases w
    exact k.writeClass ht _ _ _
  | writeOriginEntry dt =>
    refine ⟨_, rfl, k.carryOut h dt fun t i p ht w => ?_⟩
    split at w <;> cases w
    exact k.writeOriginItem ht _ _ _ _
  | writeRackEntry dt =>
    refine ⟨_, rfl, k.carryOut h dt fun t i p ht w => ?_⟩
    split at w <;> cases w
    exact k.writeRackItem ht _ _
  | writeManagerPlace dt =>
    refine ⟨_, rfl, k.carryOut h dt fun t i p ht w => ?_⟩
    split at w <;> cases w
    exact k.writeManager ht _ _
  | copy dt =>
    refine ⟨_, rfl, k.carryOut h dt fun t i p ht w => ?_⟩
    split at w <;> cases w
    exact k.copyBank ht
  | swap dt =>
    refine ⟨_, rfl, k.carryOut h dt fun t i p ht w => ?_⟩
    split at w <;> cases w
    exact k.requestSwap ht
  | servoAuto dt =>
    refine ⟨_, rfl, k.carryOut h dt fun t i p ht w => ?_⟩
    split at w <;> cases w
    exact k.autoItem ht
  | servoHeld dt =>
    refine ⟨_, rfl, k.carryOut h dt fun t i p ht w => ?_⟩
    split at w <;> cases w
    exact k.heldItem ht
  | servoAlign dt =>
    refine ⟨_, rfl, k.carryOut h dt fun t i p ht w => ?_⟩
    split at w <;> cases w
    exact k.alignItem ht
  | servoSetRate dt =>
    refine ⟨_, rfl, k.carryOut h dt fun t i p ht w => ?_⟩
    split at w <;> cases w
    exact k.setRateItem ht _
  | setTime dt =>
    refine ⟨_, rfl, k.carryOut h dt fun t i p ht w => ?_⟩
    split at w <;> cases w
    exact k.setTimeItem ht _
  | captureRead dt =>
    refine ⟨_, rfl, k.carryOut h dt fun t i p ht w => ?_⟩
    split at w <;> cases w
    exact k.captureRead _ ht
  | captureNow dt =>
    refine ⟨_, rfl, k.carryOut h dt fun t i p ht w => ?_⟩
    split at w <;> cases w
    exact k.captureNow _ ht
  | clear dt =>
    refine ⟨_, rfl, k.carryOut h dt fun t i p ht w => ?_⟩
    split at w <;> cases w
    exact k.latches _ _ _ _ ht
  | summary dt =>
    refine ⟨_, rfl, k.carryOut h dt fun t i p ht w => ?_⟩
    split at w <;> cases w
    exact k.latches _ _ _ _ ht
  | bypassOn dt =>
    refine ⟨_, rfl, k.carryOut h dt fun t i p ht w => ?_⟩
    split at w <;> cases w
    exact k.bypassOn ht
  | bypassOff dt =>
    refine ⟨_, rfl, k.carryOut h dt fun t i p ht w => ?_⟩
    split at w <;> cases w
    exact k.bypassOff ht

/-- A property that each operation keeps, and that the queue of commands does not bear on, is kept by every step. -/
theorem ExecKeeps.step {P : State → Prop} (k : ExecKeeps P) (queue : ∀ s q, P s → P (s.setPending q)) {s t : State}
    (h : P s) (e : step s = .next t) : P t := by
  unfold Machine.step at e
  split at e
  · obtain ⟨u, eu, hu⟩ := k.exec _ (queue _ _ h)
    rw [eu] at e; cases e
    exact hu
  · cases e; exact h

end Sys2Proof.Machine
end

section
/-! The machine: a step carries out one command, every command completes, and what no command touches. -/

namespace Sys2Proof.Machine

/-- No operation touches the queue of commands. -/
theorem ExecKeeps.pending (q : List Instr) : ExecKeeps fun s => s.pending = q where

end Sys2Proof.Machine

section

open Sys2Proof Sys2Proof.Machine

/-- Settles O1: by the two cases of `step`. -/
theorem stepRunsTheFrontCommand : Obligations.StepRunsTheFrontCommand := by
  refine ⟨fun c rest s h => ?front, fun s h => ?idle⟩
  all_goals simp only [step, h]

/-- Settles O2: each operation leaves the queue of commands, and every command has a next state. -/
theorem everyCommandCompletesAndLeavesTheQueue : Obligations.EveryCommandCompletesAndLeavesTheQueue :=
  fun c s => (ExecKeeps.pending s.pending).exec c rfl

end
end

section
/-! What the events of the servo and of the two references can do, said once: a property that their few elementary changes keep
is kept by each event. The changes are those of the servo's items, of the exchange with no window growing, the PI update, a
transition, and a step of the timescale. -/

namespace Sys2Proof.Machine

/-! ### The servo's rate limit and the locked form of U under its entries -/

@[simp] theorem Servo.setMark_figures (v : Servo) (r : Ref) (m : Option LiveMark) :
    (v.setMark r m).aMax = v.aMax ∧ (v.setMark r m).lockedU = v.lockedU := by cases r <;> exact ⟨rfl, rfl⟩

@[simp] theorem Servo.reschedule_figures (v old : Servo) :
    (v.reschedule old).aMax = v.aMax ∧ (v.reschedule old).lockedU = v.lockedU := by
  unfold Servo.reschedule; split <;> exact ⟨rfl, rfl⟩

@[simp] theorem Servo.endHoldover_figures (v : Servo) :
    v.endHoldover.aMax = v.aMax ∧ v.endHoldover.lockedU = v.lockedU := by
  unfold Servo.endHoldover; split <;> exact ⟨rfl, rfl⟩

@[simp] theorem Servo.hold_figures (v : Servo) : v.hold.aMax = v.aMax ∧ v.hold.lockedU = v.lockedU := by
  unfold Servo.hold Servo.enterHoldover
  cases v.state with
  | acquire => cases v.memory <;> exact ⟨rfl, rfl⟩
  | _ => exact ⟨rfl, rfl⟩

theorem lockedForm_le (x : Sample) : lockedForm x ≤ uCeiling := Nat.min_le_left _ _

/-! ### Windows -/

theorem Exchange.setWindow_nil_length (e : Exchange) (r : Ref) :
    (e.setWindow r []).windowSize = e.windowSize ∧ (e.setWindow r []).windowN.length ≤ e.windowN.length ∧
      (e.setWindow r []).windowP.length ≤ e.windowP.length := by
  cases r <;> simp [Exchange.setWindow]

/-! ### The elementary changes -/

/-- Each elementary change that an event of the servo or of a reference makes keeps a property. A change that is not named
where the property is shown to be kept is closed by the frame lemmas. -/
structure ServoKeeps (P : State → Prop) : Prop where
  servo : ∀ s v, v.aMax = s.servo.aMax → (v.lockedU = s.servo.lockedU ∨ v.lockedU ≤ uCeiling) → P s →
      P (s.setServo v) := by
    intro s _ _ _ h; simpa using h
  piUpdate : ∀ s x, P s → P (s.piUpdate x) := by
    intro s _ h; simpa using h
  exch : ∀ s e, e.windowSize = s.exch.windowSize → e.windowN.length ≤ s.exch.windowN.length →
      e.windowP.length ≤ s.exch.windowP.length → P s → P (s.setExch e) := by
    intro s _ _ _ _ h; simpa using h
  enterWindow : ∀ s r x, P s →
      P (s.setExch (s.exch.setWindow r (enterWindow (s.exch.window r) x s.exch.windowSize))) := by
    intro s _ _ h; simpa using h
  transition : ∀ s a b c d, P s → P (s.transition a b c d) := by
    intro s _ _ _ _ h; simpa using h
  applyStep : ∀ s x c, P s → P (s.applyStep x c) := by
    intro s _ _ h; simpa using h

namespace ServoKeeps

variable {P : State → Prop} (k : ServoKeeps P) {s : State}

include k

theorem mild (v : Servo) (rate : v.aMax = s.servo.aMax) (form : v.lockedU = s.servo.lockedU) (h : P s) :
    P (s.setServo v) := k.servo _ _ rate (.inl form) h

theorem tracked (e : State → State) (h : P (e s)) : P (s.tracked e) := by
  rcases State.tracked_eq s e with q | ⟨-, q⟩ <;> rw [q]
  · exact h
  · exact k.transition _ _ _ _ _ (k.mild _ rfl rfl h)

theorem setWindow_nil (r : Ref) (h : P s) : P (s.setExch (s.exch.setWindow r [])) := by
  obtain ⟨size, north, pulse⟩ := s.exch.setWindow_nil_length r
  exact k.exch _ _ size north pulse h

/-! ### The servo's own events (R92 to R102) -/

theorem startAcquire (r : Ref) (h : P s) : P (s.startAcquire r) := k.setWindow_nil r (k.mild (s.servo.enterAcquire r) rfl rfl h)

theorem endHoldover (h : P s) : P s.endHoldover := by
  have figures := s.servo.endHoldover_figures
  exact k.tracked _ (k.mild _ figures.1 figures.2 h)

theorem revertTest (h : P s) : P s.revertTest := by
  unfold State.revertTest; split
  · exact k.startAcquire _ h
  · exact h

theorem lose (h : P s) : P s.lose := by
  unfold State.lose; split
  · split
    · exact k.startAcquire _ h
    · exact k.mild s.servo.enterHoldover rfl rfl h
  · split
    · exact k.startAcquire _ h
    · exact h
  · exact h

theorem acceptOffer (r : Ref) (h : P s) : P (s.acceptOffer r) := by
  unfold State.acceptOffer; split
  · exact k.revertTest h
  · split
    · exact h
    · exact k.startAcquire _ h
  · exact h

theorem remark (r : Ref) (m : Option LiveMark) (h : P s) :
    P (s.setServo ((s.servo.setMark r m).reschedule s.servo)) := k.mild _ (by simp) (by simp) h

theorem liveEvent (r : Ref) (h : P s) : P (s.liveEvent r) := by
  refine k.tracked _ ?_
  dsimp only
  split
  · exact k.remark r _ h
  · split
    · exact k.acceptOffer _ (k.remark r _ h)
    · exact k.remark r _ h

theorem lostEvent (r : Ref) (h : P s) : P (s.lostEvent r) := by
  refine k.tracked _ ?_
  dsimp only
  split
  · exact k.remark r _ h
  · split
    · exact k.lose (k.remark r _ h)
    · exact k.remark r _ h

theorem select (h : P s) : P s.select := by
  unfold State.select; split
  · exact k.mild _ rfl rfl h
  · exact h

theorem steer (x : Sample) (h : P s) : P (s.steer x) := by
  unfold State.steer
  dsimp only
  have steered : P _ := k.mild
    { (s.piUpdate x).servo with
      stepOutcome := some .steer, stepPending := false, lockCounter := (s.piUpdate x).servo.movedLockCounter x }
    rfl rfl (k.piUpdate s x h)
  split
  · exact k.revertTest (k.servo _ _ rfl (.inr (lockedForm_le x)) steered)
  · exact steered

theorem acquireSample (h : P s) : P s.acquireSample := by
  unfold State.acquireSample; split
  · exact k.applyStep _ _ _ (k.mild _ rfl rfl h)
  · exact k.mild _ rfl rfl h
  · split
    · exact k.steer _ h
    · exact h

theorem unlockTest (x : Sample) (h : P s) : P (s.unlockTest x) := by
  unfold State.unlockTest; split
  · split
    · exact k.mild _ rfl rfl h
    · exact k.mild (s.servo.enterAcquire s.servo.active) rfl rfl h
  · exact k.mild _ rfl rfl h

theorem lockedSample (h : P s) : P s.lockedSample := by
  unfold State.lockedSample; split
  · rename_i x _
    exact k.unlockTest x (k.servo _ _ rfl (.inr (lockedForm_le x)) (k.piUpdate s x h))
  · exact h

theorem leadOut (r : Ref) (h : P s) : P (s.leadOut r) := by
  unfold State.leadOut; split
  · exact k.startAcquire _ h
  · exact h

theorem alignTest (h : P s) : P s.alignTest := by
  unfold State.alignTest; split
  · exact k.mild _ rfl rfl (k.applyStep _ _ _ h)
  · exact h

theorem sampleWork (r : Ref) (h : P s) : P (s.sampleWork r) := by
  unfold State.sampleWork; split
  · split
    · exact k.alignTest h
    · exact h
  · split
    · exact k.leadOut r h
    · exact k.leadOut r h
    · split
      · exact k.acquireSample h
      · exact h
    · split
      · exact k.lockedSample h
      · exact h

theorem sampleEntered (r : Ref) (h : P s) : P (s.sampleEntered r) := by
  refine k.tracked _ (k.sampleWork r ?_)
  split
  · exact k.select h
  · exact h

theorem enterSample (r : Ref) (x : Sample) (h : P s) : P (s.enterSample r x) := k.sampleEntered r (k.enterWindow s r x h)

theorem release (h : P s) : P (s.tracked State.release) :=
  k.tracked _ (k.startAcquire _ (k.mild { s.servo with held := false, alignPending := false } rfl rfl h))

theorem hold (h : P s) : P (s.tracked fun t => t.setServo t.servo.hold) :=
  k.tracked _ (k.mild _ s.servo.hold_figures.1 s.servo.hold_figures.2 h)

theorem setTime (x : Int) (h : P s) : P (s.setTime x) := by
  refine k.tracked _ ?_
  dsimp only
  split
  · exact k.mild _ rfl rfl (k.applyStep _ _ _ h)
  · exact k.applyStep _ _ _ h

theorem setRevert (enable : Bool) (time : Nat) (h : P s) : P (s.setRevert enable time) :=
  k.tracked _ (k.revertTest (k.mild _ (by simp) (by simp) h))

theorem revertExpiry (h : P s) : P s.revertExpiry := k.tracked _ (k.revertTest (k.mild _ rfl rfl h))

/-! ### The references' events (R54, R57, R59 to R66) -/

theorem unconfigureNorth (h : P s) : P s.unconfigureNorth := by
  unfold State.unconfigureNorth
  dsimp only
  have north : P (s.setExch { s.exch.void with queryIn := none, missed := 0, windowN := [], liveN := false }) :=
    k.exch _ _ rfl (Nat.zero_le _) (Nat.le_refl _) h
  refine k.mild _ ?_ ?_ north <;> split <;> simp [Servo.windowEmptied]

theorem northChange (before after : Bool) (h : P s) : P (s.northChange before after) := by
  unfold State.northChange; split
  · exact k.unconfigureNorth h
  · split
    · exact k.exch _ _ rfl (Nat.le_refl _) (Nat.le_refl _) h
    · exact h

theorem dropActive (h : P s) : P s.dropActive := by
  unfold State.dropActive; split
  · exact h
  · have lost : P (if s.servo.held then s else s.lose) := by
      split
      · exact h
      · exact k.lose h
    dsimp only
    generalize (if s.servo.held then s else s.lose) = t at lost ⊢
    split
    · exact lost
    · exact k.mild _ rfl rfl lost

theorem offerPulse (before : Bool) (h : P s) : P (s.offerPulse before) := by
  unfold State.offerPulse; split
  · exact k.acceptOffer _ h
  · exact h

theorem reconfigure (write : State → State) (h : P (write s)) : P (s.reconfigure write) := by
  refine k.tracked _ ?_
  dsimp only
  have written : P ((write s).setServo ((write s).servo.reschedule s.servo)) := k.mild _ (by simp) (by simp) h
  split
  · exact written
  · exact k.revertTest (k.offerPulse _ (k.dropActive (k.northChange _ _ written)))

theorem setLeader (a : Address) (h : P s) : P (s.reconfigure fun t => t.setLeader a) := by
  refine k.reconfigure _ ?_
  unfold State.setLeader
  dsimp only
  split <;> exact k.exch _ _ rfl (Nat.le_refl _) (Nat.le_refl _) h

theorem shortenWindows (w : Nat) (h : P (s.setExch
    { s.exch with windowSize := w, windowN := s.exch.windowN.drop (s.exch.windowN.length - w),
                  windowP := s.exch.windowP.drop (s.exch.windowP.length - w) })) : P (s.shortenWindows w) := by
  unfold State.shortenWindows
  dsimp only
  split
  · split
    · rename_i x _
      split
      · exact k.servo _ _ rfl (.inr (lockedForm_le x)) (k.select h)
      · exact k.select h
    · exact k.select h
  · exact h

theorem countMiss (h : P s) : P s.countMiss := by
  unfold State.countMiss
  dsimp only
  split
  · exact k.lostEvent _ (k.exch _ _ rfl (Nat.le_refl _) (Nat.le_refl _) h)
  · exact k.exch _ _ rfl (Nat.le_refl _) (Nat.le_refl _) h

theorem replyWindow (h : P s) : P s.replyWindow := k.countMiss (k.exch _ _ rfl (Nat.le_refl _) (Nat.le_refl _) h)

theorem issueQuery (fill : ∀ s line, P s → P (s.fill line)) (h : P s) : P s.issueQuery :=
  fill _ _ (k.exch _ _ rfl (Nat.le_refl _) (Nat.le_refl _) h)

theorem queryTimer (fill : ∀ s line, P s → P (s.fill line)) (h : P s) : P s.queryTimer := by
  have set : P (s.setExch { s.exch with queryIn := some s.exch.interval }) :=
    k.exch _ _ rfl (Nat.le_refl _) (Nat.le_refl _) h
  unfold State.queryTimer
  dsimp only
  split
  · exact k.issueQuery fill set
  · exact k.countMiss set
  · exact k.issueQuery fill (k.countMiss (k.exch _ _ rfl (Nat.le_refl _) (Nat.le_refl _) set))

theorem useReply (h : P s) : P s.useReply := by
  have used : P (s.setExch { s.exch with missed := 0, liveN := true }) :=
    k.exch _ _ rfl (Nat.le_refl _) (Nat.le_refl _) h
  unfold State.useReply
  dsimp only
  split
  · exact used
  · exact k.liveEvent _ used

theorem matchReply (t1 t4 : Int) (f : ReplyFields) (h : P s) : P (s.matchReply t1 t4 f) := by
  have closed : P (s.setExch { s.exch with record := .empty }) := k.exch _ _ rfl (Nat.le_refl _) (Nat.le_refl _) h
  unfold State.matchReply
  dsimp only
  split
  · exact k.countMiss closed
  · split
    · exact k.enterSample _ _ (k.useReply closed)
    · exact k.exch _ _ rfl (Nat.le_refl _) (Nat.le_refl _) (k.useReply closed)

theorem takeReplyFrame (bytes : List Byte) (t4 : Int) (h : P s) : P (s.takeReplyFrame bytes t4) := by
  have stray : P s.strayReply := k.exch _ _ rfl (Nat.le_refl _) (Nat.le_refl _) h
  unfold State.takeReplyFrame
  split
  · split
    · split
      · exact k.matchReply _ _ _ h
      · exact k.exch _ _ rfl (Nat.le_refl _) (Nat.le_refl _) h
      · exact stray
    · exact stray
  · exact stray

theorem pulseLive (reading : BitVec 32) (h : P s) : P (s.pulseLive reading) := by
  have live : P (s.setExch
      { s.exch with pulseExpiry := some (reading + 3000), lastRegular := some reading, liveP := true }) :=
    k.exch _ _ rfl (Nat.le_refl _) (Nat.le_refl _) h
  unfold State.pulseLive
  dsimp only
  split
  · exact live
  · exact k.liveEvent _ live

theorem takeCapture (c : CaptureRecord) (h : P s) : P (s.takeCapture c) := by
  unfold State.takeCapture; split
  · dsimp only
    split
    · exact k.enterSample _ _ (k.pulseLive _ h)
    · exact k.pulseLive _ h
  · exact h

theorem pulseLost (h : P s) : P s.pulseLost :=
  k.lostEvent _ (k.exch _ _ rfl (Nat.le_refl _) (Nat.le_refl _) h)

end ServoKeeps

/-! ### The end of a frame (R24, R26, R29)

A frame's end changes lines without their origin queues, gives the frame-end event, and hands a consumed frame to its block. -/

section

variable {P : State → Prop} (lines : ∀ s line l, l.origin = (s.lineAt line).origin → P s → P (s.setLine line l)) {s : State}

include lines

theorem State.pick_keeps (line : Line) (h : P s) : P (s.pick line) := lines _ _ _ rfl h

theorem State.dropArriving_keeps (line : Line) (h : P s) : P (s.dropArriving line) := by
  have released : P (s.releaseFrame line) := lines _ _ _ rfl h
  unfold State.dropArriving State.repickDropped
  split
  · exact State.pick_keeps lines _ released
  · exact released

theorem State.pickIfIdle_keeps (line : Line) (h : P s) : P (s.pickIfIdle line) := by
  unfold State.pickIfIdle
  split
  · exact State.pick_keeps lines _ h
  · exact h

theorem State.setArriving_keeps (line : Line) (p : Passage) (h : P s) : P (s.setArriving line p) := lines _ _ _ rfl h

theorem State.consume_keeps (line : Line) (p : Passage) (c : Consumer) (h : P s) : P (s.consume line p c) := by
  have consumed := State.setArriving_keeps lines line { p with classification := some .complete, consumer := some c } h
  unfold State.consume
  dsimp only
  split
  · exact lines _ _ _ rfl consumed
  · exact consumed

/-- Classification completes with what the classifier does, between changes of lines (R24, R28, R43). -/
theorem State.completeClassification_keeps (classify : ∀ s line p, P s → P (State.runClassifier s line p).1) (line : Line)
    (h : P s) : P (s.completeClassification line) := by
  unfold State.completeClassification
  split
  · split
    · split
      · exact State.consume_keeps lines _ _ _ h
      · exact State.pickIfIdle_keeps lines _ (State.setArriving_keeps lines _ _ (classify _ _ _ h))
    · exact h
  · exact h

variable (event : ∀ s line good n, P s → P (s.frameEndEvent line good n))

theorem State.endShort_keeps (line : Line) (p : Passage) (h : P s) : P (s.endShort line p) := by
  have counted : P (s.countLength line) := lines _ _ _ rfl h
  unfold State.endShort
  dsimp only
  split
  · exact lines _ _ _ rfl counted
  · exact State.dropArriving_keeps lines _ counted

include event

theorem State.reachOverlength_keeps (line : Line) (h : P s) : P (s.reachOverlength line) := by
  have counted : P (s.countLength line) := lines _ _ _ rfl h
  unfold State.reachOverlength
  split
  · split
    · unfold State.overlong
      dsimp only
      refine event _ _ _ _ ?_
      split
      · exact lines _ _ _ rfl counted
      · exact State.dropArriving_keeps lines _ counted
    · exact h
  · exact h

theorem State.endLegal_keeps (deliver : ∀ s line c b x, P s → P (s.deliver line c b x)) (line : Line) (p : Passage)
    (h : P s) : P (s.endLegal line p) := by
  unfold State.endLegal
  dsimp only
  generalize checkGood p.bytes = good
  have counted : P (s.setLine line { s.lineAt line with
      badCheck := if good = true then (s.lineAt line).badCheck else count16 (s.lineAt line).badCheck }) :=
    lines _ _ _ rfl h
  generalize s.setLine line _ = t at counted ⊢
  cases p.consumer with
  | some c =>
    have told : P ((t.releaseFrame line).frameEndEvent line good p.bytes.length) := event _ _ _ _ (lines _ _ _ rfl counted)
    cases good
    · exact told
    · exact deliver _ _ _ _ _ told
  | none => exact event _ _ _ _ (lines _ _ _ rfl counted)

theorem State.endFrame_keeps (request : ∀ s line b, P s → P (s.takeRequest line b))
    (reply : ∀ s b x, P s → P (s.takeReplyFrame b x)) (query : ∀ s b x, P s → P (s.takeQueryFrame b x)) (line : Line)
    (h : P s) : P (s.endFrame line) := by
  have deliver : ∀ s line c b x, P s → P (s.deliver line c b x) := by
    intro s line c b x h
    cases c with
    | agent => exact request _ _ _ h
    | exchange => exact reply _ _ _ h
    | south => exact query _ _ _ h
    | nobody => exact h
  unfold State.endFrame
  split
  · split
    · split
      · exact State.endShort_keeps lines _ _ h
      · exact State.endLegal_keeps lines event deliver _ _ h
    · exact h
  · exact h

end

end Sys2Proof.Machine
end

section
/-! The figures of the clock and of the servo (R1, R71, R81, R83): what a step of the timescale does to each block, and that
no command takes a figure out of its range. -/

namespace Sys2Proof.Machine

/-! ### What a step does to the blocks that it reaches (R4, R104) -/

@[simp] theorem State.applyStep_clock (s : State) (x : Int) (c : StepSource) :
    (s.applyStep x c).clock = { s.clock with value := s.clock.steppedValue x } := by
  simp [State.applyStep, State.stepStamps]

@[simp] theorem State.applyStep_lines (s : State) (x : Int) (c : StepSource) :
    (s.applyStep x c).lines = s.lines.shift (s.clock.appliedAmount x) := by
  simp [State.applyStep, State.stepStamps]

@[simp] theorem State.applyStep_exch (s : State) (x : Int) (c : StepSource) :
    (s.applyStep x c).exch = s.exch.onStep := by simp [State.applyStep]

@[simp] theorem State.applyStep_servo (s : State) (x : Int) (c : StepSource) :
    (s.applyStep x c).servo = s.servo.onStep (s.clock.appliedAmount x) c := by simp [State.applyStep]

@[simp] theorem State.applyStep_south (s : State) (x : Int) (c : StepSource) :
    (s.applyStep x c).south = s.south.shift (s.clock.appliedAmount x) := by
  simp [State.applyStep, State.stepStamps]

@[simp] theorem State.applyStep_mon (s : State) (x : Int) (c : StepSource) :
    (s.applyStep x c).mon = s.mon.onStep (s.clock.appliedAmount x) := by simp [State.applyStep]

/-! ### The figures -/

/-- The figures of a clock and of the servo that steers it stand in their ranges. -/
def FiguresWithin (c : Clock) (v : Servo) : Prop :=
  c.value < timescaleRange ∧ c.remainder < 1000000000000 ∧ 1000000 ≤ v.aMax ∧ v.aMax ≤ 200000000 ∧
    c.integI.natAbs ≤ v.aMax ∧ c.rateA.natAbs ≤ v.aMax ∧ v.lockedU ≤ uCeiling

@[simp] theorem State.figuresKept_iff (s : State) : s.figuresKept ↔ FiguresWithin s.clock s.servo := Iff.rfl

theorem FiguresWithin.servo {c : Clock} {v w : Servo} (h : FiguresWithin c v) (rate : w.aMax = v.aMax)
    (form : w.lockedU = v.lockedU ∨ w.lockedU ≤ uCeiling) : FiguresWithin c w := by
  unfold FiguresWithin at *; omega

theorem Servo.natAbs_limitRate_le (v : Servo) (x : Int) : (v.limitRate x).natAbs ≤ v.aMax := by
  unfold Servo.limitRate clampInt; omega

/-- A clock whose A and I have been limited, and whose value and remainder stand. -/
theorem FiguresWithin.limited {c d : Clock} {v : Servo} (h : FiguresWithin c v) (value : d.value = c.value)
    (remainder : d.remainder = c.remainder) {i a : Int} (integ : d.integI = v.limitRate i)
    (rate : d.rateA = v.limitRate a) : FiguresWithin d v := by
  have hi := v.natAbs_limitRate_le i
  have ha := v.natAbs_limitRate_le a
  obtain ⟨h1, h2, h3, h4, -, -, h7⟩ := h
  refine ⟨?_, ?_, h3, h4, ?_, ?_, h7⟩ <;> simp only [value, remainder, integ, rate] <;> assumption

theorem timescaleRange_pos : 0 < timescaleRange := by decide

theorem FiguresWithin.advance {c : Clock} {v : Servo} (h : FiguresWithin c v) (dt : Nat) :
    FiguresWithin (c.advance dt) v := by
  obtain ⟨-, -, rest⟩ := h
  exact ⟨Nat.mod_lt _ timescaleRange_pos, Nat.mod_lt _ (by decide), rest⟩

theorem FiguresWithin.initial (osc : Nat) {v : Servo} (low : 1000000 ≤ v.aMax) (high : v.aMax ≤ 200000000)
    (form : v.lockedU ≤ uCeiling) : FiguresWithin (.initial osc) v :=
  ⟨timescaleRange_pos, Nat.zero_lt_succ _, low, high, by simp [Clock.initial], by simp [Clock.initial], form⟩

theorem Clock.steppedValue_lt (c : Clock) (x : Int) : c.steppedValue x < timescaleRange := by
  have pos := timescaleRange_pos
  unfold Clock.steppedValue clampInt
  omega

theorem FiguresWithin.full {c : Clock} {v : Servo} (h : FiguresWithin c v) : FiguresWithin c.full .initial := by
  obtain ⟨value, remainder, -⟩ := h
  refine ⟨value, remainder, ?_⟩
  simp only [Clock.full, Servo.initial, clampInt, uCeiling]
  omega

theorem ServoKeeps.figures : ServoKeeps State.figuresKept where
  servo _ _ rate form h := FiguresWithin.servo h rate form
  piUpdate s x h := by
    have steered : FiguresWithin (s.clock.steer s.servo (s.piFigures x.theta)) s.servo := FiguresWithin.limited h rfl rfl rfl rfl
    exact steered.servo rfl (.inl rfl)
  applyStep s x c h := by
    obtain ⟨-, rest⟩ := h
    simp only [State.figuresKept_iff, State.applyStep_clock, State.applyStep_servo]
    exact ⟨s.clock.steppedValue_lt x, rest⟩

theorem ExecKeeps.figures : ExecKeeps State.figuresKept :=
  have k := ServoKeeps.figures
  { advance := fun _ dt h => FiguresWithin.advance h dt
    powerUp := fun s _ => by
      have initial : FiguresWithin (.initial s.clock.osc) .initial := .initial _ (by decide) (by decide) (by decide)
      exact initial
    endReset := fun _ _ h => h
    startPower := fun _ _ h => by
      obtain ⟨-, -, low, high, -, -, form⟩ := h
      exact FiguresWithin.initial _ low high form
    startFull := fun s h => by simpa [State.startFull] using FiguresWithin.full h
    warmReset := fun s h => by
      have warm : FiguresWithin s.clock s.servo.warm := FiguresWithin.servo h rfl (.inl rfl)
      exact warm
    tick := fun _ h => FiguresWithin.servo h rfl (.inl rfl)
    qualify := fun s h => by
      unfold State.qualify; split
      · exact k.takeCapture _ h
      · exact h
    endFrame := fun s line h => by
      refine State.endFrame_keeps ?_ ?_ ?_ (fun _ _ _ h => k.takeReplyFrame _ _ h) ?_ line h
      · intro s line l _ h; simpa using h
      · intro s line good n h; simpa using h
      · intro s line b h; simpa using h
      · intro s b x h; simpa using h
    queryTimer := fun s _ h => k.queryTimer (by simp) h
    replyWindow := fun s _ h => k.replyWindow h
    pulseLost := fun s h => k.pulseLost h
    endHoldover := fun s h => k.endHoldover h
    revertExpiry := fun s h => k.revertExpiry h
    clearStatus := fun s block h => by
      unfold State.clearStatus; split <;> exact h
    setAMax := fun s x low high h => by
      have widened : FiguresWithin { s.clock with
          integI := { s.servo with aMax := x }.limitRate s.clock.integI
          rateA := { s.servo with aMax := x }.limitRate s.clock.rateA } { s.servo with aMax := x } := by
        obtain ⟨value, remainder, -, -, -, -, form⟩ := h
        exact ⟨value, remainder, low, high, Servo.natAbs_limitRate_le { s.servo with aMax := x } _,
          Servo.natAbs_limitRate_le { s.servo with aMax := x } _, form⟩
      exact widened
    setRate := fun s x h => FiguresWithin.limited h rfl rfl rfl rfl
    setLeader := fun s a h => k.setLeader a h
    setPrimary := fun s r h => k.reconfigure _ (k.mild _ rfl rfl h)
    setSecondary := fun s r h => k.reconfigure _ (k.mild _ rfl rfl h)
    setHoldBound := fun s x h => k.mild _ rfl rfl h
    setHoldLimit := fun s x h => k.mild _ rfl rfl h
    setRevert := fun s e x h => k.setRevert e x h
    shortenWindows := fun s w h => k.shortenWindows w h
    servoAuto := fun s _ h => k.release h
    servoHeld := fun s _ h => k.hold h
    servoAlign := fun s h => k.mild _ rfl rfl h
    setTime := fun s x _ h => k.setTime x h
    plain := fun s t w h => by
      cases w with
      | holdoff n => simpa using h
      | _ => exact h }

end Sys2Proof.Machine

section

open Sys2Proof Sys2Proof.Machine

/-- Settles O6: each operation keeps the figures, the clock's by their clamps and carries, the locked form by its saturation. -/
theorem stepKeepsFigures : Obligations.StepKeepsFigures :=
  fun _ _ h e => ExecKeeps.figures.step (fun _ _ h => h) h e

end
end

section
/-! The origin and rack tables (R136, R138, R139, R142): what each operation of the drift monitor does to an entry, and that no
command breaks what the tables keep. -/

namespace Sys2Proof.Machine

/-! ### Entries after a change of one entry -/

theorem getD_modify {α : Type} (l : List α) (j i : Nat) (f : α → α) (d : α) :
    (l.modify j f).getD i d = if i = j ∧ j < l.length then f (l.getD i d) else l.getD i d := by
  simp only [List.getD_eq_getElem?_getD, List.getElem?_modify]
  by_cases same : j = i
  · subst same
    by_cases inside : j < l.length <;> simp [inside]
  · simp [same, Ne.symm same]

theorem Monitor.modifyOrigin_origin (m : Monitor) (j i : Nat) (f : OriginEntry → OriginEntry) :
    (m.modifyOrigin j f).origin i = if i = j ∧ j < m.origins.length then f (m.origin i) else m.origin i :=
  getD_modify _ _ _ _ _

theorem Monitor.modifyRack_rack (m : Monitor) (k i : Nat) (f : Rack → Rack) :
    (m.modifyRack k f).rack i = if i = k ∧ k < m.racks.length then f (m.rack i) else m.rack i :=
  getD_modify _ _ _ _ _

@[simp] theorem Monitor.modifyOrigin_rack (m : Monitor) (j k : Nat) (f : OriginEntry → OriginEntry) :
    (m.modifyOrigin j f).rack k = m.rack k := rfl

@[simp] theorem Monitor.modifyRack_origin (m : Monitor) (j k : Nat) (f : Rack → Rack) :
    (m.modifyRack k f).origin j = m.origin j := rfl

/-- The members of a rack are the enabled entries that name it (R138). -/
theorem Monitor.mem_membersOf {m : Monitor} {k j : Nat} :
    j ∈ m.membersOf k ↔ (m.origin j).enabled = true ∧ (m.origin j).rack = k := by
  have blank : OriginEntry.initial.enabled = false := rfl
  simp only [Monitor.membersOf, Monitor.origin, List.mem_map, List.mem_filter, Prod.exists, List.mem_zipIdx_iff_getElem?,
    Bool.and_eq_true, beq_iff_eq, exists_eq_right, List.getD_eq_getElem?_getD]
  cases m.origins[j]? with
  | none => simp [blank]
  | some e => simp

/-! ### What the tables keep, under a change of one entry -/

/-- What the tables keep is said of the entries, the racks and n_s alone. -/
theorem Monitor.tablesKept_congr {m n : Monitor} (origins : n.origins = m.origins) (racks : n.racks = m.racks)
    (settle : n.settleCount = m.settleCount) : n.tablesKept ↔ m.tablesKept := by
  simp only [Monitor.tablesKept, Monitor.origin, Monitor.rack, origins, racks, settle]

section

variable {m : Monitor} (h : m.tablesKept)

include h

/-- An entry is replaced by one whose address no other enabled entry holds, whose rack is enabled unless it is UNSEEN, and
which has its n_s samples where it is TRACKING or STRAY. -/
theorem Monitor.tablesKept.modifyOrigin (j : Nat) (f : OriginEntry → OriginEntry)
    (unique : (f (m.origin j)).enabled = true → ∀ i, i ≠ j → (m.origin i).enabled = true →
      (m.origin i).source ≠ (f (m.origin j)).source)
    (placed : (f (m.origin j)).state ≠ .unseen →
      (f (m.origin j)).enabled = true ∧ (m.rack (f (m.origin j)).rack).config.enabled = true)
    (settled : (f (m.origin j)).state = .tracking ∨ (f (m.origin j)).state = .stray →
      m.settleCount ≤ (f (m.origin j)).sampleCount) : (m.modifyOrigin j f).tablesKept := by
  obtain ⟨origins, racks, low, high, distinct, inRack, samples, quiet⟩ := h
  refine ⟨by simpa [Monitor.modifyOrigin] using origins, racks, low, high, fun a b => ?_, fun i => ?_, fun i => ?_, quiet⟩
  · rw [Monitor.modifyOrigin_origin, Monitor.modifyOrigin_origin]
    split <;> rename_i ha <;> split <;> rename_i hb
    · intros; rw [ha.1, hb.1]
    · obtain ⟨rfl, inside⟩ := ha
      intro ea eb same
      exact absurd same.symm (unique ea b (fun e => hb ⟨e, inside⟩) eb)
    · obtain ⟨rfl, inside⟩ := hb
      intro ea eb same
      exact absurd same (unique eb a (fun e => ha ⟨e, inside⟩) ea)
    · exact distinct a b
  · rw [Monitor.modifyOrigin_origin, Monitor.modifyOrigin_rack]
    split
    · rename_i hi; rw [hi.1]; exact placed
    · exact inRack i
  · rw [Monitor.modifyOrigin_origin]
    split
    · rename_i hi; rw [hi.1]; exact settled
    · exact samples i

/-- An entry that keeps its configured fields needs no look at the others. -/
theorem Monitor.tablesKept.learn (j : Nat) (f : OriginEntry → OriginEntry)
    (enabled : (f (m.origin j)).enabled = (m.origin j).enabled) (source : (f (m.origin j)).source = (m.origin j).source)
    (rack : (f (m.origin j)).rack = (m.origin j).rack)
    (placed : (f (m.origin j)).state ≠ .unseen →
      (m.origin j).enabled = true ∧ (m.rack (m.origin j).rack).config.enabled = true)
    (settled : (f (m.origin j)).state = .tracking ∨ (f (m.origin j)).state = .stray →
      m.settleCount ≤ (f (m.origin j)).sampleCount) : (m.modifyOrigin j f).tablesKept := by
  have distinct := h.2.2.2.2.1
  refine h.modifyOrigin j f (fun on i other onI same => ?_) (by rw [enabled, rack]; exact placed) settled
  exact other (distinct i j onI (enabled ▸ on) (same.trans source))

/-- A rack is replaced by one that is QUIET where it is disabled, and disabled only where no server of it has left UNSEEN. -/
theorem Monitor.tablesKept.modifyRack (k : Nat) (f : Rack → Rack)
    (empty : (f (m.rack k)).config.enabled = false → ∀ j, (m.origin j).state ≠ .unseen → (m.origin j).rack ≠ k)
    (quiet : (f (m.rack k)).config.enabled = false → (f (m.rack k)).state = .quiet) : (m.modifyRack k f).tablesKept := by
  obtain ⟨origins, racks, low, high, distinct, inRack, samples, still⟩ := h
  refine ⟨origins, by simpa [Monitor.modifyRack] using racks, low, high, distinct, fun j seen => ⟨(inRack j seen).1, ?_⟩,
    samples, fun i => ?_⟩
  · rw [Monitor.modifyRack_origin, Monitor.modifyRack_rack]
    split
    · rename_i hi
      by_contra off
      exact empty (by simpa [hi.1] using off) j seen hi.1
    · exact (inRack j seen).2
  · rw [Monitor.modifyRack_rack]
    split
    · rename_i hi; rw [hi.1]; exact quiet
    · exact still i

/-- A rack that keeps its enabled field, and its state where it is disabled. -/
theorem Monitor.tablesKept.refigure (k : Nat) (f : Rack → Rack)
    (enabled : (f (m.rack k)).config.enabled = (m.rack k).config.enabled)
    (quiet : (m.rack k).config.enabled = false → (f (m.rack k)).state = .quiet) : (m.modifyRack k f).tablesKept := by
  have inRack := h.2.2.2.2.2.1
  refine h.modifyRack k f (fun off j seen inK => ?_) (by rw [enabled]; exact quiet)
  have on := (inRack j seen).2
  rw [inK, ← enabled, off] at on
  cases on

end

/-! ### Samples (R140 to R142) -/

/-- A sample leaves an entry's configured fields. -/
theorem OriginEntry.take_configured (e : OriginEntry) (w n : Nat) (q : Bool) (x : Int) (now : BitVec 32) :
    (e.take w n q x now).enabled = e.enabled ∧ (e.take w n q x now).source = e.source ∧
      (e.take w n q x now).rack = e.rack := by
  unfold OriginEntry.take OriginEntry.learn
  cases e.state <;> exact ⟨rfl, rfl, rfl⟩

theorem le_count16 {n k : Nat} (high : n ≤ 16) (h : n ≤ k) : n ≤ count16 k := by
  unfold count16 satIncr; omega

/-- An entry is TRACKING or STRAY after a sample only with its n_s samples (R142). -/
theorem OriginEntry.take_settled {e : OriginEntry} {n : Nat} (high : n ≤ 16)
    (before : e.state = .tracking ∨ e.state = .stray → n ≤ e.sampleCount) (w : Nat) (q : Bool) (x : Int)
    (now : BitVec 32) (after : (e.take w n q x now).state = .tracking ∨ (e.take w n q x now).state = .stray) :
    n ≤ (e.take w n q x now).sampleCount := by
  unfold OriginEntry.take OriginEntry.learn at *
  cases st : e.state <;> simp only [st] at *
  case unseen | silent =>
    split at after
    · omega
    · simp at after
  case settling =>
    split at after
    · assumption
    · simp at after
  case tracking | stray => exact le_count16 high (before (by simp))

/-- A sample is applied to an enabled entry of an enabled rack. -/
theorem Monitor.tablesKept.applySample {m : Monitor} (h : m.tablesKept) {j : Nat} (q : Bool) (x : Int) (now : BitVec 32)
    (on : (m.origin j).enabled = true) (rackOn : (m.rack (m.origin j).rack).config.enabled = true) :
    (m.applySample j q x now).tablesKept := by
  have samples := h.2.2.2.2.2.2.1 j
  have high := h.2.2.2.1
  obtain ⟨enabled, source, rack⟩ := (m.origin j).take_configured m.filterExp m.settleCount q
    (saturateOffset (x + (m.rack (m.origin j).rack).config.drillOffset)) now
  exact h.learn j _ enabled source rack (fun _ => ⟨on, rackOn⟩) (OriginEntry.take_settled high samples _ _ _ _)

theorem Monitor.tablesKept.takeQuerySample {m : Monitor} (h : m.tablesKept) (j : Nat) (x : Int) (now : BitVec 32) :
    (m.takeQuerySample j x now).tablesKept := by
  unfold Monitor.takeQuerySample
  split
  · rename_i on
    rw [Bool.and_eq_true] at on
    exact h.applySample _ _ _ on.1 on.2
  · exact h

@[simp] theorem Monitor.setHeldSample_tables (m : Monitor) (line : Line) (x : Option HeldSample) :
    (m.setHeldSample line x).origins = m.origins ∧ (m.setHeldSample line x).racks = m.racks ∧
      (m.setHeldSample line x).settleCount = m.settleCount := by cases line <;> exact ⟨rfl, rfl, rfl⟩

theorem Monitor.tablesKept.setHeldSample {m : Monitor} (h : m.tablesKept) (line : Line) (x : Option HeldSample) :
    (m.setHeldSample line x).tablesKept :=
  (Monitor.tablesKept_congr (by simp) (by simp) (by simp)).mpr h

theorem Monitor.tablesKept.sampleHandoff {m : Monitor} (h : m.tablesKept) (line : Line) (a : Address) (i : RawStamp)
    (x : Int) : (m.sampleHandoff line a i x).tablesKept := by
  unfold Monitor.sampleHandoff
  split
  · split
    · exact h.setHeldSample _ _
    · exact h
  · exact h

theorem Monitor.tablesKept.frameEnd {m : Monitor} (h : m.tablesKept) (line : Line) (good : Bool) (now : BitVec 32) :
    (m.frameEnd line good now).tablesKept := by
  unfold Monitor.frameEnd
  split
  · dsimp only
    have released := h.setHeldSample line none
    split
    · rename_i on
      simp only [Bool.and_eq_true, Monitor.takesStorage] at on
      obtain ⟨⟨⟨-, on⟩, -⟩, rackOn, -⟩ := on
      exact released.applySample _ _ _ on rackOn
    · exact released
  · exact h

theorem Monitor.tablesKept.onStep {m : Monitor} (h : m.tablesKept) (x : Int) : (m.onStep x).tablesKept := by
  unfold Monitor.onStep; split <;> exact h

/-! ### The evaluation (R143 to R150) -/

@[simp] theorem State.replaceOrigin_mon (s : State) (j : Nat) (e : OriginEntry) :
    (s.replaceOrigin j e).mon = s.mon.modifyOrigin j fun _ => e := by
  unfold State.replaceOrigin; dsimp only; split <;> simp

@[simp] theorem State.setServer_mon (s : State) (j : Nat) (x : ServerState) :
    (s.setServer j x).mon = s.mon.modifyOrigin j fun _ => { s.mon.origin j with state := x } := by
  simp [State.setServer]

/-- A server that has left UNSEEN takes another state, with its n_s samples where that is TRACKING or STRAY. -/
theorem Monitor.tablesKept.setState {m : Monitor} (h : m.tablesKept) (j : Nat) (x : ServerState)
    (seen : x = .unseen ∨ (m.origin j).state ≠ .unseen)
    (settled : x = .tracking ∨ x = .stray → m.settleCount ≤ (m.origin j).sampleCount) :
    (m.modifyOrigin j fun _ => { m.origin j with state := x }).tablesKept := by
  have inRack := h.2.2.2.2.2.1 j
  refine h.learn j _ rfl rfl rfl (fun other => inRack ?_) settled
  exact seen.resolve_left other

theorem State.silenceMember_tables {s : State} (h : s.mon.tablesKept) (j : Nat) : (s.silenceMember j).mon.tablesKept := by
  unfold State.silenceMember
  split
  · rename_i falls
    rw [State.setServer_mon]
    refine h.setState j _ (.inr fun unseen => ?_) (by simp)
    simp [OriginEntry.fallsSilent, unseen] at falls
  · exact h

theorem sortCandidate_eq (l : List Int) (limit x : Int) :
    sortCandidate l limit x = .tracking ∨ sortCandidate l limit x = .stray := by
  unfold sortCandidate; split <;> simp

theorem OriginEntry.isCandidate_iff (e : OriginEntry) : e.isCandidate = true ↔ e.state = .tracking ∨ e.state = .stray := by
  simp [OriginEntry.isCandidate]

theorem Monitor.candidate_of_mem {m : Monitor} {k j : Nat} (h : j ∈ m.candidates k) : (m.origin j).isCandidate = true :=
  (List.mem_filter.mp h).2

/-- Sorting candidates keeps the tables, and keeps them candidates. -/
theorem State.sortCandidates_tables (choice : Nat → ServerState) (two : ∀ j, choice j = .tracking ∨ choice j = .stray)
    (l : List Nat) {s : State} (h : s.mon.tablesKept) (all : ∀ j ∈ l, (s.mon.origin j).isCandidate = true) :
    (l.foldl (fun t j => t.setServer j (choice j)) s).mon.tablesKept := by
  induction l generalizing s with
  | nil => exact h
  | cons j l ih =>
    have candidate := (OriginEntry.isCandidate_iff _).mp (all j (by simp))
    refine ih ?_ fun i hi => ?_
    · rw [State.setServer_mon]
      refine h.setState j _ (.inr ?_) fun _ => h.2.2.2.2.2.2.1 j candidate
      rcases candidate with e | e <;> simp [e]
    · rw [State.setServer_mon, Monitor.modifyOrigin_origin]
      split
      · exact (OriginEntry.isCandidate_iff _).mpr (two j)
      · exact all i (by simp [hi])

theorem State.excludeStrays_tables {s : State} (h : s.mon.tablesKept) (k : Nat) : (s.excludeStrays k).mon.tablesKept := by
  unfold State.excludeStrays
  dsimp only
  have sorted := State.sortCandidates_tables
    (fun j => sortCandidate ((s.mon.candidates k).map s.mon.offsetOf) (s.mon.rack k).config.strayLimit (s.mon.offsetOf j))
    (fun j => sortCandidate_eq _ _ _) (s.mon.candidates k) h fun j => Monitor.candidate_of_mem
  exact Monitor.tablesKept.refigure sorted k _ rfl fun off => sorted.2.2.2.2.2.2.2 k off

@[simp] theorem State.silenceMember_rack (s : State) (j k : Nat) : (s.silenceMember j).mon.rack k = s.mon.rack k := by
  unfold State.silenceMember; split <;> simp

/-- Setting servers leaves the racks. -/
theorem State.foldl_setServer_rack (choice : Nat → ServerState) (l : List Nat) (s : State) (k : Nat) :
    (l.foldl (fun t j => t.setServer j (choice j)) s).mon.rack k = s.mon.rack k :=
  foldl_keeps (fun t => t.mon.rack k = s.mon.rack k) _ (fun t j e => by simpa using e) l s rfl

theorem State.excludeStrays_config (s : State) (k : Nat) :
    ((s.excludeStrays k).mon.rack k).config = (s.mon.rack k).config := by
  unfold State.excludeStrays
  simp only [State.setMon_mon, Monitor.modifyRack_rack]
  split <;> rw [State.foldl_setServer_rack]

@[simp] theorem Rack.pend_config (r : Rack) (x : RackState) (c : Level) (n : Nat) : (r.pend x c n).config = r.config := by
  unfold Rack.pend; split <;> rfl

@[simp] theorem Rack.confirm_config (r : Rack) (c : Level) : (r.confirm c).config = r.config := by
  unfold Rack.confirm; (repeat' split) <;> simp

@[simp] theorem Rack.closeEvaluation_config (r : Rack) (b : Bool) : (r.closeEvaluation b).config = r.config := by
  unfold Rack.closeEvaluation; (repeat' split) <;> rfl

@[simp] theorem Rack.judge_config (r : Rack) (closed : Bool) : (r.judge closed).config = r.config := by
  unfold Rack.judge; (repeat' split) <;> simp

@[simp] theorem Monitor.rackFigures_config (m : Monitor) (k : Nat) : (m.rackFigures k).config = (m.rack k).config := rfl

/-- A rack is replaced as it is given, or with the reading of its change of state (R138, R151). -/
theorem State.replaceRack_mon (s : State) (k : Nat) (r : Rack) :
    (s.replaceRack k r).mon = s.mon.modifyRack k fun _ =>
      if (s.mon.rack k).state = r.state then r else { r with lastTransition := some s.clock.runCounter } := by
  unfold State.replaceRack; dsimp only; split <;> simp [*]

theorem State.replaceRack_tables {s : State} (h : s.mon.tablesKept) (k : Nat) (r : Rack)
    (empty : r.config.enabled = false → ∀ j, (s.mon.origin j).state ≠ .unseen → (s.mon.origin j).rack ≠ k)
    (quiet : r.config.enabled = false → r.state = .quiet) : (s.replaceRack k r).mon.tablesKept := by
  rw [State.replaceRack_mon]
  split <;> exact h.modifyRack k _ empty quiet

theorem State.evaluateRack_tables {s : State} (h : s.mon.tablesKept) (k : Nat) : (s.evaluateRack k).mon.tablesKept := by
  unfold State.evaluateRack
  split
  · rename_i on
    dsimp only
    have silenced : ((s.mon.membersOf k).foldl State.silenceMember s).mon.tablesKept ∧
        ((s.mon.membersOf k).foldl State.silenceMember s).mon.rack k = s.mon.rack k :=
      foldl_keeps (fun t => t.mon.tablesKept ∧ t.mon.rack k = s.mon.rack k) _
        (fun t j e => ⟨State.silenceMember_tables e.1 j, (State.silenceMember_rack t j k).trans e.2⟩) _ s ⟨h, rfl⟩
    have excluded := State.excludeStrays_tables silenced.1 k
    have config := State.excludeStrays_config ((s.mon.membersOf k).foldl State.silenceMember s) k
    rw [silenced.2] at config
    refine State.replaceRack_tables excluded k _ (fun off => ?_) (fun off => ?_) <;>
      simp [config, on] at off
  · exact h

theorem State.evaluate_tables {s : State} (h : s.mon.tablesKept) : s.evaluate.mon.tablesKept := by
  have all : ∀ l : List Nat, (l.foldl State.evaluateRack s).mon.tablesKept := fun l =>
    foldl_keeps (fun t => t.mon.tablesKept) _ (fun _ k e => State.evaluateRack_tables e k) l s h
  unfold State.evaluate
  generalize List.range 32 = racks
  exact (Monitor.tablesKept_congr (m := (racks.foldl State.evaluateRack s).mon) rfl rfl rfl).mpr (all racks)

/-! ### Writes (R137, R139, R142, R143) -/

theorem Monitor.duplicates_iff (m : Monitor) (j : Nat) (a : Address) :
    m.duplicates j a = true ↔ ∃ i, i ≠ j ∧ (m.origin i).enabled = true ∧ (m.origin i).source = a := by
  have blank : OriginEntry.initial.enabled = false := rfl
  simp only [Monitor.duplicates, List.any_eq_true, Prod.exists, List.mem_zipIdx_iff_getElem?, Bool.and_eq_true, beq_iff_eq,
    bne_iff_ne, Monitor.origin, List.getD_eq_getElem?_getD]
  constructor
  · rintro ⟨e, i, at_i, ⟨on, same⟩, other⟩
    exact ⟨i, other, by simp [at_i, on], by simp [at_i, same]⟩
  · rintro ⟨i, other, on, same⟩
    cases at_i : m.origins[i]? with
    | none => simp [at_i, blank] at on
    | some e =>
      simp only [at_i, Option.getD_some] at on same
      exact ⟨e, i, at_i, ⟨on, same⟩, other⟩

theorem State.writeOrigin_tables {s : State} (h : s.mon.tablesKept) {j : Nat} {enabled : Bool} {source : Address}
    (k : Nat) (free : (enabled && s.mon.duplicates j source) = false) :
    (s.writeOrigin j enabled source k).mon.tablesKept := by
  rw [State.writeOrigin, State.replaceOrigin_mon]
  refine h.modifyOrigin j _ (fun on i other onI same => ?_) (by simp [OriginEntry.initial])
    (by simp [OriginEntry.initial])
  have duplicate := (s.mon.duplicates_iff j source).mpr ⟨i, other, onI, same⟩
  simp_all

/-- Several entries return to UNSEEN, and no other changes. -/
theorem State.foldl_unseen_tables (l : List Nat) {s : State} (h : s.mon.tablesKept) :
    let t := l.foldl (fun t j => t.replaceOrigin j (t.mon.origin j).unseen) s
    t.mon.tablesKept ∧ (∀ k, t.mon.rack k = s.mon.rack k) ∧
      ∀ i, (t.mon.origin i).rack = (s.mon.origin i).rack ∧ (t.mon.origin i).enabled = (s.mon.origin i).enabled ∧
        ((t.mon.origin i).state ≠ .unseen → (s.mon.origin i).state ≠ .unseen ∧ i ∉ l) := by
  induction l generalizing s with
  | nil => exact ⟨h, fun _ => rfl, fun _ => ⟨rfl, rfl, fun seen => ⟨seen, by simp⟩⟩⟩
  | cons j l ih =>
    have first : (s.replaceOrigin j (s.mon.origin j).unseen).mon.tablesKept := by
      rw [State.replaceOrigin_mon]
      exact h.learn j _ rfl rfl rfl (by simp [OriginEntry.unseen, OriginEntry.initial])
        (by simp [OriginEntry.unseen, OriginEntry.initial])
    obtain ⟨kept, racks, rest⟩ := ih first
    refine ⟨kept, fun k => by rw [List.foldl_cons, racks]; simp, fun i => ?_⟩
    have inside : j < s.mon.origins.length ∨ (s.mon.origin j).state = .unseen := by
      by_cases low : j < s.mon.origins.length
      · exact .inl low
      · exact .inr (by simp [Monitor.origin, low, OriginEntry.initial])
    obtain ⟨rack, on, seen⟩ := rest i
    simp only [State.replaceOrigin_mon, Monitor.modifyOrigin_origin] at rack on seen
    rw [List.foldl_cons]
    by_cases here : i = j ∧ j < s.mon.origins.length
    · rw [if_pos here] at rack on seen
      refine ⟨rack.trans (by rw [here.1]; rfl), on.trans (by rw [here.1]; rfl), fun x => absurd rfl (seen x).1⟩
    · rw [if_neg here] at rack on seen
      refine ⟨rack, on, fun x => ⟨(seen x).1, fun mem => ?_⟩⟩
      rcases List.mem_cons.mp mem with rfl | mem
      · exact inside.elim (fun low => here ⟨rfl, low⟩) (seen x).1
      · exact (seen x).2 mem

theorem State.writeRack_tables {s : State} (h : s.mon.tablesKept) (k : Nat) (config : RackConfig) :
    (s.writeRack k config).mon.tablesKept := by
  have quiet := h.2.2.2.2.2.2.2 k
  have inRack := h.2.2.2.2.2.1
  unfold State.writeRack
  split
  · rename_i off
    simp only [Bool.and_eq_true, Bool.not_eq_true'] at off
    obtain ⟨kept, -, entries⟩ := State.foldl_unseen_tables (s.mon.membersOf k) h
    refine State.replaceRack_tables kept k _ (fun _ i seen inK => ?_) fun _ => rfl
    obtain ⟨rack, -, still⟩ := entries i
    have member : i ∈ s.mon.membersOf k := Monitor.mem_membersOf.mpr ⟨(inRack i (still seen).1).1, rack ▸ inK⟩
    exact (still seen).2 member
  · rename_i on
    refine h.modifyRack k _ (fun off j seen inK => ?_) fun off => quiet ?_
    · have := (inRack j seen).2
      simp_all
    · simp_all

/-- A write of n_s gives each entry the state that its samples then allow, and changes no other field of the tables (R142). -/
theorem State.resettle_upTo (settle n : Nat) (s : State) :
    let t := (List.range n).foldl (fun t j => t.setServer j ((t.mon.origin j).resettle settle)) s
    t.mon.origins.length = s.mon.origins.length ∧ t.mon.racks = s.mon.racks ∧ t.mon.settleCount = s.mon.settleCount ∧
      ∀ i, t.mon.origin i =
        if i < n ∧ i < s.mon.origins.length then { s.mon.origin i with state := (s.mon.origin i).resettle settle }
        else s.mon.origin i := by
  induction n with
  | zero => simp
  | succ n ih =>
    obtain ⟨origins, racks, count, entries⟩ := ih
    simp only [List.range_succ, List.foldl_append, List.foldl_cons, List.foldl_nil, State.setServer_mon]
    refine ⟨by simpa [Monitor.modifyOrigin] using origins, racks, count, fun i => ?_⟩
    rw [Monitor.modifyOrigin_origin, origins, entries, entries]
    by_cases here : i = n
    · subst here; by_cases inside : i < s.mon.origins.length <;> simp [inside]
    · have : i < n + 1 ↔ i < n := by omega
      simp [here, this]

theorem OriginEntry.resettle_unseen_iff (e : OriginEntry) (n : Nat) : e.resettle n = .unseen ↔ e.state = .unseen := by
  unfold OriginEntry.resettle
  cases st : e.state <;> simp only <;> (try split) <;> simp

theorem OriginEntry.resettle_settled {e : OriginEntry} {n : Nat} (h : e.resettle n = .tracking ∨ e.resettle n = .stray) :
    n ≤ e.sampleCount := by
  unfold OriginEntry.resettle at h
  cases st : e.state <;> simp only [st] at h
  case unseen | silent => simp at h
  case settling =>
    split at h
    · assumption
    · simp at h
  case tracking | stray =>
    split at h
    · simp at h
    · omega

theorem State.writeSettle_tables {s : State} (h : s.mon.tablesKept) {n : Nat} (low : 1 ≤ n) (high : n ≤ 16) :
    (s.writeSettle n).mon.tablesKept := by
  obtain ⟨origins, racks, -, -, distinct, inRack, -, quiet⟩ := h
  obtain ⟨length, tables, count, entries⟩ :=
    State.resettle_upTo n s.mon.origins.length (s.setMon { s.mon with settleCount := n })
  have rack : ∀ k, (s.writeSettle n).mon.rack k = s.mon.rack k := fun k => by
    unfold Monitor.rack; exact congrArg (List.getD · k (.cleared .initial)) tables
  have entry : ∀ i, (s.writeSettle n).mon.origin i =
      { s.mon.origin i with state := (s.mon.origin i).resettle n } := fun i => by
    refine (entries i).trans ?_
    by_cases inside : i < s.mon.origins.length
    · exact if_pos ⟨inside, inside⟩
    · have blank : s.mon.origin i = .initial := by simp [Monitor.origin, inside]
      refine (if_neg fun both => inside both.1).trans ?_
      change s.mon.origin i = _
      rw [blank]
      rfl
  refine ⟨length.trans origins, (congrArg List.length tables).trans racks, count.ge.trans' low, count.le.trans high,
    fun i j => ?_, fun j => ?_, fun j => ?_, fun k => ?_⟩
  · rw [entry, entry]; exact distinct i j
  · rw [entry, rack]
    exact fun seen => inRack j fun unseen => seen ((OriginEntry.resettle_unseen_iff _ _).mpr unseen)
  · rw [entry]
    exact fun settled => count.le.trans (OriginEntry.resettle_settled (e := s.mon.origin j) settled)
  · rw [rack]; exact quiet k

theorem getD_map_of {α β : Type} (f : α → β) (l : List α) (i : Nat) (d : α) (e : β) (h : f d = e) :
    (l.map f).getD i e = f (l.getD i d) := by
  subst h
  simp only [List.getD_eq_getElem?_getD, List.getElem?_map]
  cases l[i]? <;> rfl

theorem Monitor.tablesKept.writeInterval {m : Monitor} (h : m.tablesKept) (x : Nat) : (m.writeInterval x).tablesKept := by
  obtain ⟨origins, racks, low, high, distinct, inRack, samples, quiet⟩ := h
  have rack : ∀ k, (m.writeInterval x).rack k = { m.rack k with prevValid := false } := fun k =>
    getD_map_of (fun r : Rack => ({ r with prevValid := false } : Rack)) m.racks k (.cleared .initial) (.cleared .initial) rfl
  refine ⟨origins, by simpa [Monitor.writeInterval] using racks, low, high, distinct, fun j => ?_, samples, fun k => ?_⟩
  · rw [rack]; exact inRack j
  · rw [rack]; exact quiet k

/-! ### Resets and reads (R152, R153) -/

theorem getD_replicate_self {α : Type} (n : Nat) (x : α) (i : Nat) : (List.replicate n x).getD i x = x := by
  rw [List.getD_eq_getElem?_getD, List.getElem?_replicate]
  split <;> rfl

theorem Monitor.tablesKept_initial : Monitor.initial.tablesKept := by
  have origin : ∀ i, Monitor.initial.origin i = .initial := getD_replicate_self 512 OriginEntry.initial
  have rack : ∀ k, Monitor.initial.rack k = .cleared .initial := getD_replicate_self 32 (Rack.cleared .initial)
  refine ⟨List.length_replicate, List.length_replicate, by decide, by decide, fun i j => ?_, fun j => ?_, fun j => ?_,
    fun k => ?_⟩
  · rw [origin]; exact nofun
  · rw [origin]; exact fun seen => absurd rfl seen
  · rw [origin]; exact fun settled => by simp [OriginEntry.initial] at settled
  · rw [rack]; exact fun _ => rfl

theorem Monitor.tablesKept.warm {m : Monitor} (h : m.tablesKept) : m.warm.tablesKept := by
  obtain ⟨origins, racks, low, high, distinct, -⟩ := h
  have origin : ∀ i, m.warm.origin i = (m.origin i).unseen := fun i => getD_map_of OriginEntry.unseen _ _ _ _ rfl
  have rack : ∀ k, m.warm.rack k = Rack.cleared (m.rack k).config := fun k =>
    getD_map_of (fun r : Rack => Rack.cleared r.config) m.racks k _ _ rfl
  refine ⟨by simpa [Monitor.warm] using origins, by simpa [Monitor.warm] using racks, low, high, fun i j => ?_,
    fun j => ?_, fun j => ?_, fun k => ?_⟩
  · rw [origin, origin]; exact distinct i j
  · rw [origin]; exact fun seen => absurd rfl seen
  · rw [origin]; exact fun settled => by simp [OriginEntry.unseen, OriginEntry.initial] at settled
  · rw [rack]; exact fun _ => rfl

/-- A list with a range of its members changed, at a place. -/
theorem getElem?_modifyRange {α : Type} (l : List α) (first count i : Nat) (f : α → α) :
    (modifyRange l first count f)[i]? =
      if first ≤ i ∧ i < first + count then l[i]?.map f else l[i]? := by
  have length : (modifyRange l first count f).length = l.length := by
    simp only [modifyRange, List.length_append, List.length_take, List.length_map, List.length_drop]
    omega
  by_cases inside : i < l.length
  · unfold modifyRange
    rw [List.append_assoc, List.getElem?_append, List.getElem?_append]
    simp only [List.length_take, List.length_map, List.length_drop, List.getElem?_take, List.getElem?_map, List.getElem?_drop]
    by_cases low : i < first
    · simp [low, inside, Nat.not_le.mpr low]
    · have start : min first l.length = first := by omega
      have back : first + (i - first) = i := by omega
      by_cases high : i < first + count
      · have here : i - first < count := by omega
        have there : i - first < l.length - first := by omega
        simp [low, high, start, back, here, there, Nat.le_of_not_lt low]
      · have beyond : ¬(i - first < min count (l.length - first)) := by omega
        have rest : first + count + (i - first - min count (l.length - first)) = i := by omega
        simp [low, high, start, beyond, rest]
  · have outside := Nat.le_of_not_lt inside
    rw [List.getElem?_eq_none (length ▸ outside), List.getElem?_eq_none outside]
    split <;> rfl

theorem Monitor.tablesKept.originsRead {m : Monitor} (h : m.tablesKept) (first count : Nat) :
    { m with origins := modifyRange m.origins first count fun e =>
        { e with queryCount := 0, storageCount := 0 } }.tablesKept := by
  obtain ⟨origins, racks, low, high, distinct, inRack, samples, quiet⟩ := h
  generalize hn : ({ m with origins := modifyRange m.origins first count fun e =>
    { e with queryCount := 0, storageCount := 0 } } : Monitor) = n
  have entry : ∀ i, n.origin i = m.origin i ∨ n.origin i = { m.origin i with queryCount := 0, storageCount := 0 } := by
    intro i
    subst hn
    simp only [Monitor.origin, List.getD_eq_getElem?_getD, getElem?_modifyRange]
    split
    · cases m.origins[i]? with
      | none => exact .inl rfl
      | some e => exact .inr rfl
    · exact .inl rfl
  have fields : ∀ i, (n.origin i).enabled = (m.origin i).enabled ∧ (n.origin i).source = (m.origin i).source ∧
      (n.origin i).rack = (m.origin i).rack ∧ (n.origin i).state = (m.origin i).state ∧
      (n.origin i).sampleCount = (m.origin i).sampleCount := by
    intro i
    rcases entry i with e | e <;> rw [e] <;> exact ⟨rfl, rfl, rfl, rfl, rfl⟩
  have rack : ∀ k, n.rack k = m.rack k := by subst hn; exact fun k => rfl
  have count : n.settleCount = m.settleCount := by subst hn; rfl
  have lengths : n.origins.length = 512 ∧ n.racks.length = 32 := by
    subst hn
    refine ⟨?_, racks⟩
    rw [← origins]
    simp only [modifyRange, List.length_append, List.length_take, List.length_map, List.length_drop]
    omega
  refine ⟨lengths.1, lengths.2, count ▸ low, count ▸ high, fun i j => ?_, fun j => ?_, fun j => ?_, fun k => ?_⟩
  · rw [(fields i).1, (fields j).1, (fields i).2.1, (fields j).2.1]; exact distinct i j
  · obtain ⟨enabled, -, k, state, -⟩ := fields j
    rw [enabled, k, state, rack]; exact inRack j
  · obtain ⟨-, -, -, state, taken⟩ := fields j
    rw [state, taken, count]; exact samples j
  · rw [rack]; exact quiet k

/-! ### No command breaks what the tables keep -/

/-- The tables of a state's monitor keep what they keep. -/
def State.tablesKept (s : State) : Prop := s.mon.tablesKept

@[simp] theorem State.tablesKept_iff (s : State) : s.tablesKept ↔ s.mon.tablesKept := Iff.rfl

theorem ServoKeeps.tables : ServoKeeps State.tablesKept where
  applyStep s x c h := by simpa using Monitor.tablesKept.onStep h _

theorem State.runClassifier_tables {s : State} (h : s.tablesKept) (line : Line) (p : Passage) :
    (s.runClassifier line p).1.tablesKept := by
  have sampled : ∀ t : State, t.tablesKept → ∀ e a, (t.sampleAction line p e a).tablesKept := by
    intro t h e a
    unfold State.sampleAction
    split
    · exact Monitor.tablesKept.sampleHandoff h _ _ _ _
    · exact h
  have counted : ∀ i, (s.countMatch i).tablesKept := fun i => h
  unfold State.runClassifier State.actions
  split
  · split
    · split
      · exact h
      · dsimp only
        split
        · simpa using sampled _ (counted _) _ _
        · exact sampled _ (counted _) _ _
    · exact h
  · exact h

theorem State.takeQueryFrame_tables {s : State} (h : s.tablesKept) (b : List Byte) (x : Int) :
    (s.takeQueryFrame b x).tablesKept := by
  have sampled : ∀ f a, (s.sampleQuery f a x).mon.tablesKept := by
    intro f a
    unfold State.sampleQuery
    split
    · exact h
    · split
      · exact h
      · split
        · exact h
        · exact Monitor.tablesKept.takeQuerySample h _ _ _
  unfold State.takeQueryFrame
  split
  · split
    · exact h
    · simpa using sampled _ _
  · exact h

theorem ExecKeeps.tables : ExecKeeps State.tablesKept :=
  have k := ServoKeeps.tables
  have lines : ∀ (s : State) line l, l.origin = (s.lineAt line).origin → s.tablesKept → (s.setLine line l).tablesKept :=
    fun s line l _ h => h
  have event : ∀ (s : State) line good n, s.tablesKept → (s.frameEndEvent line good n).tablesKept := by
    intro s line good n h
    simpa [State.frameEndEvent] using Monitor.tablesKept.frameEnd h line good s.clock.runCounter
  { powerUp := fun _ _ => Monitor.tablesKept_initial
    endReset := fun _ _ h => (Monitor.tablesKept_congr rfl rfl rfl).mpr h
    startFull := fun s _ => by simpa [State.startFull] using Monitor.tablesKept_initial
    warmReset := fun _ h => (Monitor.tablesKept_congr rfl rfl rfl).mpr (Monitor.tablesKept.warm h)
    tick := fun _ h => (Monitor.tablesKept_congr rfl rfl rfl).mpr h
    qualify := fun s h => by
      unfold State.qualify; split
      · exact k.takeCapture _ h
      · exact h
    completeClassification := fun s line h =>
      State.completeClassification_keeps lines (fun _ _ _ h => State.runClassifier_tables h _ _) line h
    reachOverlength := fun s line h => State.reachOverlength_keeps lines event line h
    endFrame := fun s line h =>
      State.endFrame_keeps lines event (fun s _ _ h => by simpa using h) (fun _ _ _ h => k.takeReplyFrame _ _ h)
        (fun _ _ _ h => State.takeQueryFrame_tables h _ _) line h
    evaluate := fun _ h => State.evaluate_tables h
    originsRead := fun _ first count h => Monitor.tablesKept.originsRead h first count
    clearGroup := fun s block h => by unfold State.clearGroup; split <;> exact h
    plain := fun s t w h => by
      cases w with
      | holdoff n => simpa using h
      | _ => exact h
    writeInterval := fun _ x h => Monitor.tablesKept.writeInterval h x
    writeSettle := fun _ x low high h => State.writeSettle_tables h low high
    writeOrigin := fun _ _ _ _ k _ _ free h => State.writeOrigin_tables h k free
    writeRack := fun _ n config _ h => State.writeRack_tables h n config
    setTime := fun s x _ h => k.setTime x h }

end Sys2Proof.Machine

section

open Sys2Proof Sys2Proof.Machine

/-- Settles O7: each operation of the drift monitor changes its entries within what the tables keep. -/
theorem stepKeepsOriginAndRackTables : Obligations.StepKeepsOriginAndRackTables :=
  fun _ _ h e => ExecKeeps.tables.step (fun _ _ h => h) h e

end
end

section
/-! The accounting of the sequences of date records (R129): what each operation of the dater does to the records of a stream, and
that no command breaks the accounting. -/

namespace Sys2Proof.Machine

/-! ### Records that follow on -/

theorem followOn_of_suffix {l l' : List DateRecord} {next gap : BitVec 32} (s : l' <:+ l) (h : followOn l next gap) :
    followOn l' next gap := by
  induction l with
  | nil => rw [List.suffix_nil.mp s]; exact h
  | cons r l ih =>
    rcases List.suffix_cons_iff.mp s with rfl | s
    · exact h
    · cases l with
      | nil => rw [List.suffix_nil.mp s]; trivial
      | cons q l => exact ih s h.2

/-- The record that was to come follows the others on, and the next follows it by one. -/
theorem followOn_append {l : List DateRecord} {r : DateRecord} (h : followOn l r.seq r.gap) :
    followOn (l ++ [r]) (r.seq + 1) 0 := by
  induction l with
  | nil => simp [followOn]
  | cons q l ih =>
    cases l with
    | nil => exact ⟨h, by simp [followOn]⟩
    | cons p l => exact ⟨h.1, ih h.2⟩

/-- A sequence number that is lost grows the pending gap by one. -/
theorem followOn_lost {l : List DateRecord} {next gap : BitVec 32} (h : followOn l next gap) :
    followOn l (next + 1) (gap + 1) := by
  induction l with
  | nil => trivial
  | cons q l ih =>
    cases l with
    | nil => simp only [followOn] at *; rw [h]; ac_rfl
    | cons p l => exact ⟨h.1, ih h.2⟩

/-! ### The streams of a dater -/

theorem Dater.modifyStream_stream (d : Dater) (k i : Nat) (f : StreamState → StreamState) :
    (d.modifyStream k f).stream i = if i = k ∧ k < d.streams.length then f (d.stream i) else d.stream i :=
  getD_modify _ _ _ _ _

theorem Dater.resetStream_stream (d : Dater) (k i : Nat) :
    (d.resetStream k).stream i =
      if i = k ∧ k < d.streams.length then .fresh ((d.stream i).beginning + 1) else d.stream i := getD_modify _ _ _ _ _

section

variable {d : Dater} (h : d.gapsAccounted)

include h

/-- A stream is changed without beginning again, and what followed on still does. -/
theorem Dater.gapsAccounted.modifyStream (k : Nat) (f : StreamState → StreamState)
    (same : ∀ x, (f x).beginning = x.beginning)
    (follows : ∀ x l, followOn l x.nextSeq x.gap → followOn l (f x).nextSeq (f x).gap) :
    (d.modifyStream k f).gapsAccounted := by
  obtain ⟨streams, begun, accounted⟩ := h
  have beginning : ∀ i, ((d.modifyStream k f).stream i).beginning = (d.stream i).beginning := fun i => by
    rw [Dater.modifyStream_stream]; split <;> simp [same]
  refine ⟨by simpa [Dater.modifyStream] using streams, fun r mem low => ?_, fun i low => ?_⟩
  · rw [beginning]; exact begun r mem low
  · have records : (d.modifyStream k f).recordsOf i = d.recordsOf i := by
      simp only [Dater.recordsOf, beginning]; rfl
    rw [records, Dater.modifyStream_stream]
    split
    · exact follows _ _ (accounted i low)
    · exact accounted i low

/-- A stream that begins afresh has no record yet. -/
theorem Dater.gapsAccounted.resetStream (k : Nat) : (d.resetStream k).gapsAccounted := by
  obtain ⟨streams, begun, accounted⟩ := h
  have beginning : ∀ i, (d.stream i).beginning ≤ ((d.resetStream k).stream i).beginning := fun i => by
    rw [Dater.resetStream_stream]
    split
    · exact Nat.le_succ _
    · exact Nat.le_refl _
  refine ⟨by simpa using streams, fun r mem low => (begun r mem low).trans (beginning _), fun i low => ?_⟩
  by_cases here : i = k ∧ k < d.streams.length
  · have none : (d.resetStream k).recordsOf i = [] := by
      refine List.filter_eq_nil_iff.mpr fun r mem both => ?_
      simp only [Dater.resetStream_stream, if_pos here, StreamState.fresh, Bool.and_eq_true, beq_iff_eq] at both
      have old := begun r mem (both.1 ▸ low)
      rw [both.1, both.2] at old
      omega
    rw [none]; trivial
  · have records : (d.resetStream k).recordsOf i = d.recordsOf i := by
      simp only [Dater.recordsOf, Dater.resetStream_stream, if_neg here]; rfl
    rw [records, Dater.resetStream_stream, if_neg here]
    exact accounted i low

theorem Dater.gapsAccounted.resetStreams (ks : List Nat) : (ks.foldl Dater.resetStream d).gapsAccounted := by
  induction ks generalizing d with
  | nil => exact h
  | cons k ks ih => exact ih (h.resetStream k)

theorem Dater.gapsAccounted.renew (k : Nat) : (d.renew k).gapsAccounted := by
  unfold Dater.renew
  split
  · exact h.resetStream k
  · exact h

/-- The oldest records leave the queue. -/
theorem Dater.gapsAccounted.drop (n : Nat) : { d with queue := d.queue.drop n }.gapsAccounted := by
  obtain ⟨streams, begun, accounted⟩ := h
  refine ⟨streams, fun r mem low => begun r (List.mem_of_mem_drop mem) low, fun i low => ?_⟩
  exact followOn_of_suffix ((List.drop_suffix n d.queue).filter _) (accounted i low)

/-- A record with its stream's next sequence and pending gap count enters the queue. -/
theorem Dater.gapsAccounted.enter {r : DateRecord} (beginning : r.beginning = (d.stream r.stream).beginning)
    (seq : r.seq = (d.stream r.stream).nextSeq) (gap : r.gap = (d.stream r.stream).gap) :
    { d.modifyStream r.stream fun x => { x with nextSeq := x.nextSeq + 1, gap := 0, armed := true } with
      queue := d.queue ++ [r] }.gapsAccounted := by
  obtain ⟨streams, begun, accounted⟩ := h
  generalize he : ({ d.modifyStream r.stream fun x =>
    { x with nextSeq := x.nextSeq + 1, gap := 0, armed := true } with queue := d.queue ++ [r] } : Dater) = e
  have stream : ∀ i, e.stream i = if i = r.stream ∧ r.stream < d.streams.length then
      { d.stream i with nextSeq := (d.stream i).nextSeq + 1, gap := 0, armed := true } else d.stream i := by
    subst he; exact fun i => Dater.modifyStream_stream _ _ _ _
  have same : ∀ i, (e.stream i).beginning = (d.stream i).beginning := fun i => by rw [stream]; split <;> rfl
  have queue : e.queue = d.queue ++ [r] := by subst he; rfl
  have length : e.streams.length = 64 := by subst he; simpa [Dater.modifyStream] using streams
  refine ⟨length, fun q mem low => ?_, fun i low => ?_⟩
  · rw [same]
    rcases List.mem_append.mp (queue ▸ mem) with old | new
    · exact begun q old low
    · rw [List.mem_singleton.mp new, beginning]
  · have records : e.recordsOf i = d.recordsOf i ++ if i = r.stream then [r] else [] := by
      simp only [Dater.recordsOf, queue, same, List.filter_append]
      congr 1
      by_cases here : i = r.stream
      · simp [here, beginning]
      · simp [here, Ne.symm here]
    rw [records, stream]
    by_cases here : i = r.stream
    · subst here
      rw [if_pos rfl, if_pos ⟨rfl, by omega⟩]
      have before := accounted _ low
      rw [← seq, ← gap] at before
      simpa only [seq] using followOn_append before
    · rw [if_neg here, if_neg fun both => here both.1, List.append_nil]
      exact accounted i low

/-- What the accounting is said of: the streams and the queue alone. -/
theorem Dater.gapsAccounted.congr {e : Dater} (streams : e.streams = d.streams) (queue : e.queue = d.queue) :
    e.gapsAccounted := by
  simpa only [Dater.gapsAccounted, Dater.recordsOf, Dater.stream, streams, queue] using h

theorem Dater.gapsAccounted.setOpenDate (line : Line) (o : Option OpenDate) : (d.setOpenDate line o).gapsAccounted := by
  cases line <;> exact h.congr rfl rfl

end

/-- With no record queued, the accounting says only that the streams are there. -/
theorem Dater.gapsAccounted_of_empty {d : Dater} (streams : d.streams.length = 64) (queue : d.queue = []) :
    d.gapsAccounted := by
  refine ⟨streams, by simp [queue], fun k _ => ?_⟩
  have none : d.recordsOf k = [] := by simp [Dater.recordsOf, queue]
  rw [none]; trivial

theorem Dater.foldl_discard_length (l : List DateRecord) (d : Dater) :
    (l.foldl Dater.discard d).streams.length = d.streams.length := by
  induction l generalizing d with
  | nil => rfl
  | cons r l ih => rw [List.foldl_cons, ih]; simp [Dater.discard]

/-! ### No command breaks the accounting -/

/-- The sequences of a state's dater are accounted for. -/
def State.sequencesKept (s : State) : Prop := s.dater.gapsAccounted

@[simp] theorem State.sequencesKept_iff (s : State) : s.sequencesKept ↔ s.dater.gapsAccounted := Iff.rfl

section

variable {s : State} (h : s.sequencesKept)

include h

theorem State.sequencesKept.fill (line : Line) : (s.fill line).sequencesKept := by
  refine State.fill_keeps State.sequencesKept ?_ ?_ line s h
  · intro s line f h _; simpa using h
  · intro s line f s' h offered
    rcases State.offer_cases offered with o | o | o | o | o | o
    · obtain ⟨e, rest, -, -, rfl⟩ := State.takeReply_eq o; exact h
    · obtain ⟨-, rfl⟩ := State.takeGrade_eq o; exact h
    · obtain ⟨-, rfl⟩ := State.takeQuery_eq o; exact h
    · obtain ⟨w, -, -, rfl⟩ := State.takeNotice_eq o; exact h
    · obtain ⟨w, -, -, rfl⟩ := State.takeDateReport_eq o; exact Dater.gapsAccounted.drop h 32
    · obtain ⟨-, -, rfl⟩ := State.takeSummary_eq o; exact h

theorem State.sequencesKept.refreshDateReport : s.refreshDateReport.sequencesKept :=
  State.sequencesKept.fill (s := s.setRep { s.rep with dateReportWaiting := s.dateReady }) h _

theorem State.sequencesKept.refreshNotice : s.refreshNotice.sequencesKept :=
  State.sequencesKept.fill (s := s.setRep { s.rep with noticeWaiting := s.noticeReady }) h _

theorem State.sequencesKept.swapBanks (k : Nat) : (s.swapBanks k).sequencesKept := by
  rw [State.sequencesKept_iff, State.swapBanks_dater]
  exact Dater.gapsAccounted.resetStreams h _

theorem State.sequencesKept.boundaryEvent (k : Nat) : (s.boundaryEvent k).sequencesKept := by
  unfold State.boundaryEvent
  split
  · exact h.swapBanks k
  · exact h

theorem State.sequencesKept.crossBoundaries (a b : Nat) : (s.crossBoundaries a b).sequencesKept := by
  unfold State.crossBoundaries
  split
  · exact h.boundaryEvent _
  · exact h

theorem State.sequencesKept.applyStep (x : Int) (c : StepSource) : (s.applyStep x c).sequencesKept := by
  have crossed := State.sequencesKept.crossBoundaries
    (s := (s.stepStamps x).setExch (s.stepStamps x).exch.onStep) (by simpa using h) s.clock.value (s.stepStamps x).clock.value
  simpa [State.applyStep] using crossed

theorem State.sequencesKept.settle (a : DateHandoff) : (s.settle a).sequencesKept := by
  have advanced := (Dater.gapsAccounted.renew h a.stream).modifyStream a.stream
    (fun x => { x with lastDate := some (s.dater.settled a).1 }) (fun _ => rfl) (fun _ _ follows => follows)
  exact advanced.setOpenDate _ _

theorem State.sequencesKept.offerRecord {r : DateRecord} (beginning : r.beginning = (s.dater.stream r.stream).beginning)
    (seq : r.seq = (s.dater.stream r.stream).nextSeq) (gap : r.gap = (s.dater.stream r.stream).gap) :
    (s.offerRecord r).sequencesKept := by
  unfold State.offerRecord
  split
  · exact State.sequencesKept.refreshDateReport (Dater.gapsAccounted.enter h beginning seq gap)
  · have lost := Dater.gapsAccounted.modifyStream h r.stream
      (fun x => { x with nextSeq := x.nextSeq + 1, gap := x.gap + 1, armed := false }) (fun _ => rfl)
      (fun _ _ follows => followOn_lost follows)
    have counted := lost.congr (e := { s.dater.modifyStream r.stream fun x =>
      { x with nextSeq := x.nextSeq + 1, gap := x.gap + 1, armed := false } with
      lostRecord := count16 s.dater.lostRecord }) rfl rfl
    unfold State.loseRecord
    dsimp only
    split
    · simpa using counted
    · exact counted

theorem State.sequencesKept.closeDate (line : Line) (good : Bool) (n : Nat) : (s.closeDate line good n).sequencesKept := by
  have closed := Dater.gapsAccounted.setOpenDate h line none
  unfold State.closeDate
  split
  · rename_i o _
    dsimp only
    split
    · exact closed.congr rfl rfl
    · rename_i current
      split
      · have stream : (s.dater.setOpenDate line none).stream = s.dater.stream := by cases line <;> rfl
        have own : o.beginning = ((s.dater.setOpenDate line none).stream o.stream).beginning := by
          rw [stream]; exact (not_not.mp current).symm
        exact State.sequencesKept.offerRecord (s := s.setDater (s.dater.setOpenDate line none)) closed own rfl rfl
      · exact closed
  · exact h

theorem State.sequencesKept.frameEndEvent (line : Line) (good : Bool) (n : Nat) :
    (s.frameEndEvent line good n).sequencesKept :=
  State.sequencesKept.closeDate (s := s.setMon (s.mon.frameEnd line good s.clock.runCounter)) h line good n

theorem State.sequencesKept.runClassifier (line : Line) (p : Passage) : (s.runClassifier line p).1.sequencesKept := by
  have sampled : ∀ i e a, ((s.countMatch i).sampleAction line p e a).sequencesKept := fun i e a => by simpa using h
  have counted : ∀ i, (s.countMatch i).sequencesKept := fun i => h
  unfold State.runClassifier State.actions
  split
  · split
    · split
      · exact counted _
      · dsimp only
        split
        · exact (sampled _ _ _).settle _
        · exact sampled _ _ _
    · exact counted _
  · exact h

theorem State.sequencesKept.takeQueryFrame (b : List Byte) (x : Int) : (s.takeQueryFrame b x).sequencesKept := by
  unfold State.takeQueryFrame State.queueReply
  split
  · split
    · exact h
    · split
      · exact State.sequencesKept.fill (by simpa using h) _
      · simpa using h
  · exact h

end

theorem ServoKeeps.sequences : ServoKeeps State.sequencesKept where
  applyStep _ _ _ h := h.applyStep _ _

theorem State.sequencesKept.departFrame {s : State} (h : s.sequencesKept) (line : Line) :
    (s.departFrame line).sequencesKept := by
  unfold State.departFrame
  split
  · unfold State.departOwn
    dsimp only
    split
    · exact State.sequencesKept.fill (by simpa using h) _
    · exact h
  · simpa using h
  · exact h

theorem ExecKeeps.sequences : ExecKeeps State.sequencesKept :=
  have k := ServoKeeps.sequences
  have lines : ∀ (s : State) line l, l.origin = (s.lineAt line).origin → s.sequencesKept →
      (s.setLine line l).sequencesKept := fun s line l _ h => h
  have event : ∀ (s : State) line good n, s.sequencesKept → (s.frameEndEvent line good n).sequencesKept :=
    fun _ _ _ _ h => h.frameEndEvent _ _ _
  have fill : ∀ (s : State) line, s.sequencesKept → (s.fill line).sequencesKept := fun _ _ h => h.fill _
  { powerUp := fun _ _ => Dater.gapsAccounted_of_empty List.length_replicate rfl
    startFull := fun s h => by
      have full : s.dater.full.gapsAccounted :=
        Dater.gapsAccounted_of_empty (by simpa [Dater.full] using h.1) rfl
      simpa [State.startFull] using full
    warmReset := fun s h => by
      have warm : s.dater.warm.gapsAccounted := Dater.gapsAccounted_of_empty
        (by simpa [Dater.warm, Dater.foldl_discard_length] using h.1) rfl
      exact warm
    boundaryEvent := fun _ n h => h.boundaryEvent n
    qualify := fun s h => by
      unfold State.qualify; split
      · exact k.takeCapture _ h
      · exact h
    completeClassification := fun s line h =>
      State.completeClassification_keeps lines (fun _ _ _ h => h.runClassifier _ _) line h
    reachOverlength := fun s line h => State.reachOverlength_keeps lines event line h
    endFrame := fun s line h =>
      State.endFrame_keeps lines event (fun s _ _ h => by simpa using h) (fun _ _ _ h => k.takeReplyFrame _ _ h)
        (fun _ _ _ h => h.takeQueryFrame _ _) line h
    departFrame := fun _ line h => h.departFrame line
    queryTimer := fun _ _ h => k.queryTimer fill h
    gradeTimer := fun _ h => fill _ _ h
    summaryTimer := fun _ h => fill _ _ h
    refreshDateReport := fun _ h => h.refreshDateReport
    refreshNotice := fun _ h => h.refreshNotice
    clearGroup := fun s block h => by
      unfold State.clearGroup; split <;> exact Dater.gapsAccounted.congr h rfl rfl
    plain := fun s t w h => by
      cases w with
      | holdoff n => exact State.sequencesKept.refreshNotice h
      | _ => exact h
    setCollector := fun _ _ h => fill _ _ h
    setCollectorLine := fun _ _ h => fill _ _ h
    setDrain := fun _ _ _ h => Dater.gapsAccounted.congr h rfl rfl
    setTime := fun s x _ h => k.setTime x h }

end Sys2Proof.Machine

section

open Sys2Proof Sys2Proof.Machine

/-- Settles O8: a record enters with its stream's next sequence, a lost one grows the gap, and a stream that begins again has no
record of its new beginning. -/
theorem stepKeepsSequenceAccounting : Obligations.StepKeepsSequenceAccounting :=
  fun _ _ h e => ExecKeeps.sequences.step (fun _ _ h => h) h e

end
end

section
/-! The capacities of the queues, the windows and the notice set (R15, R32, R64, R110, R129, R154, R165): what enters each of
them, and that no command takes one past its capacity. -/

namespace Sys2Proof.Machine

/-! ### The notice set (R154, R155) -/

/-- The notice set holds at most 64 entries, no two for one subject. -/
def NoticesBounded (l : List NoticeEntry) : Prop := l.length ≤ 64 ∧ (l.map NoticeEntry.subject).Nodup

theorem NoticesBounded.drop {l : List NoticeEntry} (h : NoticesBounded l) (n : Nat) : NoticesBounded (l.drop n) := by
  refine ⟨(l.length_drop ▸ Nat.sub_le _ _).trans h.1, ?_⟩
  rw [List.map_drop]
  exact h.2.sublist (List.drop_sublist _ _)

theorem NoticesBounded.transition {r : ReportEngine} (h : NoticesBounded r.notices) (osc : Nat) (a : Subject)
    (b c : SubjectState) (x : Snapshot) : NoticesBounded (r.transition osc a b c x).notices := by
  obtain ⟨length, distinct⟩ := h
  unfold ReportEngine.transition
  split
  · have subjects : (r.notices.map fun e => if e.subject = a then e.coalesce c x else e).map NoticeEntry.subject =
        r.notices.map NoticeEntry.subject := by
      rw [List.map_map]
      refine List.map_congr_left fun e _ => ?_
      simp only [Function.comp]
      split <;> rfl
    exact ⟨by simpa using length, subjects ▸ distinct⟩
  · rename_i absent
    split
    · rename_i room
      refine ⟨by simpa using room, ?_⟩
      rw [List.map_append, List.nodup_append]
      refine ⟨distinct, by simp, fun s mem t new same => absent ?_⟩
      obtain ⟨e, held, rfl⟩ := List.mem_map.mp mem
      simp only [List.map_cons, List.map_nil, List.mem_singleton] at new
      exact List.any_eq_true.mpr ⟨e, held, by simp [same, new]⟩
    · exact ⟨length, distinct⟩

/-! ### All capacities at once -/

/-- The windows hold no more samples than W (R64). -/
def WindowsBounded (e : Exchange) : Prop := e.windowN.length ≤ e.windowSize ∧ e.windowP.length ≤ e.windowSize

/-- Every queue, window and set is within its capacity, and the notice set holds one entry for a subject. -/
def State.bounded (s : State) : Prop :=
  s.pulse.queue.length ≤ 8 ∧ (∀ line, (s.lineAt line).origin.length ≤ 8) ∧ WindowsBounded s.exch ∧
    s.south.queue.length ≤ 16 ∧ s.dater.queue.length ≤ 1024 ∧ NoticesBounded s.rep.notices ∧
    s.agent.queue.length ≤ 4

theorem State.bounded_iff (s : State) : s.bounded ↔ s.withinCapacity ∧ s.rep.subjectsDistinct := by
  have lines : (∀ line, (s.lineAt line).origin.length ≤ 8) ↔
      s.lines.north.origin.length ≤ 8 ∧ s.lines.south.origin.length ≤ 8 :=
    ⟨fun h => ⟨h .north, h .south⟩, fun h line => by cases line <;> [exact h.1; exact h.2]⟩
  simp only [State.bounded, State.withinCapacity, ReportEngine.subjectsDistinct, lines, WindowsBounded, NoticesBounded]
  tauto

section

variable {s : State} (h : s.bounded)

include h

theorem State.bounded.setPulse {p : PulseInput} (queue : p.queue.length ≤ 8) : (s.setPulse p).bounded := by
  obtain ⟨-, lines, windows, south, dater, notices, agent⟩ := h
  exact ⟨queue, lines, windows, south, dater, notices, agent⟩

theorem State.bounded.setLines {p : LinePair} (origins : ∀ line, (p.at line).origin.length ≤ 8) : (s.setLines p).bounded := by
  obtain ⟨pulse, -, windows, south, dater, notices, agent⟩ := h
  exact ⟨pulse, origins, windows, south, dater, notices, agent⟩

theorem State.bounded.setLine (line : Line) {l : LineState} (origin : l.origin.length ≤ 8) : (s.setLine line l).bounded := by
  refine h.setLines fun m => ?_
  by_cases here : m = line
  · rw [here, LinePair.at_setAt]; exact origin
  · rw [LinePair.at_setAt_of_ne _ _ _ _ here]; exact h.2.1 m

theorem State.bounded.setExch {e : Exchange} (windows : WindowsBounded e) : (s.setExch e).bounded := by
  obtain ⟨pulse, lines, -, south, dater, notices, agent⟩ := h
  exact ⟨pulse, lines, windows, south, dater, notices, agent⟩

theorem State.bounded.setSouth {g : SouthServer} (queue : g.queue.length ≤ 16) : (s.setSouth g).bounded := by
  obtain ⟨pulse, lines, windows, -, dater, notices, agent⟩ := h
  exact ⟨pulse, lines, windows, queue, dater, notices, agent⟩

theorem State.bounded.setDater {d : Dater} (queue : d.queue.length ≤ 1024) : (s.setDater d).bounded := by
  obtain ⟨pulse, lines, windows, south, -, notices, agent⟩ := h
  exact ⟨pulse, lines, windows, south, queue, notices, agent⟩

theorem State.bounded.setRep {r : ReportEngine} (notices : NoticesBounded r.notices) : (s.setRep r).bounded := by
  obtain ⟨pulse, lines, windows, south, dater, -, agent⟩ := h
  exact ⟨pulse, lines, windows, south, dater, notices, agent⟩

theorem State.bounded.setAgent {a : Agent} (queue : a.queue.length ≤ 4) : (s.setAgent a).bounded := by
  obtain ⟨pulse, lines, windows, south, dater, notices, -⟩ := h
  exact ⟨pulse, lines, windows, south, dater, notices, queue⟩

theorem State.bounded.transition (a : Subject) (b c : SubjectState) (x : Snapshot) : (s.transition a b c x).bounded :=
  h.setRep (h.2.2.2.2.2.1.transition _ _ _ _ _)

/-! ### The lines (R32) -/

theorem State.bounded.pick (line : Line) : (s.pick line).bounded := h.setLine line (h.2.1 line)

theorem State.bounded.pickIfIdle (line : Line) : (s.pickIfIdle line).bounded := by
  unfold State.pickIfIdle; split
  · exact h.pick line
  · exact h

theorem State.bounded.join {line : Line} (place : s.hasPlace line = true) (f : OwnFrame) : (s.join line f).bounded := by
  have joined : (s.setLine line { s.lineAt line with origin := (s.lineAt line).origin ++ [f] }).bounded :=
    h.setLine line (by simpa [State.hasPlace] using place)
  rcases State.pickAtJoining_cases (s.setLine line { s.lineAt line with origin := (s.lineAt line).origin ++ [f] }) line
    with e | e <;> rw [State.join, e]
  · exact joined.pick line
  · exact joined

theorem State.bounded.fill (line : Line) : (s.fill line).bounded := by
  refine State.fill_keeps State.bounded (fun _ _ f h place => h.join place f) (fun s line f s' h offered => ?_) line s h
  obtain ⟨-, -, windows, south, dater, notices, -⟩ := id h
  rcases State.offer_cases offered with o | o | o | o | o | o
  · obtain ⟨e, rest, queue, -, rfl⟩ := State.takeReply_eq o
    refine h.setSouth ?_
    rw [queue, List.length_cons] at south
    exact (Nat.le_succ _).trans south
  · obtain ⟨-, rfl⟩ := State.takeGrade_eq o; exact h.setSouth south
  · obtain ⟨-, rfl⟩ := State.takeQuery_eq o; exact h.setExch windows
  · obtain ⟨w, -, -, rfl⟩ := State.takeNotice_eq o; exact h.setRep (notices.drop 16)
  · obtain ⟨w, -, -, rfl⟩ := State.takeDateReport_eq o
    exact (h.setDater (d := { s.dater with queue := s.dater.queue.drop 32 })
      ((List.length_drop (l := s.dater.queue) ▸ Nat.sub_le _ _).trans dater)).setRep notices
  · obtain ⟨-, -, rfl⟩ := State.takeSummary_eq o; exact h.setRep notices

theorem State.bounded.refreshDateReport : s.refreshDateReport.bounded := by
  refine State.bounded.fill ?_ _
  exact h.setRep h.2.2.2.2.2.1

theorem State.bounded.refreshNotice : s.refreshNotice.bounded := by
  refine State.bounded.fill ?_ _
  exact h.setRep h.2.2.2.2.2.1

/-! ### Steps, swaps and dates -/

theorem State.bounded.swapBanks (k : Nat) : (s.swapBanks k).bounded := by
  have frame := Dater.foldl_resetStream_frame (newStreams (s.cls.entries s.cls.active.other)) s.dater
  have swapped : ∀ c d, d.queue = s.dater.queue → ((s.setCls c).setDater d).bounded := fun c d queue =>
    State.bounded.setDater (s := s.setCls c) h (queue ▸ h.2.2.2.2.1)
  refine (swapped _ _ ?_).transition _ _ _ _
  rw [Dater.foldl_resetStream_frame]

theorem State.bounded.boundaryEvent (k : Nat) : (s.boundaryEvent k).bounded := by
  unfold State.boundaryEvent; split
  · exact h.swapBanks k
  · exact h

theorem State.bounded.stepStamps (x : Int) : (s.stepStamps x).bounded := by
  obtain ⟨pulse, lines, -, south, -⟩ := id h
  refine State.bounded.setSouth (State.bounded.setPulse (State.bounded.setLines (s := s.setClock _) h fun line => ?_) ?_) ?_
  · cases line <;> [exact lines .north; exact lines .south]
  · exact pulse
  · simpa [SouthServer.shift] using south

theorem State.bounded.applyStep (x : Int) (c : StepSource) : (s.applyStep x c).bounded := by
  have emptied : ((s.stepStamps x).setExch (s.stepStamps x).exch.onStep).bounded :=
    (h.stepStamps x).setExch ⟨Nat.zero_le _, Nat.zero_le _⟩
  have crossed : ∀ a b, (((s.stepStamps x).setExch (s.stepStamps x).exch.onStep).crossBoundaries a b).bounded := by
    intro a b
    unfold State.crossBoundaries; split
    · exact emptied.boundaryEvent _
    · exact emptied
  exact State.bounded.transition (s := ((((s.stepStamps x).setExch (s.stepStamps x).exch.onStep).crossBoundaries
    s.clock.value (s.stepStamps x).clock.value).setMon _).setServo _) (crossed _ _) _ _ _ _

theorem State.bounded.settle (a : DateHandoff) : (s.settle a).bounded := by
  refine h.setDater ?_
  have queue : ∀ (d : Dater) line o, (d.setOpenDate line o).queue = d.queue := fun d line o => by cases line <;> rfl
  have renewed : (s.dater.renew a.stream).queue = s.dater.queue := by unfold Dater.renew; split <;> rfl
  rw [queue]
  change (s.dater.renew a.stream).queue.length ≤ 1024
  rw [renewed]
  exact h.2.2.2.2.1

theorem State.bounded.offerRecord (r : DateRecord) : (s.offerRecord r).bounded := by
  obtain ⟨-, -, -, -, dater, notices, -⟩ := id h
  unfold State.offerRecord; split
  · rename_i room
    refine State.bounded.refreshDateReport (h.setDater ?_)
    simpa using room
  · have lost := (h.setDater (d := { s.dater.modifyStream r.stream fun x =>
      { x with nextSeq := x.nextSeq + 1, gap := x.gap + 1, armed := false } with
      lostRecord := count16 s.dater.lostRecord }) dater).setRep (r := { s.rep with dateGap := true }) notices
    unfold State.loseRecord
    dsimp only
    split
    · exact lost.transition _ _ _ _
    · exact lost

theorem State.bounded.closeDate (line : Line) (good : Bool) (n : Nat) : (s.closeDate line good n).bounded := by
  have closed : (s.setDater (s.dater.setOpenDate line none)).bounded := by
    refine h.setDater ?_
    cases line <;> exact h.2.2.2.2.1
  unfold State.closeDate
  split
  · dsimp only
    split
    · exact closed.setDater closed.2.2.2.2.1
    · split
      · exact closed.offerRecord _
      · exact closed
  · exact h

theorem State.bounded.frameEndEvent (line : Line) (good : Bool) (n : Nat) : (s.frameEndEvent line good n).bounded :=
  State.bounded.closeDate (s := s.setMon (s.mon.frameEnd line good s.clock.runCounter)) h line good n

theorem State.bounded.runClassifier (line : Line) (p : Passage) : (s.runClassifier line p).1.bounded := by
  have counted : ∀ i, (s.countMatch i).bounded := fun i => h
  have sampled : ∀ i e a, ((s.countMatch i).sampleAction line p e a).bounded := by
    intro i e a
    unfold State.sampleAction; split <;> exact h
  unfold State.runClassifier State.actions
  split
  · split
    · split
      · exact counted _
      · dsimp only
        split
        · exact (sampled _ _ _).settle _
        · exact sampled _ _ _
    · exact counted _
  · exact h

/-! ### Requests and Queries -/

theorem State.bounded.takeRequest (line : Line) (b : List Byte) : (s.takeRequest line b).bounded := by
  have agent := h.2.2.2.2.2.2
  unfold State.takeRequest
  split
  · split
    · split
      · split
        · rename_i room
          exact h.setAgent (by simpa using room)
        · exact h.setAgent agent
      · exact h.setAgent agent
    · exact h.setAgent agent
  · exact h.setAgent agent

theorem State.bounded.takeQueryFrame (b : List Byte) (x : Int) : (s.takeQueryFrame b x).bounded := by
  have south := h.2.2.2.1
  have sampled : ∀ f a, (s.sampleQuery f a x).bounded := by
    intro f a
    unfold State.sampleQuery
    split
    · exact h.setSouth south
    · split
      · exact h
      · split
        · exact h.setSouth south
        · exact h
  have queued : ∀ (t : State) e, t.bounded → (t.queueReply e).bounded := by
    intro t e ht
    unfold State.queueReply
    split
    · rename_i room
      exact (ht.setSouth (by simpa using room)).fill _
    · exact ht.setSouth ht.2.2.2.1
  unfold State.takeQueryFrame
  split
  · split
    · exact h.setSouth south
    · exact queued _ _ (sampled _ _)
  · exact h.setSouth south

theorem State.bounded.offerResponse (line : Line) (f : OwnFrame) : (s.offerResponse line f).bounded := by
  unfold State.offerResponse; split
  · rename_i place; exact h.join place f
  · exact h.setAgent h.2.2.2.2.2.2

theorem State.bounded.endHandling {a : Agent} (queue : a.queue = s.agent.queue.tail) : (s.setAgent a).bounded := by
  refine h.setAgent ?_
  rw [queue, List.length_tail]
  exact (Nat.sub_le _ _).trans h.2.2.2.2.2.2

theorem State.bounded.respond (r : Request) (x : Status) (l : List ItemResult) : (s.respond r x l).bounded :=
  (h.offerResponse _ _).endHandling rfl

theorem State.bounded.respondReset (r : Request) (full : Bool) : (s.respondReset r full).bounded :=
  (h.offerResponse _ _).endHandling rfl

theorem State.bounded.finishItem (r : Request) (x : ItemResult) : (s.finishItem r x).bounded := by
  unfold State.finishItem
  dsimp only
  split
  · exact h.respond _ _ _
  · exact h.setAgent h.2.2.2.2.2.2

/-! ### Departures and the modes of the line pair -/

theorem State.bounded.departFrame (line : Line) : (s.departFrame line).bounded := by
  have told : ∀ (t : State) f, t.bounded → (t.tellDeparture f).bounded := by
    intro t f ht
    have departed : ∀ (e : Exchange) n x now, WindowsBounded e → WindowsBounded (e.departed n x now) := by
      intro e n x now windows
      unfold Exchange.departed; split
      · split <;> exact windows
      · exact windows
    have query : (match f.queryNumber with
        | some number => t.setExch (t.exch.departed number t.clock.value t.clock.runCounter)
        | none => t).bounded := by
      split
      · exact ht.setExch (departed _ _ _ _ ht.2.2.1)
      · exact ht
    unfold State.tellDeparture
    dsimp only
    split
    · exact query.setAgent query.2.2.2.2.2.2
    · exact query
  unfold State.departFrame
  split
  · unfold State.departOwn
    dsimp only
    split
    · refine State.bounded.fill (told _ _ (h.setLine line ?_)) _
      exact (List.length_eraseIdx_le _ _).trans (h.2.1 line)
    · exact h.setLine line (h.2.1 line)
  · have departing : (s.setLine line.other ((s.lineAt line.other).updateOldest (·.depart s.clock))).bounded := by
      refine h.setLine _ ?_
      unfold LineState.updateOldest; split <;> exact h.2.1 _
    exact departing.setLine _ (departing.2.1 line)
  · exact h

theorem State.bounded.endTransmit (line : Line) : (s.endTransmit line).bounded := by
  have finished : ∀ (t : State) b, t.bounded → (t.finishSending line b).bounded := by
    intro t b ht
    refine State.bounded.pick ?_ line
    exact ht.setLine line (ht.2.1 line)
  unfold State.endTransmit
  split
  · exact finished _ _ h
  · split
    · split
      · exact h
      · refine finished _ _ (h.setLine _ ?_)
        unfold LineState.removeOldest; split <;> exact h.2.1 _
    · exact h
  · exact h

theorem State.bounded.convertLine (line : Line) : (s.convertLine line).bounded := by
  have converted : (s.setLine line
      { s.lineAt line with buffer := (s.lineAt line).buffer.map s.convertFrame }).bounded := h.setLine line (h.2.1 line)
  unfold State.convertLine State.settleConverted
  refine foldl_keeps State.bounded _ (fun t p ht => ?_) _ _ (converted.setLine line (converted.2.1 line))
  split
  · exact ht.takeRequest _ _
  · exact ht

theorem State.bounded.reconsider (line : Line) : (s.reconsider line).bounded := by
  unfold State.reconsider State.repick
  split
  · exact (h.pick line).pickIfIdle line
  · exact h.pickIfIdle line

theorem State.bounded.enterBypass : s.enterBypass.bounded := by
  have entered : (s.setLines { s.lines with mode := .commanded }).bounded :=
    h.setLines fun line => by cases line <;> [exact h.2.1 .north; exact h.2.1 .south]
  exact (((entered.convertLine .north).convertLine .south).reconsider .north).reconsider .south

theorem State.bounded.enterActive : s.enterActive.bounded := by
  have entered : (s.setLines { s.lines with mode := .active }).bounded :=
    h.setLines fun line => by cases line <;> [exact h.2.1 .north; exact h.2.1 .south]
  exact (entered.pickIfIdle .north).pickIfIdle .south

theorem State.bounded.firstByte (line : Line) (b : List Byte) : (s.firstByte line b).bounded := by
  have lines : ∀ l : LineState, l.origin = (s.lineAt line).origin → (s.setLine line l).bounded := fun l origin =>
    h.setLine line (origin ▸ h.2.1 line)
  unfold State.firstByte
  dsimp only
  split
  · exact h
  · split
    · split
      · refine State.bounded.pickIfIdle ?_ _
        exact lines _ rfl
      · exact lines _ rfl
    · exact lines _ rfl

theorem State.bounded.startPayload (line : Line) : (s.startPayload line).bounded := by
  have lines : ∀ p, (s.setArriving line p).bounded := fun p => h.setLine line (h.2.1 line)
  unfold State.startPayload
  split
  · split
    · split
      · exact lines _
      · refine State.bounded.pickIfIdle ?_ _
        exact lines _
    · exact h
  · exact h

end

/-! ### The drift monitor's transitions -/

section

variable {P : State → Prop} (mon : ∀ s m, P s → P (s.setMon m)) (give : ∀ s a b c x, P s → P (s.transition a b c x)) {s : State}

include mon give

theorem State.replaceOrigin_keeps (j : Nat) (e : OriginEntry) (h : P s) : P (s.replaceOrigin j e) := by
  unfold State.replaceOrigin
  dsimp only
  split
  · exact give _ _ _ _ _ (mon _ _ h)
  · exact mon _ _ h

theorem State.replaceRack_keeps (k : Nat) (r : Rack) (h : P s) : P (s.replaceRack k r) := by
  unfold State.replaceRack
  dsimp only
  split
  · exact mon _ _ h
  · exact give _ _ _ _ _ (mon _ _ h)

theorem State.setServer_keeps (j : Nat) (x : ServerState) (h : P s) : P (s.setServer j x) :=
  State.replaceOrigin_keeps mon give j _ h

theorem State.evaluateRack_keeps (k : Nat) (h : P s) : P (s.evaluateRack k) := by
  unfold State.evaluateRack
  split
  · refine State.replaceRack_keeps mon give k _ (mon _ _ ?_)
    refine foldl_keeps P _ (fun t j ht => State.setServer_keeps mon give j _ ht) _ _ ?_
    refine foldl_keeps P _ (fun t j ht => ?_) _ _ h
    unfold State.silenceMember
    split
    · exact State.setServer_keeps mon give j _ ht
    · exact ht
  · exact h

theorem State.evaluate_keeps (h : P s) : P s.evaluate := by
  unfold State.evaluate
  exact mon _ _ (foldl_keeps P _ (fun t k ht => State.evaluateRack_keeps mon give k ht) _ _ h)

theorem State.writeSettle_keeps (n : Nat) (h : P s) : P (s.writeSettle n) :=
  foldl_keeps P _ (fun _ j ht => State.setServer_keeps mon give j _ ht) _ _ (mon _ _ h)

theorem State.writeRack_keeps (k : Nat) (config : RackConfig) (h : P s) : P (s.writeRack k config) := by
  unfold State.writeRack
  split
  · exact State.replaceRack_keeps mon give k _
      (foldl_keeps P _ (fun _ j ht => State.replaceOrigin_keeps mon give j _ ht) _ _ h)
  · exact mon _ _ h

end

/-! ### No command takes a queue, a window or the notice set past its capacity -/

theorem enterWindow_length_le (w : List Sample) (x : Sample) (size : Nat) : (enterWindow w x size).length ≤ size := by
  simp only [enterWindow, List.length_drop]; omega

theorem ServoKeeps.capacities : ServoKeeps State.bounded where
  servo _ _ _ _ h := h
  piUpdate _ _ h := h
  exch s e size north pulse h := by
    obtain ⟨-, -, ⟨windowN, windowP⟩, -⟩ := id h
    exact h.setExch ⟨size ▸ north.trans windowN, size ▸ pulse.trans windowP⟩
  enterWindow s r x h := by
    obtain ⟨-, -, ⟨windowN, windowP⟩, -⟩ := id h
    refine h.setExch ?_
    cases r with
    | north => exact ⟨enterWindow_length_le _ _ _, windowP⟩
    | pulse => exact ⟨windowN, enterWindow_length_le _ _ _⟩
    | none => exact ⟨windowN, windowP⟩
  transition _ _ _ _ _ h := h.transition _ _ _ _
  applyStep _ _ _ h := h.applyStep _ _

theorem PulseInput.record_length {p : PulseInput} (h : p.queue.length ≤ 8) (c : CaptureRecord) :
    (p.record c).queue.length ≤ 8 := by
  unfold PulseInput.record; split
  · rename_i room; simpa using room
  · exact h

theorem ExecKeeps.capacities : ExecKeeps State.bounded :=
  have k := ServoKeeps.capacities
  have lines : ∀ (s : State) line l, l.origin = (s.lineAt line).origin → s.bounded → (s.setLine line l).bounded :=
    fun s line l origin h => h.setLine line (origin ▸ h.2.1 line)
  have event : ∀ (s : State) line good n, s.bounded → (s.frameEndEvent line good n).bounded :=
    fun _ _ _ _ h => h.frameEndEvent _ _ _
  have fill : ∀ (s : State) line, s.bounded → (s.fill line).bounded := fun _ _ h => h.fill _
  have mon : ∀ (s : State) m, s.bounded → (s.setMon m).bounded := fun _ _ h => h
  have give : ∀ (s : State) a b c x, s.bounded → (s.transition a b c x).bounded := fun _ _ _ _ _ h => h.transition _ _ _ _
  { pins := fun _ _ _ _ _ _ h => h
    advance := fun _ _ h => h
    pulseLines := fun _ _ h => h.setRep h.2.2.2.2.2.1
    latches := fun _ _ _ _ h => h.setRep h.2.2.2.2.2.1
    classifier := fun _ _ h => h
    overflowed := fun _ _ h => h.setAgent h.2.2.2.2.2.2
    managers := fun _ _ h => h.setAgent h.2.2.2.2.2.2
    powerUp := fun s _ => by
      refine ⟨?_, fun line => ?_, ⟨?_, ?_⟩, ?_, ?_, ⟨?_, List.nodup_nil⟩, ?_⟩
      case refine_2 => cases line <;> exact Nat.zero_le _
      all_goals exact Nat.zero_le _
    endReset := fun _ _ h => h
    startPower := fun _ _ h => h
    startFull := fun s h => by
      refine State.bounded.pickIfIdle (State.bounded.pickIfIdle ?_ _) _
      refine ⟨?_, fun line => ?_, ⟨?_, ?_⟩, ?_, ?_, ⟨?_, List.nodup_nil⟩, ?_⟩
      case refine_2 => cases line <;> exact Nat.zero_le _
      all_goals exact Nat.zero_le _
    warmReset := fun s h => by
      refine ⟨?_, fun line => ?_, ⟨?_, ?_⟩, ?_, ?_, ⟨?_, List.nodup_nil⟩, ?_⟩
      case refine_2 =>
        have origins : ∀ l : LineState, l.warm.origin.length = l.origin.length := fun l => by simp [LineState.warm]
        cases line
        · exact (origins _).le.trans (h.2.1 .north)
        · exact (origins _).le.trans (h.2.1 .south)
      all_goals exact Nat.zero_le _
    tick := fun _ h => h
    boundaryEvent := fun _ n h => h.boundaryEvent n
    pinLevel := fun _ _ _ _ h => h.setPulse h.1
    deactivate := fun s h => h.setPulse (by unfold PulseInput.deactivate; dsimp only; split <;> exact h.1)
    setPolarity := fun _ _ h => h.setPulse h.1
    captureRead := fun _ h => h.setPulse (Nat.zero_le _)
    captureNow := fun _ h => h.setPulse (PulseInput.record_length h.1 _)
    qualify := fun s h => by
      unfold State.qualify; split
      · exact k.takeCapture _ (h.setPulse (PulseInput.record_length h.1 _))
      · exact h
    firstByte := fun _ line b h => h.firstByte line b
    startPayload := fun _ line h => h.startPayload line
    completeClassification := fun s line h =>
      State.completeClassification_keeps lines (fun _ _ _ h => h.runClassifier _ _) line h
    reachOverlength := fun s line h => State.reachOverlength_keeps lines event line h
    endFrame := fun s line h =>
      State.endFrame_keeps lines event (fun _ _ _ h => h.takeRequest _ _) (fun _ _ _ h => k.takeReplyFrame _ _ h)
        (fun _ _ _ h => h.takeQueryFrame _ _) line h
    departFrame := fun _ line h => h.departFrame line
    endTransmit := fun _ line h => h.endTransmit line
    enterActive := fun _ h => h.enterActive
    enterBypass := fun _ h => h.enterBypass
    queryTimer := fun _ _ h => k.queryTimer fill h
    replyWindow := fun _ _ h => k.replyWindow h
    pulseLost := fun _ h => k.pulseLost h
    endHoldover := fun _ h => k.endHoldover h
    revertExpiry := fun _ h => k.revertExpiry h
    gradeTimer := fun _ h => by refine fill _ _ ?_; exact h.setSouth h.2.2.2.1
    evaluate := fun _ h => State.evaluate_keeps mon give h
    summaryTimer := fun _ h => by refine fill _ _ ?_; exact h.setRep h.2.2.2.2.2.1
    refreshDateReport := fun _ h => h.refreshDateReport
    refreshNotice := fun _ h => h.refreshNotice
    finishItem := fun _ r x h => h.finishItem r x
    respond := fun _ r x l h => h.respond r x l
    respondReset := fun _ r full h => h.respondReset r full
    originsRead := fun _ _ _ h => h
    clearGroup := fun s block h => by
      unfold State.clearGroup; split
      · exact h.setLines fun line => by cases line <;> [exact h.2.1 .north; exact h.2.1 .south]
      all_goals exact h
    clearStatus := fun s block h => by unfold State.clearStatus; split <;> exact h
    plain := fun s t w h => by
      cases w with
      | holdoff n => exact State.bounded.refreshNotice (h.setRep h.2.2.2.2.2.1)
      | lines => exact h.setLines fun line => by cases line <;> [exact h.2.1 .north; exact h.2.1 .south]
      | _ => exact h
    setLeader := fun _ a h => k.setLeader a h
    setPrimary := fun _ _ h => k.reconfigure _ h
    setSecondary := fun _ _ h => k.reconfigure _ h
    setAMax := fun _ _ _ _ h => h
    setHoldBound := fun _ _ h => h
    setHoldLimit := fun _ _ h => h
    shortenWindows := fun s w h => k.shortenWindows w (h.setExch ⟨by simp; omega, by simp; omega⟩)
    setRevert := fun _ e x h => k.setRevert e x h
    writeInterval := fun _ _ h => h
    writeSettle := fun _ n _ _ h => State.writeSettle_keeps mon give n h
    setCollector := fun _ _ h => fill _ _ ((h.setRep h.2.2.2.2.2.1).setRep h.2.2.2.2.2.1)
    setCollectorLine := fun _ _ h => by refine fill _ _ ?_; exact h.setRep h.2.2.2.2.2.1
    setSummary := fun _ _ h => h.setRep h.2.2.2.2.2.1
    setDrain := fun _ _ _ h => h.setDater h.2.2.2.2.1
    writeOrigin := fun _ j _ _ _ _ _ _ h => State.replaceOrigin_keeps mon give j _ h
    writeRack := fun _ n config _ h => State.writeRack_keeps mon give n config h
    servoAuto := fun _ _ h => k.release h
    servoHeld := fun _ _ h => k.hold h
    servoAlign := fun _ h => h
    setRate := fun _ _ h => h
    setTime := fun _ x _ h => k.setTime x h }

end Sys2Proof.Machine

section

open Sys2Proof Sys2Proof.Machine

/-- Settles O4: what enters a queue, a window or the notice set enters only where there is room. -/
theorem stepKeepsCapacities : Obligations.StepKeepsCapacities := by
  intro s t within distinct e
  rw [← State.bounded_iff]
  exact ExecKeeps.capacities.step (fun _ _ h => h) (s.bounded_iff.mpr ⟨within, distinct⟩) e

end
end

section
/-! The combinations of servo items and of the north exchange (R54, R84, R89, R97): what each entry into a state keeps of them,
what a write of the references does before it has been taken, and that no command leaves them. -/

namespace Sys2Proof.Machine

/-! ### The combinations, as the servo and the exchange hold them -/

/-- A reference is configured, by the servo's settings and the leader address (R54, R91). -/
def configuredBy (v : Servo) (e : Exchange) : Ref → Bool
  | .north => v.names .north && e.leader != 0
  | .pulse => v.names .pulse
  | .none => false

theorem State.configured_eq (s : State) (r : Ref) : s.configured r = configuredBy s.servo s.exch r := by cases r <;> rfl

/-- The combinations of mode, state, memory, active reference, U_entry and t_h (R84, R89, R97). -/
def Servo.combined (v : Servo) : Prop :=
  (v.held = true → v.state = .holdover ∨ v.state = .free) ∧
    (v.state = .locked ∨ v.state = .holdover → v.memory = true) ∧
    (v.state = .free → v.memory = false) ∧
    (v.state = .free → v.held = false → v.active = .none) ∧
    v.entryU.isSome = v.holdForm ∧ v.holdTime.isSome = v.holdForm

/-- What the exchange keeps by whether NORTH is configured (R54, R55). -/
def Exchange.keptBy (e : Exchange) (north : Bool) : Prop :=
  e.queryIn.isSome = north ∧ (e.record ≠ .empty → north = true) ∧
    (north = false → e.liveN = false ∧ e.windowN = [] ∧ e.missed = 0)

/-- The combinations of the servo's items and of the north exchange together. -/
def ReferencesKept (v : Servo) (e : Exchange) : Prop :=
  v.combined ∧ (v.state = .locked → configuredBy v e v.active = true) ∧ e.keptBy (configuredBy v e .north)

def State.referencesKept (s : State) : Prop := ReferencesKept s.servo s.exch

@[simp] theorem State.referencesKept_iff (s : State) : s.referencesKept ↔ ReferencesKept s.servo s.exch := Iff.rfl

theorem State.referencesKept_iff_kept (s : State) : s.referencesKept ↔ s.servoCombined ∧ s.northKept := by
  simp only [State.referencesKept, ReferencesKept, Servo.combined, Exchange.keptBy, State.servoCombined, State.northKept,
    State.configured_eq]
  tauto

/-! ### The servo's entries into states (R84, R92 to R99) -/

theorem Servo.combined.auto {v : Servo} (h : v.combined) (state : v.state = .locked ∨ v.state = .acquire) :
    v.held = false := by
  obtain ⟨held, -⟩ := h
  cases mode : v.held with
  | false => rfl
  | true => rcases state with q | q <;> simp [q] at held <;> simp [held] at mode

theorem Servo.combined_enterAcquire {v : Servo} (auto : v.held = false) (r : Ref) : (v.enterAcquire r).combined := by
  cases memory : v.memory <;> simp [Servo.combined, Servo.enterAcquire, Servo.holdForm, auto, memory]

theorem Servo.combined_enterHoldover {v : Servo} (memory : v.memory = true) : v.enterHoldover.combined := by
  simp [Servo.combined, Servo.enterHoldover, Servo.holdForm, memory]

theorem Servo.combined_enterLocked {v : Servo} (auto : v.held = false) (x : Sample) : (v.enterLocked x).combined := by
  simp [Servo.combined, Servo.enterLocked, Servo.holdForm, auto]

theorem Servo.combined.endHoldover {v : Servo} (h : v.combined) : v.endHoldover.combined := by
  unfold Servo.endHoldover
  cases state : v.state with
  | holdover => cases held : v.held <;> simp [Servo.combined, Servo.holdForm]
  | acquire => simp [Servo.combined, Servo.holdForm, h.auto (.inr state)]
  | free => simpa [state] using h
  | locked => simpa [state] using h

theorem Servo.combined.hold {v : Servo} (h : v.combined) : v.hold.combined := by
  obtain ⟨-, memory, forgotten, -, entry, time⟩ := h
  unfold Servo.hold
  cases state : v.state with
  | locked => simp [Servo.combined, Servo.enterHoldover, Servo.holdForm, memory (.inl state)]
  | acquire =>
    cases m : v.memory <;> simp_all [Servo.combined, Servo.enterHoldover, Servo.holdForm]
  | holdover => simp_all [Servo.combined, Servo.holdForm]
  | free => simp_all [Servo.combined, Servo.holdForm]

theorem Servo.combined.warm {v : Servo} (h : v.combined) : v.warm.combined := by
  obtain ⟨held, memory, forgotten, active, -⟩ := h
  cases state : v.state <;> cases m : v.memory <;> simp_all [Servo.combined, Servo.warm, Servo.holdForm]

theorem Servo.warm_state_ne_locked (v : Servo) : v.warm.state ≠ .locked := by
  cases state : v.state <;> simp [Servo.warm, state]

theorem Servo.endHoldover_refs (v : Servo) :
    v.endHoldover.primary = v.primary ∧ v.endHoldover.secondary = v.secondary := by
  unfold Servo.endHoldover; split <;> exact ⟨rfl, rfl⟩

theorem Servo.hold_refs (v : Servo) : v.hold.primary = v.primary ∧ v.hold.secondary = v.secondary := by
  unfold Servo.hold Servo.enterHoldover
  cases v.state with
  | acquire => cases v.memory <;> exact ⟨rfl, rfl⟩
  | _ => exact ⟨rfl, rfl⟩

theorem Servo.endHoldover_locked {v : Servo} (h : v.endHoldover.state = .locked) : v.endHoldover = v := by
  unfold Servo.endHoldover at *
  split at h <;> simp_all

theorem Servo.hold_state_ne_locked (v : Servo) : v.hold.state ≠ .locked := by
  unfold Servo.hold Servo.enterHoldover
  cases state : v.state with
  | acquire => cases v.memory <;> simp
  | _ => simp [state]

/-! ### Changes that leave the combinations alone -/

/-- A servo stands as another in everything that the combinations speak of. -/
def Servo.standsAs (w v : Servo) : Prop :=
  w.condition = v.condition ∧ w.primary = v.primary ∧ w.secondary = v.secondary ∧ w.entryU = v.entryU ∧
    w.holdTime = v.holdTime

theorem configuredBy_congr {v w : Servo} {e f : Exchange} (primary : w.primary = v.primary)
    (secondary : w.secondary = v.secondary) (leader : f.leader = e.leader) (r : Ref) :
    configuredBy w f r = configuredBy v e r := by
  cases r <;> simp [configuredBy, Servo.names, Servo.effectiveSecondary, primary, secondary, leader]

theorem Servo.combined.congr {v w : Servo} (h : v.combined) (same : w.standsAs v) : w.combined := by
  obtain ⟨condition, -, -, entry, time⟩ := same
  simp only [Servo.condition, Condition.mk.injEq] at condition
  obtain ⟨state, held, memory, active⟩ := condition
  simpa only [Servo.combined, Servo.holdForm, state, held, memory, active, entry, time] using h

theorem ReferencesKept.servo {v w : Servo} {e : Exchange} (h : ReferencesKept v e) (same : w.standsAs v) :
    ReferencesKept w e := by
  obtain ⟨combined, locked, north⟩ := h
  refine ⟨combined.congr same, ?_, ?_⟩
  · obtain ⟨condition, primary, secondary, -⟩ := same
    simp only [Servo.condition, Condition.mk.injEq] at condition
    obtain ⟨state, -, -, active⟩ := condition
    rw [state, active, configuredBy_congr primary secondary rfl]
    exact locked
  · rw [configuredBy_congr same.2.1 same.2.2.1 rfl]
    exact north

theorem Servo.setMark_standsAs (v : Servo) (r : Ref) (m : Option LiveMark) : (v.setMark r m).standsAs v := by
  cases r <;> exact ⟨rfl, rfl, rfl, rfl, rfl⟩

theorem Servo.reschedule_standsAs (v old : Servo) : (v.reschedule old).standsAs v := by
  unfold Servo.reschedule; split <;> exact ⟨rfl, rfl, rfl, rfl, rfl⟩

theorem Servo.standsAs.trans {u v w : Servo} (h : u.standsAs v) (k : v.standsAs w) : u.standsAs w := by
  obtain ⟨h1, h2, h3, h4, h5⟩ := h
  obtain ⟨k1, k2, k3, k4, k5⟩ := k
  exact ⟨h1.trans k1, h2.trans k2, h3.trans k3, h4.trans k4, h5.trans k5⟩

/-- Another servo in the same references, with its own combinations and its own ground for LOCKED. -/
theorem ReferencesKept.enter {v w : Servo} {e : Exchange} (h : ReferencesKept v e) (combined : w.combined)
    (primary : w.primary = v.primary) (secondary : w.secondary = v.secondary)
    (locked : w.state = .locked → configuredBy v e w.active = true) : ReferencesKept w e := by
  refine ⟨combined, fun state => ?_, ?_⟩
  · rw [configuredBy_congr primary secondary rfl]; exact locked state
  · rw [configuredBy_congr primary secondary rfl]; exact h.2.2

theorem ReferencesKept.enterAcquire {v : Servo} {e : Exchange} (h : ReferencesKept v e) (auto : v.held = false) (r : Ref) :
    ReferencesKept (v.enterAcquire r) e :=
  h.enter (Servo.combined_enterAcquire auto r) rfl rfl fun state => by simp [Servo.enterAcquire] at state

/-- The exchange may change in anything but the leader address, its timer's running, and what NORTH out of configuration
keeps at nothing. -/
theorem ReferencesKept.exchange {v : Servo} {e f : Exchange} (h : ReferencesKept v e) (leader : f.leader = e.leader)
    (kept : f.keptBy (configuredBy v e .north)) : ReferencesKept v f := by
  obtain ⟨combined, locked, -⟩ := h
  refine ⟨combined, ?_, ?_⟩
  · rw [configuredBy_congr rfl rfl leader]; exact locked
  · rw [configuredBy_congr rfl rfl leader]; exact kept

theorem ReferencesKept.configured {v : Servo} {e : Exchange} (h : ReferencesKept v e) (open_ : e.record ≠ .empty) :
    configuredBy v e .north = true := h.2.2.2.1 open_

/-- With NORTH configured the exchange keeps what it must by its timer alone. -/
theorem Exchange.keptBy_of_running {f : Exchange} (timer : f.queryIn.isSome = true) : f.keptBy true :=
  ⟨timer, fun _ => rfl, fun h => by cases h⟩

theorem Exchange.keptBy.setWindow_nil {e : Exchange} {north : Bool} (h : e.keptBy north) (r : Ref) :
    (e.setWindow r []).keptBy north := by
  obtain ⟨timer, record, quiet⟩ := h
  cases r with
  | north => exact ⟨timer, record, fun n => ⟨(quiet n).1, rfl, (quiet n).2.2⟩⟩
  | pulse => exact ⟨timer, record, quiet⟩
  | none => exact ⟨timer, record, quiet⟩

theorem Exchange.setWindow_leader (e : Exchange) (r : Ref) (w : List Sample) : (e.setWindow r w).leader = e.leader := by
  cases r <;> rfl

theorem Exchange.keptBy.void {e : Exchange} {north : Bool} (h : e.keptBy north) : e.void.keptBy north := by
  obtain ⟨timer, -, quiet⟩ := h
  exact ⟨timer, fun open_ => absurd rfl open_, quiet⟩

/-! ### The servo's events -/

theorem State.auto_of_revertPasses {s : State} (passes : s.revertPasses = true) : s.servo.held = false := by
  cases held : s.servo.held
  · rfl
  · simp [State.revertPasses, held] at passes

theorem ReferencesKept.auto {v : Servo} {e : Exchange} (h : ReferencesKept v e)
    (state : v.state = .locked ∨ v.state = .acquire) : v.held = false := h.1.auto state

section

variable {s : State} (h : s.referencesKept)

include h

theorem State.referencesKept.setServo {v : Servo} (same : v.standsAs s.servo) : (s.setServo v).referencesKept :=
  ReferencesKept.servo h same

theorem State.referencesKept.startAcquire (auto : s.servo.held = false) (r : Ref) : (s.startAcquire r).referencesKept := by
  have entered : ReferencesKept (s.servo.enterAcquire r) s.exch := ReferencesKept.enterAcquire h auto r
  exact entered.exchange (s.exch.setWindow_leader r _) (entered.2.2.setWindow_nil r)

theorem State.referencesKept.revertTest : s.revertTest.referencesKept := by
  unfold State.revertTest; split
  · rename_i passes
    exact h.startAcquire (State.auto_of_revertPasses passes) _
  · exact h

theorem State.referencesKept.lose : s.lose.referencesKept := by
  unfold State.lose; split
  · rename_i state
    split
    · exact h.startAcquire (h.auto (.inl state)) _
    · refine ReferencesKept.enter h (Servo.combined_enterHoldover (h.1.2.1 (.inl state))) rfl rfl fun locked => ?_
      simp [Servo.enterHoldover] at locked
  · rename_i state
    split
    · exact h.startAcquire (h.auto (.inr state)) _
    · exact h
  · exact h

theorem State.referencesKept.acceptOffer (r : Ref) : (s.acceptOffer r).referencesKept := by
  unfold State.acceptOffer; split
  · exact h.revertTest
  · rename_i state
    split
    · exact h
    · exact h.startAcquire (h.auto (.inr state)) _
  · exact h

theorem State.referencesKept.remark (r : Ref) (m : Option LiveMark) :
    (s.setServo ((s.servo.setMark r m).reschedule s.servo)).referencesKept :=
  h.setServo ((Servo.reschedule_standsAs _ _).trans (Servo.setMark_standsAs _ _ _))

omit h in
theorem State.referencesKept_tracked {e : State → State} (after : (e s).referencesKept) :
    (s.tracked e).referencesKept := by
  rcases State.tracked_eq s e with q | ⟨-, q⟩ <;> rw [q]
  · exact after
  · exact after

theorem State.referencesKept.liveEvent (r : Ref) : (s.liveEvent r).referencesKept := by
  have marked := h.remark r (some { since := s.clock.runCounter, age := 0 })
  refine State.referencesKept_tracked ?_
  dsimp only
  split
  · exact marked
  · split
    · exact marked.acceptOffer r
    · exact marked

theorem State.referencesKept.lostEvent (r : Ref) : (s.lostEvent r).referencesKept := by
  have marked := h.remark r none
  refine State.referencesKept_tracked ?_
  dsimp only
  split
  · exact marked
  · split
    · exact marked.lose
    · exact marked

theorem State.referencesKept.endHoldover : s.endHoldover.referencesKept := by
  refine State.referencesKept_tracked ?_
  obtain ⟨combined, locked, -⟩ := id h
  obtain ⟨primary, secondary⟩ := s.servo.endHoldover_refs
  refine ReferencesKept.enter h combined.endHoldover primary secondary fun state => ?_
  have same := Servo.endHoldover_locked state
  rw [same] at state ⊢
  exact locked state

theorem State.referencesKept.hold : (s.tracked fun t => t.setServo t.servo.hold).referencesKept := by
  refine State.referencesKept_tracked ?_
  obtain ⟨primary, secondary⟩ := s.servo.hold_refs
  exact ReferencesKept.enter h h.1.hold primary secondary fun state => absurd state s.servo.hold_state_ne_locked

theorem State.referencesKept.release : (s.tracked State.release).referencesKept := by
  have auto : ReferencesKept (({ s.servo with held := false, alignPending := false } : Servo).enterAcquire s.autoChoice)
      s.exch := h.enter (Servo.combined_enterAcquire rfl _) rfl rfl fun state => by simp [Servo.enterAcquire] at state
  exact State.referencesKept_tracked (auto.exchange (s.exch.setWindow_leader _ _) (auto.2.2.setWindow_nil _))

theorem State.referencesKept.setRevert (enable : Bool) (time : Nat) : (s.setRevert enable time).referencesKept :=
  State.referencesKept_tracked (State.referencesKept.revertTest
    (h.setServo ((Servo.reschedule_standsAs _ _).trans ⟨rfl, rfl, rfl, rfl, rfl⟩)))

theorem State.referencesKept.revertExpiry : s.revertExpiry.referencesKept :=
  State.referencesKept_tracked (State.referencesKept.revertTest (h.setServo ⟨rfl, rfl, rfl, rfl, rfl⟩))

theorem State.referencesKept.applyStep (x : Int) (c : StepSource) : (s.applyStep x c).referencesKept := by
  rw [State.referencesKept_iff, State.applyStep_servo, State.applyStep_exch]
  have stepped : ReferencesKept (s.servo.onStep (s.clock.appliedAmount x) c) s.exch := ReferencesKept.servo h ⟨rfl, rfl, rfl, rfl, rfl⟩
  have void := stepped.2.2.void
  exact stepped.exchange rfl ⟨void.1, void.2.1, fun north => ⟨(void.2.2 north).1, rfl, (void.2.2 north).2.2⟩⟩

/-- An accepted SET TIME comes in FREE or in HELD, where HOLDOVER may become FREE with the active reference kept (R102). -/
theorem State.referencesKept.setTime (allowed : s.servo.state = .free ∨ s.servo.held = true) (target : Int) :
    (s.setTime target).referencesKept := by
  have stepped := h.applyStep (target - s.clock.value) .setTime
  refine State.referencesKept_tracked ?_
  dsimp only
  split
  · rename_i state
    rw [State.applyStep_servo] at state
    have held : s.servo.held = true := by
      rcases allowed with free | held
      · exact absurd (free.symm.trans state) (by decide)
      · exact held
    refine ReferencesKept.enter stepped ?_ rfl rfl fun locked => by simp at locked
    simp [Servo.combined, Servo.holdForm, Servo.onStep, Servo.windowEmptied, held]
  · exact stepped

/-! ### Samples -/

theorem State.referencesKept.select : s.select.referencesKept := by
  unfold State.select; split <;> exact h

theorem State.referencesKept.piUpdate (x : Sample) : (s.piUpdate x).referencesKept :=
  ReferencesKept.servo (w := { s.servo with lastPi := some (s.piFigures x.theta) }) h ⟨rfl, rfl, rfl, rfl, rfl⟩

theorem State.referencesKept.enterLocked (auto : s.servo.held = false) (ground : s.configured s.servo.active = true)
    (x : Sample) : (s.setServo (s.servo.enterLocked x)).referencesKept :=
  ReferencesKept.enter h (Servo.combined_enterLocked auto x) rfl rfl fun _ => (s.configured_eq _).symm.trans ground

theorem State.referencesKept.steer (state : s.servo.state = .acquire) (ground : s.configured s.servo.active = true) (x : Sample) :
    (s.steer x).referencesKept := by
  have auto := h.auto (.inr state)
  have steered := (h.piUpdate x).setServo
    (v := { (s.piUpdate x).servo with stepOutcome := some .steer, stepPending := false,
                                      lockCounter := (s.piUpdate x).servo.movedLockCounter x })
    ⟨rfl, rfl, rfl, rfl, rfl⟩
  unfold State.steer
  dsimp only
  split
  · exact (steered.enterLocked auto ((State.configured_eq _ _).trans ((s.configured_eq _).symm.trans ground)) x).revertTest
  · exact steered

theorem State.referencesKept.acquireSample (state : s.servo.state = .acquire) (ground : s.configured s.servo.active = true) :
    s.acquireSample.referencesKept := by
  unfold State.acquireSample; split
  · exact (h.setServo (v := { s.servo with stepOutcome := some .step, lockCounter := 0 })
      ⟨rfl, rfl, rfl, rfl, rfl⟩).applyStep _ _
  · exact h.setServo ⟨rfl, rfl, rfl, rfl, rfl⟩
  · split
    · exact h.steer state ground _
    · exact h

theorem State.referencesKept.unlockTest (state : s.servo.state = .locked) (x : Sample) : (s.unlockTest x).referencesKept := by
  unfold State.unlockTest; split
  · split
    · exact h.setServo ⟨rfl, rfl, rfl, rfl, rfl⟩
    · exact ReferencesKept.enterAcquire h (h.auto (.inl state)) _
  · exact h.setServo ⟨rfl, rfl, rfl, rfl, rfl⟩

theorem State.referencesKept.lockedSample (state : s.servo.state = .locked) : s.lockedSample.referencesKept := by
  unfold State.lockedSample; split
  · rename_i x _
    exact ((h.piUpdate x).setServo (v := { (s.piUpdate x).servo with lockedU := lockedForm x })
      ⟨rfl, rfl, rfl, rfl, rfl⟩).unlockTest state x
  · exact h

theorem State.referencesKept.leadOut (auto : s.servo.held = false) (r : Ref) : (s.leadOut r).referencesKept := by
  unfold State.leadOut; split
  · exact h.startAcquire auto _
  · exact h

theorem State.referencesKept.alignTest : s.alignTest.referencesKept := by
  unfold State.alignTest; split
  · exact (h.applyStep (-s.newestTheta) .align).setServo ⟨rfl, rfl, rfl, rfl, rfl⟩
  · exact h

theorem State.referencesKept.sampleWork (r : Ref) (ground : s.configured r = true) : (s.sampleWork r).referencesKept := by
  unfold State.sampleWork; split
  · split
    · exact h.alignTest
    · exact h
  · rename_i auto
    rw [Bool.not_eq_true] at auto
    split
    · exact h.leadOut auto r
    · exact h.leadOut auto r
    · rename_i state
      split
      · rename_i own; exact h.acquireSample state (own ▸ ground)
      · exact h
    · rename_i state
      split
      · exact h.lockedSample state
      · exact h

theorem State.referencesKept.sampleEntered (r : Ref) (ground : s.configured r = true) :
    (s.sampleEntered r).referencesKept := by
  refine State.referencesKept_tracked ?_
  have selected : (if s.servo.active = r then s.select else s).referencesKept := by
    split
    · exact h.select
    · exact h
  refine selected.sampleWork r ?_
  rw [← ground]
  split
  · unfold State.select; split <;> cases r <;> rfl
  · rfl

/-- A sample enters the window of a configured reference. -/
theorem State.referencesKept.enterSample (r : Ref) (ground : s.configured r = true) (x : Sample) :
    (s.enterSample r x).referencesKept := by
  have entered : ReferencesKept s.servo
      (s.exch.setWindow r (enterWindow (s.exch.window r) x s.exch.windowSize)) := by
    refine ReferencesKept.exchange h (s.exch.setWindow_leader _ _) ?_
    obtain ⟨timer, record, quiet⟩ := h.2.2
    cases r with
    | north =>
      rw [State.configured_eq] at ground
      exact ⟨timer, record, fun off => absurd (ground.symm.trans off) (by decide)⟩
    | pulse => exact ⟨timer, record, quiet⟩
    | none => exact ⟨timer, record, quiet⟩
  refine State.referencesKept.sampleEntered
    (s := s.setExch (s.exch.setWindow r (enterWindow (s.exch.window r) x s.exch.windowSize))) entered r ?_
  rw [← ground]
  cases r <;> rfl

/-! ### The exchange's events -/

/-- A change of the exchange while NORTH is configured, the leader address and the running of the timer standing. -/
theorem State.referencesKept.runningExchange (ground : s.configured .north = true) {e : Exchange}
    (leader : e.leader = s.exch.leader) (timer : e.queryIn.isSome = true) : (s.setExch e).referencesKept := by
  have on := (s.configured_eq .north).symm.trans ground
  exact ReferencesKept.exchange h leader (on ▸ Exchange.keptBy_of_running timer)

theorem State.referencesKept.timer (ground : s.configured .north = true) : s.exch.queryIn.isSome = true := by
  rw [h.2.2.1, ← State.configured_eq, ground]

theorem State.referencesKept.north_of_open (open_ : s.exch.record ≠ .empty) : s.configured .north = true :=
  (s.configured_eq _).trans (h.2.2.2.1 open_)

theorem State.referencesKept.north_of_timer (timer : s.exch.queryIn.isSome = true) : s.configured .north = true :=
  (s.configured_eq _).trans (h.2.2.1.symm.trans timer)

theorem State.referencesKept.countMiss (ground : s.configured .north = true) : s.countMiss.referencesKept := by
  unfold State.countMiss
  dsimp only
  split
  · refine State.referencesKept.lostEvent ?_ _
    exact h.runningExchange ground rfl (h.timer ground)
  · exact h.runningExchange ground rfl (h.timer ground)

theorem State.referencesKept.replyWindow (due : s.replyWindowDue = true) : s.replyWindow.referencesKept := by
  have open_ : s.exch.record ≠ .empty := fun empty => by simp [State.replyWindowDue, empty] at due
  have ground := h.north_of_open open_
  exact State.referencesKept.countMiss (h.runningExchange ground (e := { s.exch with record := .empty }) rfl (h.timer ground))
    ground

theorem State.referencesKept.fill (line : Line) : (s.fill line).referencesKept := by
  refine State.fill_keeps State.referencesKept (fun s line f h _ => ?_) (fun s line f t h offered => ?_) line s h
  · simpa using h
  · rcases State.offer_cases offered with o | o | o | o | o | o
    · obtain ⟨e, rest, -, -, rfl⟩ := State.takeReply_eq o; exact h
    · obtain ⟨-, rfl⟩ := State.takeGrade_eq o; exact h
    · obtain ⟨-, rfl⟩ := State.takeQuery_eq o; exact h
    · obtain ⟨w, -, -, rfl⟩ := State.takeNotice_eq o; exact h
    · obtain ⟨w, -, -, rfl⟩ := State.takeDateReport_eq o; exact h
    · obtain ⟨-, -, rfl⟩ := State.takeSummary_eq o; exact h

theorem State.referencesKept.issueQuery (ground : s.configured .north = true) : s.issueQuery.referencesKept := by
  refine State.referencesKept.fill ?_ _
  exact h.runningExchange ground rfl (h.timer ground)

end

/-! ### What leaves the set of configured references -/

@[simp] theorem State.startAcquire_configured (s : State) (a r : Ref) :
    (s.startAcquire a).configured r = s.configured r := by cases a <;> cases r <;> rfl

@[simp] theorem State.transition_configured (s : State) (a : Subject) (b c : SubjectState) (d : Snapshot) (r : Ref) :
    (s.transition a b c d).configured r = s.configured r := by cases r <;> rfl

theorem State.setServo_configured {s : State} {v : Servo} (primary : v.primary = s.servo.primary)
    (secondary : v.secondary = s.servo.secondary) (r : Ref) : (s.setServo v).configured r = s.configured r := by
  rw [State.configured_eq, State.configured_eq]
  exact configuredBy_congr primary secondary rfl r

theorem State.setExch_configured {s : State} {e : Exchange} (leader : e.leader = s.exch.leader) (r : Ref) :
    (s.setExch e).configured r = s.configured r := by
  rw [State.configured_eq, State.configured_eq]
  exact configuredBy_congr rfl rfl leader r

theorem State.tracked_configured {s : State} {e : State → State} {r : Ref}
    (same : (e s).configured r = s.configured r) : (s.tracked e).configured r = s.configured r := by
  rcases State.tracked_eq s e with q | ⟨-, q⟩ <;> rw [q]
  · exact same
  · rw [State.transition_configured]
    exact (State.setServo_configured rfl rfl r).trans same

theorem State.remark_configured (s : State) (r : Ref) (m : Option LiveMark) (q : Ref) :
    (s.setServo ((s.servo.setMark r m).reschedule s.servo)).configured q = s.configured q := by
  obtain ⟨-, primary, secondary, -⟩ := (Servo.reschedule_standsAs (s.servo.setMark r m) s.servo).trans
    (s.servo.setMark_standsAs r m)
  exact State.setServo_configured primary secondary q

theorem State.revertTest_configured (s : State) (r : Ref) : s.revertTest.configured r = s.configured r := by
  unfold State.revertTest; split <;> simp

theorem State.lose_configured (s : State) (r : Ref) : s.lose.configured r = s.configured r := by
  unfold State.lose; split
  · split
    · simp
    · exact State.setServo_configured rfl rfl r
  · split <;> simp
  · rfl

theorem State.acceptOffer_configured (s : State) (r q : Ref) : (s.acceptOffer r).configured q = s.configured q := by
  unfold State.acceptOffer; split
  · exact s.revertTest_configured q
  · split <;> simp
  · rfl

theorem State.liveEvent_configured (s : State) (r q : Ref) : (s.liveEvent r).configured q = s.configured q := by
  have marked := s.remark_configured r (some { since := s.clock.runCounter, age := 0 }) q
  refine State.tracked_configured ?_
  dsimp only
  split
  · exact marked
  · split
    · exact (State.acceptOffer_configured _ _ _).trans marked
    · exact marked

theorem State.lostEvent_configured (s : State) (r q : Ref) : (s.lostEvent r).configured q = s.configured q := by
  have marked := s.remark_configured r none q
  refine State.tracked_configured ?_
  dsimp only
  split
  · exact marked
  · split
    · exact (State.lose_configured _ _).trans marked
    · exact marked

theorem State.countMiss_configured (s : State) (q : Ref) : s.countMiss.configured q = s.configured q := by
  unfold State.countMiss
  dsimp only
  split
  · exact (State.lostEvent_configured _ _ _).trans (State.setExch_configured rfl q)
  · exact State.setExch_configured rfl q

theorem State.useReply_configured (s : State) (q : Ref) : s.useReply.configured q = s.configured q := by
  have used := State.setExch_configured (s := s) (e := { s.exch with missed := 0, liveN := true }) rfl q
  unfold State.useReply
  dsimp only
  split
  · exact used
  · exact (State.liveEvent_configured _ _ _).trans used

/-! ### Query timer, Replies and pulses -/

theorem Exchange.classify_matching {e : Exchange} {x : BitVec 16} {t1 : Int} (h : e.classify x = .matching t1) :
    e.record ≠ .empty := by
  intro empty
  simp only [Exchange.classify, empty] at h
  split at h <;> cases h

section

variable {s : State} (h : s.referencesKept)

include h

theorem State.referencesKept.queryTimer (due : s.queryTimerDue = true) : s.queryTimer.referencesKept := by
  have timer : s.exch.queryIn.isSome = true := by
    rw [State.queryTimerDue, beq_iff_eq] at due
    rw [due]; rfl
  have ground := h.north_of_timer timer
  have set := h.runningExchange ground (e := { s.exch with queryIn := some s.exch.interval }) rfl rfl
  have closed := h.runningExchange ground (e := { s.exch with queryIn := some s.exch.interval, record := .empty }) rfl rfl
  unfold State.queryTimer
  dsimp only
  split
  · exact set.issueQuery ground
  · exact set.countMiss ground
  · exact (closed.countMiss ground).issueQuery ((State.countMiss_configured _ _).trans ground)

theorem State.referencesKept.useReply (ground : s.configured .north = true) : s.useReply.referencesKept := by
  have used := h.runningExchange ground (e := { s.exch with missed := 0, liveN := true }) rfl (h.timer ground)
  unfold State.useReply
  dsimp only
  split
  · exact used
  · exact used.liveEvent _

theorem State.referencesKept.matchReply (ground : s.configured .north = true) (t1 t4 : Int) (f : ReplyFields) :
    (s.matchReply t1 t4 f).referencesKept := by
  have closed := h.runningExchange ground (e := { s.exch with record := .empty }) rfl (h.timer ground)
  have used := closed.useReply ground
  have still := (State.useReply_configured (s.setExch { s.exch with record := .empty }) .north).trans ground
  unfold State.matchReply
  dsimp only
  split
  · exact closed.countMiss ground
  · split
    · exact used.enterSample _ still _
    · exact used.runningExchange still rfl (used.timer still)

theorem State.referencesKept.takeReplyFrame (bytes : List Byte) (t4 : Int) : (s.takeReplyFrame bytes t4).referencesKept := by
  unfold State.takeReplyFrame
  split
  · split
    · split
      · rename_i t1 found
        exact h.matchReply (h.north_of_open (Exchange.classify_matching found)) _ _ _
      · exact h
      · exact h
    · exact h
  · exact h

theorem State.referencesKept.takeCapture (c : CaptureRecord) : (s.takeCapture c).referencesKept := by
  have live : (s.pulseLive c.runCounter).referencesKept := by
    have noted : (s.setExch
        { s.exch with pulseExpiry := some (c.runCounter + 3000), lastRegular := some c.runCounter, liveP := true }).referencesKept := h
    unfold State.pulseLive
    dsimp only
    split
    · exact noted
    · exact noted.liveEvent _
  unfold State.takeCapture; split
  · dsimp only
    split
    · rename_i ground
      exact live.enterSample _ ground _
    · exact live
  · exact h

theorem State.referencesKept.pulseLost : s.pulseLost.referencesKept :=
  State.referencesKept.lostEvent (s := s.setExch { s.exch with liveP := false, pulseExpiry := none }) h _

theorem State.referencesKept.shortenWindows (w : Nat) : (s.shortenWindows w).referencesKept := by
  have kept : (s.setExch
      { s.exch with windowSize := w, windowN := s.exch.windowN.drop (s.exch.windowN.length - w),
                    windowP := s.exch.windowP.drop (s.exch.windowP.length - w) }).referencesKept := by
    obtain ⟨timer, record, quiet⟩ := h.2.2
    refine ReferencesKept.exchange h rfl ⟨timer, record, fun north => ?_⟩
    obtain ⟨live, window, missed⟩ := quiet north
    exact ⟨live, by simp [window], missed⟩
  unfold State.shortenWindows
  dsimp only
  split
  · split
    · split
      · exact kept.select.setServo ⟨rfl, rfl, rfl, rfl, rfl⟩
      · exact kept.select
    · exact kept.select
  · exact kept

end

/-! ### A write of the references (R54, R91)

Between the write and its loss, the servo can be LOCKED on a reference that is no longer configured. -/

/-- The combinations with LOCKED on some reference, configured or not. -/
def ReferencesWritten (v : Servo) (e : Exchange) : Prop :=
  v.combined ∧ (v.state = .locked → v.active ≠ .none) ∧ e.keptBy (configuredBy v e .north)

theorem configuredBy_none (v : Servo) (e : Exchange) : configuredBy v e .none = false := rfl

theorem ReferencesKept.active_ne_none {v : Servo} {e : Exchange} (h : ReferencesKept v e) (state : v.state = .locked) :
    v.active ≠ .none := fun none => by
  have ground := h.2.1 state
  simp [none, configuredBy_none] at ground

theorem State.unconfigureNorth_kept {s : State} (combined : s.servo.combined)
    (active : s.servo.state = .locked → s.servo.active ≠ .none) (off : s.configured .north = false) :
    ReferencesWritten s.unconfigureNorth.servo s.unconfigureNorth.exch := by
  have same : s.unconfigureNorth.servo.standsAs s.servo := by
    have marked := (Servo.reschedule_standsAs (s.servo.setMark .north none) s.servo).trans (s.servo.setMark_standsAs .north none)
    unfold State.unconfigureNorth
    dsimp only
    split
    · exact Servo.standsAs.trans ⟨rfl, rfl, rfl, rfl, rfl⟩ marked
    · exact marked
  have north : configuredBy s.unconfigureNorth.servo s.unconfigureNorth.exch .north = false := by
    rw [configuredBy_congr same.2.1 same.2.2.1 (show s.unconfigureNorth.exch.leader = s.exch.leader from rfl),
      ← State.configured_eq, off]
  refine ⟨combined.congr same, ?_, ?_⟩
  · obtain ⟨condition, -⟩ := same
    simp only [Servo.condition, Condition.mk.injEq] at condition
    obtain ⟨state, -, -, ref⟩ := condition
    rw [state, ref]; exact active
  · rw [north]
    exact ⟨rfl, fun open_ => absurd rfl open_, fun _ => ⟨rfl, rfl, rfl⟩⟩

theorem State.northChange_written {s : State} {before : Bool} (combined : s.servo.combined)
    (active : s.servo.state = .locked → s.servo.active ≠ .none) (kept : s.exch.keptBy before) :
    ReferencesWritten (s.northChange before (s.configured .north)).servo
      (s.northChange before (s.configured .north)).exch := by
  cases before <;> cases now : s.configured .north <;> simp only [State.northChange, Bool.not_false, Bool.not_true,
    Bool.and_true, Bool.and_false, Bool.false_eq_true, if_true, if_false]
  · exact ⟨combined, active, by rw [← State.configured_eq, now]; exact kept⟩
  · refine ⟨combined, active, ?_⟩
    have on : configuredBy s.servo { s.exch with queryIn := some 0 } .north = true := (s.configured_eq .north).symm.trans now
    exact on ▸ Exchange.keptBy_of_running rfl
  · exact State.unconfigureNorth_kept combined active now
  · exact ⟨combined, active, by rw [← State.configured_eq, now]; exact kept⟩

theorem State.lose_state_ne_locked (s : State) : s.lose.servo.state ≠ .locked := by
  unfold State.lose
  cases state : s.servo.state with
  | locked => dsimp only; split <;> simp [State.startAcquire, Servo.enterAcquire, Servo.enterHoldover]
  | acquire => dsimp only; split <;> simp [State.startAcquire, Servo.enterAcquire, state]
  | free => simp [state]
  | holdover => simp [state]

theorem Servo.combined.withoutActive {v : Servo} (h : v.combined) : ({ v with active := .none } : Servo).combined := by
  obtain ⟨held, memory, forgotten, -, rest⟩ := h
  exact ⟨held, memory, forgotten, fun _ _ => rfl, rest⟩

theorem ReferencesWritten.kept {v : Servo} {e : Exchange} (h : ReferencesWritten v e)
    (locked : v.state = .locked → configuredBy v e v.active = true) : ReferencesKept v e := ⟨h.1, locked, h.2.2⟩

/-- The loss of an active reference that is no longer configured restores the combinations (R91, R95). -/
theorem State.dropActive_kept {s : State} (h : ReferencesWritten s.servo s.exch) : s.dropActive.referencesKept := by
  unfold State.dropActive; split
  · rename_i stands
    refine h.kept fun state => ?_
    rcases stands with none | ground
    · exact absurd none (h.2.1 state)
    · rw [← State.configured_eq]; exact ground
  · have lost : (if s.servo.held then s else s.lose).referencesKept ∧
        (if s.servo.held then s else s.lose).servo.state ≠ .locked := by
      split
      · rename_i held
        have state : s.servo.state ≠ .locked := fun state => by simp [h.1.auto (.inl state)] at held
        exact ⟨h.kept fun locked => absurd locked state, state⟩
      · refine ⟨?_, s.lose_state_ne_locked⟩
        by_cases state : s.servo.state = .locked
        · simp only [State.lose, state]
          split
          · have entered : ReferencesKept (s.servo.enterAcquire s.servo.active.other) s.exch :=
              ⟨Servo.combined_enterAcquire (h.1.auto (.inl state)) _, fun locked => by simp [Servo.enterAcquire] at locked,
                h.2.2⟩
            exact entered.exchange (s.exch.setWindow_leader _ _) (entered.2.2.setWindow_nil _)
          · exact ⟨Servo.combined_enterHoldover (h.1.2.1 (.inl state)),
              fun locked => by simp [Servo.enterHoldover] at locked, h.2.2⟩
        · exact State.referencesKept.lose (s := s) (h.kept fun locked => absurd locked state)
    dsimp only
    generalize (if s.servo.held then s else s.lose) = t at lost ⊢
    obtain ⟨kept, state⟩ := lost
    split
    · exact kept
    · exact ReferencesKept.enter kept kept.1.withoutActive rfl rfl fun locked => absurd locked state

/-- A write that changes only which references are configured, and may void the outstanding Query, is taken as one event. -/
theorem State.referencesKept.reconfigure {s : State} (h : s.referencesKept) {write : State → State}
    (condition : (write s).servo.condition = s.servo.condition) (entry : (write s).servo.entryU = s.servo.entryU)
    (time : (write s).servo.holdTime = s.servo.holdTime) (kept : (write s).exch.keptBy (s.configured .north)) :
    (s.reconfigure write).referencesKept := by
  obtain ⟨rescheduled, primary, secondary, entry', time'⟩ := Servo.reschedule_standsAs (write s).servo s.servo
  have combined : ((write s).servo.reschedule s.servo).combined := by
    have condition' := rescheduled.trans condition
    simp only [Servo.condition, Condition.mk.injEq] at condition'
    obtain ⟨state, held, memory, active⟩ := condition'
    simpa only [Servo.combined, Servo.holdForm, state, held, memory, active, entry'.trans entry, time'.trans time] using h.1
  have states : ((write s).servo.reschedule s.servo).state = s.servo.state ∧
      ((write s).servo.reschedule s.servo).active = s.servo.active := by
    have condition' := rescheduled.trans condition
    simp only [Servo.condition, Condition.mk.injEq] at condition'
    exact ⟨condition'.1, condition'.2.2.2⟩
  obtain ⟨state, active⟩ := states
  refine State.referencesKept_tracked ?_
  dsimp only
  split
  · rename_i same
    have configured : ∀ r, ((write s).setServo ((write s).servo.reschedule s.servo)).configured r = s.configured r := by
      intro r
      cases r with
      | north => exact same.1
      | pulse => exact same.2
      | none => rfl
    refine ⟨combined, fun locked => ?_, ?_⟩
    · rw [← State.configured_eq, configured, State.setServo_servo, active, State.configured_eq]
      exact h.2.1 (state.symm.trans locked)
    · rw [← State.configured_eq, configured]
      exact kept
  · have dropped := State.dropActive_kept (State.northChange_written
      (s := (write s).setServo ((write s).servo.reschedule s.servo)) combined
      (fun locked => active ▸ ReferencesKept.active_ne_none h (state.symm.trans locked)) kept)
    refine State.referencesKept.revertTest ?_
    unfold State.offerPulse
    split
    · exact dropped.acceptOffer _
    · exact dropped

/-! ### The frames that the exchange and the lines hand on -/

theorem State.setLine_references (s : State) (line : Line) (l : LineState) (_ : l.origin = (s.lineAt line).origin)
    (h : s.referencesKept) : (s.setLine line l).referencesKept := h

theorem State.refreshDateReport_references {s : State} (h : s.referencesKept) : s.refreshDateReport.referencesKept :=
  State.referencesKept.fill (s := s.setRep { s.rep with dateReportWaiting := s.dateReady }) h _

theorem State.refreshNotice_references {s : State} (h : s.referencesKept) : s.refreshNotice.referencesKept :=
  State.referencesKept.fill (s := s.setRep { s.rep with noticeWaiting := s.noticeReady }) h _

theorem State.frameEndEvent_references (s : State) (line : Line) (good : Bool) (n : Nat) (h : s.referencesKept) :
    (s.frameEndEvent line good n).referencesKept := by
  have offered : ∀ (t : State) r, t.referencesKept → (t.offerRecord r).referencesKept := by
    intro t r ht
    unfold State.offerRecord
    split
    · refine State.refreshDateReport_references ?_
      simpa using ht
    · unfold State.loseRecord
      dsimp only
      split <;> simpa using ht
  unfold State.frameEndEvent State.closeDate
  split
  · dsimp only
    split
    · simpa using h
    · split
      · refine offered _ _ ?_
        simpa using h
      · simpa using h
  · simpa using h

theorem State.takeQueryFrame_references {s : State} {b : List Byte} {x : Int} (h : s.referencesKept) :
    (s.takeQueryFrame b x).referencesKept := by
  have queued : ∀ (t : State) e, t.referencesKept → (t.queueReply e).referencesKept := by
    intro t e ht
    unfold State.queueReply
    split
    · refine State.referencesKept.fill ?_ _
      simpa using ht
    · exact ht
  unfold State.takeQueryFrame
  split
  · split
    · exact h
    · exact queued _ _ (by simpa using h)
  · exact h

/-- A Query's departure opens the record that its building has set WAITING (R58). -/
theorem Exchange.departed_keptBy {e : Exchange} {north : Bool} (h : e.keptBy north) (n : Nat) (x : Int) (now : BitVec 32) :
    (e.departed n x now).keptBy north := by
  obtain ⟨timer, record, quiet⟩ := h
  unfold Exchange.departed
  split
  · rename_i seq waiting
    split
    · exact ⟨timer, fun _ => record (by simp [waiting]), quiet⟩
    · exact ⟨timer, record, quiet⟩
  · exact ⟨timer, record, quiet⟩

theorem Exchange.departed_leader (e : Exchange) (n : Nat) (x : Int) (now : BitVec 32) :
    (e.departed n x now).leader = e.leader := by
  unfold Exchange.departed; split
  · split <;> rfl
  · rfl

theorem State.departFrame_references {s : State} {line : Line} (h : s.referencesKept) :
    (s.departFrame line).referencesKept := by
  have told : ∀ (t : State) f, t.referencesKept → (t.tellDeparture f).referencesKept := by
    intro t f ht
    have query : (match f.queryNumber with
        | some number => t.setExch (t.exch.departed number t.clock.value t.clock.runCounter)
        | none => t).referencesKept := by
      split
      · exact ReferencesKept.exchange ht (Exchange.departed_leader _ _ _ _) (Exchange.departed_keptBy ht.2.2 _ _ _)
      · exact ht
    unfold State.tellDeparture
    dsimp only
    split <;> exact query
  unfold State.departFrame
  split
  · unfold State.departOwn
    dsimp only
    split
    · exact State.referencesKept.fill (told _ _ (by simpa using h)) _
    · exact h
  · exact h
  · exact h

/-! ### Every command -/

theorem Exchange.keptBy_initial : Exchange.initial.keptBy false :=
  ⟨rfl, fun open_ => absurd rfl open_, fun _ => ⟨rfl, rfl, rfl⟩⟩

theorem ReferencesKept.initial : ReferencesKept .initial .initial :=
  ⟨by simp [Servo.combined, Servo.initial, Servo.holdForm], fun state => by simp [Servo.initial] at state,
    Exchange.keptBy_initial⟩

/-- The timers start with the query timer running exactly while NORTH is configured (R55). -/
theorem State.startTimers_kept {s : State} (combined : s.servo.combined)
    (locked : s.servo.state = .locked → s.configured s.servo.active = true)
    (record : s.exch.record ≠ .empty → s.configured .north = true)
    (quiet : s.configured .north = false → s.exch.liveN = false ∧ s.exch.windowN = [] ∧ s.exch.missed = 0) :
    s.startTimers.referencesKept := by
  have servo : s.startTimers.servo = s.servo := by simp [State.startTimers]
  have exch : s.startTimers.exch = { s.exch with queryIn := if s.configured .north then some 2 else none } := by
    simp [State.startTimers]
  rw [State.referencesKept_iff, servo, exch]
  have configured : ∀ r, configuredBy s.servo { s.exch with queryIn := if s.configured .north then some 2 else none } r =
      s.configured r := fun r =>
    (configuredBy_congr (v := s.servo) (e := s.exch) rfl rfl rfl r).trans (s.configured_eq r).symm
  rw [ReferencesKept, configured, configured]
  refine ⟨combined, locked, ?_, record, quiet⟩
  cases s.configured .north <;> rfl

theorem ExecKeeps.references : ExecKeeps State.referencesKept where
  powerUp _ _ := ReferencesKept.initial
  startPower _ _ h := h
  startFull s _ := by simpa [State.startFull] using ReferencesKept.initial
  endReset s straps h := by
    have quiet := h.2.2
    rw [← State.configured_eq] at quiet
    exact State.startTimers_kept h.1 (fun state => (State.configured_eq _ _).trans (h.2.1 state)) quiet.2.1 quiet.2.2
  warmReset s h := by
    refine State.startTimers_kept h.1.warm (fun state => absurd state s.servo.warm_state_ne_locked) ?_ ?_
    · exact fun open_ => absurd rfl open_
    · exact fun _ => ⟨rfl, rfl, rfl⟩
  tick s h := by
    have ticked : ReferencesKept s.servo.tick s.exch :=
      h.enter (by simpa [Servo.combined, Servo.tick, Servo.holdForm] using h.1) rfl rfl h.2.1
    obtain ⟨timer, rest⟩ := ticked.2.2
    exact ticked.exchange (f := { s.exch with queryIn := s.exch.queryIn.map Nat.pred }) rfl
      ⟨by simpa using timer, rest⟩
  qualify s h := by
    unfold State.qualify; split
    · dsimp only
      exact State.referencesKept.takeCapture (by simpa using h) _
    · exact h
  endFrame s line h :=
    State.endFrame_keeps State.setLine_references State.frameEndEvent_references (fun _ _ _ h => by simpa using h)
      (fun _ _ _ h => h.takeReplyFrame _ _) (fun _ _ _ h => State.takeQueryFrame_references h) line h
  reachOverlength s line h := State.reachOverlength_keeps State.setLine_references State.frameEndEvent_references line h
  departFrame s line h := State.departFrame_references h
  gradeTimer s h := State.referencesKept.fill (by simpa using h) _
  summaryTimer s h := State.referencesKept.fill (by simpa using h) _
  refreshDateReport s h := State.refreshDateReport_references h
  refreshNotice s h := State.refreshNotice_references h
  setCollector s a h := State.referencesKept.fill (by simpa using h) _
  setCollectorLine s line h := State.referencesKept.fill (by simpa using h) _
  clearGroup s block h := by
    unfold State.clearGroup; split
    case h_2 => exact h
    all_goals simpa using h
  clearStatus s block h := by
    unfold State.clearStatus; split
    · exact h.setServo ⟨rfl, rfl, rfl, rfl, rfl⟩
    all_goals simpa using h
  plain s t w h := by
    cases w with
    | holdoff n => exact State.refreshNotice_references (by simpa using h)
    | exch => exact h
    | servo => exact h.setServo ⟨rfl, rfl, rfl, rfl, rfl⟩
    | _ => simpa using h
  queryTimer _ due h := h.queryTimer due
  replyWindow _ due h := h.replyWindow due
  pulseLost _ h := h.pulseLost
  endHoldover _ h := h.endHoldover
  revertExpiry _ h := h.revertExpiry
  setLeader s a h := by
    refine h.reconfigure rfl rfl rfl ?_
    have kept := h.2.2
    rw [← State.configured_eq] at kept
    unfold State.setLeader
    dsimp only
    split
    · exact kept.void
    · exact kept
  setPrimary s r h := h.reconfigure rfl rfl rfl (by rw [s.configured_eq]; exact h.2.2)
  setSecondary s r h := h.reconfigure rfl rfl rfl (by rw [s.configured_eq]; exact h.2.2)
  setAMax _ _ _ _ h := h
  setHoldBound _ _ h := h
  setHoldLimit _ _ h := h
  setRevert _ e x h := h.setRevert e x
  shortenWindows _ w h := h.shortenWindows w
  servoAuto _ _ h := h.release
  servoHeld _ _ h := h.hold
  servoAlign _ h := h
  setTime _ x allowed h := h.setTime allowed x

end Sys2Proof.Machine

section

open Sys2Proof Sys2Proof.Machine

/-- Settles O5: each entry into a state sets the combinations anew, LOCKED is entered only on a sample of a configured active
reference, and a write of the references takes its loss and its offer before it is done. -/
theorem stepKeepsServoCombinations : Obligations.StepKeepsServoCombinations := by
  intro s t combined north e
  rw [← State.referencesKept_iff_kept]
  exact ExecKeeps.references.step (fun _ _ h => h) (s.referencesKept_iff_kept.mpr ⟨combined, north⟩) e

end
end

section
/-! Power and the reset pin (R10, R17, R172): the state after a POWER reset, the end of a reset of any kind with its timers, and
what an assertion and a release of the pin do in each phase. -/

namespace Sys2Proof.Machine

theorem exec_powerOn (s : State) : exec .powerOn s = .next s.powerUp := rfl

theorem exec_powerGood (s : State) (dt : Nat) (straps : BitVec 6) :
    exec (.powerGood dt straps) s = .next ((s.runBy dt).supply straps) := rfl

theorem exec_resetPinAssert (s : State) (dt heldNs : Nat) :
    exec (.resetPinAssert dt heldNs) s = .next ((s.runBy dt).assertPin heldNs) := rfl

/-! ### The end of a reset -/

/-- A POWER reset ends so with its timescale, A and I at 0. -/
theorem State.endPower_eq (s : State) (straps : BitVec 6) : s.endPower straps = { s with
    phase := .running
    straps := straps
    clock := .initial s.clock.osc
    pulse := { s.pulse with qualifier := if s.pulse.isActive then .releasing else .waiting }
    exch := { s.exch with queryIn := if s.configured .north then some 2 else none }
    south := { s.south with gradeAt := s.clock.osc + 2 * fuPerMs }
    mon := { s.mon with evalIn := s.mon.interval * 1000 }
    rep := { s.rep with summaryIn := if s.rep.summaryInterval = 0 then none else some (s.rep.summaryInterval * 1000) }
    agent := { s.agent with address := strapAddress straps } } := rfl

/-! ### The supply and the pin by the phase -/

section

variable {s : State}

theorem State.supply_of_released (phase : s.phase = .powerReset) (pin : s.resetPin = false) (straps : BitVec 6) :
    s.supply straps = ({ s with supplyGood := true } : State).endPower straps := by
  simp [State.supply, phase, pin]

theorem State.supply_of_asserted (phase : s.phase = .powerReset) (pin : s.resetPin = true) (straps : BitVec 6) :
    s.supply straps = { s with supplyGood := true } := by
  simp [State.supply, phase, pin]

theorem State.supply_of_other (phase : s.phase ≠ .powerReset) (straps : BitVec 6) : s.supply straps = s := if_neg phase

theorem State.releasePin_running (phase : s.phase = .running) (straps : BitVec 6) :
    s.releasePin straps = { s with resetPin := false } := by simp [State.releasePin, phase]

theorem State.releasePin_pinReset (phase : s.phase = .pinReset) (straps : BitVec 6) :
    s.releasePin straps = ({ s with resetPin := false } : State).endReset straps := by simp [State.releasePin, phase]

theorem State.releasePin_supplied (phase : s.phase = .powerReset) (supply : s.supplyGood = true) (straps : BitVec 6) :
    s.releasePin straps = ({ s with resetPin := false } : State).endPower straps := by
  simp [State.releasePin, phase, supply]

theorem State.releasePin_unsupplied (phase : s.phase = .powerReset) (supply : s.supplyGood = false) (straps : BitVec 6) :
    s.releasePin straps = { s with resetPin := false } := by simp [State.releasePin, phase, supply]

theorem State.assertPin_powerReset (phase : s.phase = .powerReset) (heldNs : Nat) :
    s.assertPin heldNs = { s with resetPin := true } := by simp [State.assertPin, phase]

theorem State.assertPin_pinReset (phase : s.phase = .pinReset) (heldNs : Nat) : s.assertPin heldNs = s := by
  simp [State.assertPin, phase]

end

/-! ### The state after a POWER reset -/

/-- Running moves no start of a pulse line that has none. -/
theorem map_advance_initial (gain : Nat) :
    (List.replicate 4 PulseLine.initial).map (·.advance gain) = List.replicate 4 PulseLine.initial := rfl

/-- A POWER reset that ends leaves every record as power left it, the timers counted from the end. -/
theorem State.supply_powerUp {s : State} (pin : s.resetPin = false) (dt : Nat) (straps : BitVec 6) :
    (s.powerUp.runBy dt).supply straps =
      { State.reset with
        pending := s.pending, straps := straps, free := s.free, clock := .initial (s.powerUp.runBy dt).clock.osc
        pulse := .initial s.pulse.pinHigh, south := .initial (s.powerUp.runBy dt).clock.osc, agent := .initial straps } := by
  rw [State.supply_of_released (s := s.powerUp.runBy dt) rfl pin, State.endPower_eq]
  have qualifier : ({ PulseInput.initial s.pulse.pinHigh with
      qualifier := if (PulseInput.initial s.pulse.pinHigh).isActive then .releasing else .waiting } : PulseInput) =
        .initial s.pulse.pinHigh := by
    cases level : s.pulse.pinHigh <;> rfl
  have north : s.powerUp.configured .north = false := rfl
  have unconfigured : (({ s.powerUp.runBy dt with supplyGood := true } : State).configured .north) = false := north
  rw [unconfigured]
  change State.mk _ _ _ _ _ _ _ { PulseInput.initial s.pulse.pinHigh with
      qualifier := if (PulseInput.initial s.pulse.pinHigh).isActive then .releasing else .waiting } _ _ _ _ _ _ _ _ _ = _
  rw [qualifier]
  have evaluation : Monitor.initial.interval * 1000 = 4000 := by decide
  have timer : ({ Monitor.initial with evalIn := Monitor.initial.interval * 1000 } : Monitor) = .initial := by
    rw [evaluation]; rfl
  have interval : (if ReportEngine.initial.summaryInterval = 0 then none
      else some (ReportEngine.initial.summaryInterval * 1000)) = some 10000 := by decide
  have reports : ({ ReportEngine.initial with
      pulseLines := (List.replicate 4 PulseLine.initial).map (·.advance (s.powerUp.clock.gain (min dt s.powerUp.slack)))
      summaryIn := if ReportEngine.initial.summaryInterval = 0 then none
        else some (ReportEngine.initial.summaryInterval * 1000) } : ReportEngine) = .initial := by
    rw [interval, map_advance_initial]; rfl
  rw [State.mk.injEq]
  exact ⟨rfl, rfl, rfl, pin, rfl, rfl, rfl, rfl, rfl, rfl, rfl, rfl, rfl, rfl, timer, reports, rfl⟩

end Sys2Proof.Machine

section

open Sys2Proof Sys2Proof.Machine

/-- Settles O3, each invariant by what it says of the initial records. -/
theorem resetStateIsSound : Obligations.ResetStateIsSound := by
  have references := (State.referencesKept_iff_kept .reset).mp ReferencesKept.initial
  have capacities : State.reset.withinCapacity := by
    refine ⟨?_, ?_, ?_, ?_, ?_, ?_, ?_, ?_, ?_⟩ <;> exact Nat.zero_le _
  exact ⟨capacities, List.nodup_nil, references.1, references.2, FiguresWithin.initial 0 (by decide) (by decide) (by decide),
    Monitor.tablesKept_initial, Dater.gapsAccounted_of_empty List.length_replicate rfl⟩

/-- Settles O10: the initial records are the values spelt out, power sets them, and the end of the reset restarts the timers. -/
theorem powerResetLeavesThePowerValues : Obligations.PowerResetLeavesThePowerValues := by
  intro s dt straps
  refine ⟨fun osc => ⟨rfl, rfl, rfl, rfl, rfl, rfl, rfl, rfl, rfl, rfl, rfl, rfl⟩, s.powerUp, exec_powerOn s, rfl, ?_, ?_⟩
  · intro pin
    refine ⟨_, exec_powerGood _ _ _, ?_⟩
    rw [State.supply_powerUp pin]
    rfl
  · intro pin
    exact congrArg Host.Outcome.next (State.supply_of_asserted (s := s.powerUp.runBy dt) rfl pin straps)

/-- Settles O12, phase by phase. -/
theorem resetPinReleaseEndsTheReset : Obligations.ResetPinReleaseEndsTheReset := by
  intro s dt heldNs straps u released asserted ended supplied anew
  refine ⟨fun phase => ⟨fun pin => ?_, fun pin => ?_⟩, fun phase => ?_, fun phase => ⟨?_, ?_⟩,
    fun phase => ⟨fun supply => ?_, fun supply => ?_, ?_⟩, fun phase => ?_⟩
  · have low : u = { u with resetPin := false } := congrArg (fun level => ({ u with resetPin := level } : State)) pin
    refine congrArg Host.Outcome.next ((State.supply_of_released (s := u) phase pin straps).trans ?_)
    rw [low]
    rfl
  · exact congrArg Host.Outcome.next (State.supply_of_asserted (s := u) phase pin straps)
  · exact congrArg Host.Outcome.next (State.supply_of_other (s := u) phase straps)
  · exact congrArg Host.Outcome.next (State.releasePin_pinReset (s := u) phase straps)
  · exact congrArg Host.Outcome.next (State.assertPin_pinReset (s := u) phase heldNs)
  · exact congrArg Host.Outcome.next (State.releasePin_supplied (s := u) phase supply straps)
  · exact congrArg Host.Outcome.next (State.releasePin_unsupplied (s := u) phase supply straps)
  · exact congrArg Host.Outcome.next (State.assertPin_powerReset (s := u) phase heldNs)
  · exact congrArg Host.Outcome.next (State.releasePin_running (s := u) phase straps)

end
end

section
/-! The transmit arbiter (R33): what a pick leaves of a line and of the other, and what decides it. -/

namespace Sys2Proof.Machine

/-! ### Lines, one at a time -/

/-- A setting of the line pair that is not a line's own. -/
structure SameSettings (a b : LinePair) : Prop where
  mode : a.mode = b.mode
  limit : a.injectionLimit = b.injectionLimit
  correction : a.transitCorrection = b.transitCorrection
  timing : a.timingType = b.timingType
  management : a.managementType = b.managementType

theorem SameSettings.rfl' (a : LinePair) : SameSettings a a := ⟨rfl, rfl, rfl, rfl, rfl⟩

theorem SameSettings.setAt (a : LinePair) (line : Line) (l : LineState) : SameSettings (a.setAt line l) a := by
  constructor <;> simp

theorem SameSettings.trans {a b c : LinePair} (h : SameSettings a b) (k : SameSettings b c) : SameSettings a c :=
  ⟨h.mode.trans k.mode, h.limit.trans k.limit, h.correction.trans k.correction, h.timing.trans k.timing,
    h.management.trans k.management⟩

/-- Two line pairs with the same settings and the same lines are one. -/
theorem LinePair.ext_at {a b : LinePair} (settings : SameSettings a b) (lines : ∀ line, a.at line = b.at line) : a = b := by
  obtain ⟨mode, limit, correction, timing, management⟩ := settings
  have north := lines .north
  have south := lines .south
  cases a; cases b
  simp only [LinePair.at] at *
  subst mode limit correction timing management north south
  rfl

/-! ### Picks -/

/-- What a pick is made of: the mode, the injection limit, the time, the passing frames and the origin queue. -/
theorem State.pickFor_congr {s t : State} {line : Line} (mode : t.lines.mode = s.lines.mode)
    (limit : t.lines.injectionLimit = s.lines.injectionLimit) (osc : t.clock.osc = s.clock.osc)
    (feeding : t.feeding line = s.feeding line) (origin : (t.lineAt line).origin = (s.lineAt line).origin) :
    t.pickFor line = s.pickFor line := by
  simp only [State.pickFor, mode, limit, osc, feeding, origin]

/-- The passing frame that a line picks where no own frame goes before it. -/
def State.passingPick (s : State) (line : Line) : Transmit :=
  match oldestPassing (s.feeding line) with
  | some p => if p.ready then .pickedPassing else .idle
  | none => .idle

/-- In BYPASS, and beyond the injection limit, the pick is a passing frame or none. -/
theorem State.pickFor_of_passing {s : State} {line : Line}
    (h : s.lines.mode ≠ .active ∨ s.lines.injectionLimit < occupancy (s.feeding line) s.clock.osc) :
    s.pickFor line = s.passingPick line := by
  unfold State.pickFor
  dsimp only
  rw [if_neg fun both => h.elim (fun mode => mode both.1) (fun beyond => absurd both.2 (Nat.not_le.mpr beyond))]
  rfl

theorem State.pickFor_of_own {s : State} {line : Line} {i : Nat} (mode : s.lines.mode = .active)
    (limit : occupancy (s.feeding line) s.clock.osc ≤ s.lines.injectionLimit)
    (own : bestPlace (s.lineAt line).origin = some i) : s.pickFor line = .pickedOwn i := by
  simp [State.pickFor, mode, limit, own]

theorem State.pickFor_of_no_own {s : State} {line : Line} (own : bestPlace (s.lineAt line).origin = none) :
    s.pickFor line = s.passingPick line := by
  simp only [State.pickFor, own, ite_self]
  rfl

theorem State.pick_lineAt (s : State) (line : Line) :
    (s.pick line).lineAt line = { s.lineAt line with transmit := s.pickFor line } := State.lineAt_setLine _ _ _

theorem State.pick_lineAt_other (s : State) (line : Line) : (s.pick line).lineAt line.other = s.lineAt line.other :=
  State.lineAt_setLine_other _ _ _

theorem State.pick_settings (s : State) (line : Line) : SameSettings (s.pick line).lines s.lines :=
  SameSettings.setAt _ _ _

/-- What an idle arbiter's chance to pick leaves of what the line is doing. -/
def State.idlePick (s : State) (line : Line) : Transmit :=
  if (s.lineAt line).transmit = .idle then s.pickFor line else (s.lineAt line).transmit

theorem State.pickIfIdle_lineAt (s : State) (line : Line) :
    (s.pickIfIdle line).lineAt line = { s.lineAt line with transmit := s.idlePick line } := by
  unfold State.pickIfIdle State.idlePick
  split
  · exact s.pick_lineAt line
  · rfl

theorem State.pickIfIdle_lineAt_other (s : State) (line : Line) :
    (s.pickIfIdle line).lineAt line.other = s.lineAt line.other := by
  unfold State.pickIfIdle
  split
  · exact s.pick_lineAt_other line
  · rfl

theorem State.pickIfIdle_settings (s : State) (line : Line) : SameSettings (s.pickIfIdle line).lines s.lines := by
  unfold State.pickIfIdle
  split
  · exact s.pick_settings line
  · exact .rfl' _

/-- One line's pick is no matter to the other line's. -/
theorem State.pickFor_pickIfIdle_other (s : State) (line : Line) :
    (s.pickIfIdle line.other).pickFor line = s.pickFor line := by
  have settings := s.pickIfIdle_settings line.other
  have other := s.pickIfIdle_lineAt line.other
  have own := s.pickIfIdle_lineAt_other line.other
  rw [Line.other_other] at own
  exact State.pickFor_congr settings.mode settings.limit (by simp) (by simp only [State.feeding, other]) (by rw [own])

theorem State.idlePick_pickIfIdle_other (s : State) (line : Line) :
    (s.pickIfIdle line.other).idlePick line = s.idlePick line := by
  have own := s.pickIfIdle_lineAt_other line.other
  rw [Line.other_other] at own
  unfold State.idlePick
  rw [s.pickFor_pickIfIdle_other, own]

/-- Both lines' chances to pick, one after the other. -/
theorem State.pickBoth_lineAt (s : State) (line : Line) :
    ((s.pickIfIdle .north).pickIfIdle .south).lineAt line = { s.lineAt line with transmit := s.idlePick line } := by
  cases line with
  | north =>
    rw [show (Line.north) = Line.south.other from rfl, State.pickIfIdle_lineAt_other, show Line.south.other = .north from rfl,
      State.pickIfIdle_lineAt]
  | south =>
    have own : (s.pickIfIdle .north).lineAt .south = s.lineAt .south := s.pickIfIdle_lineAt_other .north
    have pick : (s.pickIfIdle .north).idlePick .south = s.idlePick .south := s.idlePick_pickIfIdle_other .south
    rw [State.pickIfIdle_lineAt, own, pick]

theorem State.pickBoth_settings (s : State) :
    SameSettings ((s.pickIfIdle .north).pickIfIdle .south).lines s.lines :=
  (State.pickIfIdle_settings _ _).trans (State.pickIfIdle_settings _ _)

end Sys2Proof.Machine
end

section
/-! The FULL and the WARM reset (R10, R17, R22, R35, R134, R171, R172): what the start of a FULL reset makes of the lines, what a
WARM reset keeps and clears, and the hold of a RESET. -/

namespace Sys2Proof.Machine

/-! ### The start of a FULL reset -/

/-- Every block but the line pair at its FULL value, the line pair as it enters boot BYPASS, before the arbiters pick. -/
def State.fullValues (s : State) : State := { s with
  clock := s.clock.full
  pulse := .initial s.pulse.pinHigh
  lines := s.lines.full s.clock.osc
  cls := .initial
  exch := .initial
  servo := .initial
  south := .initial s.clock.osc
  dater := s.dater.full
  mon := .initial
  rep := .initial
  agent := .initial s.straps }

theorem State.startFull_eq (s : State) : s.startFull = (s.fullValues.pickIfIdle .north).pickIfIdle .south := rfl

theorem State.fullValues_lineAt (s : State) (line : Line) : s.fullValues.lineAt line = (s.lineAt line).full s.clock.osc := by
  cases line <;> rfl

theorem Passage.meetFull_consumer (p : Passage) (osc : Nat) : (p.meetFull osc).consumer.isNone = p.consumer.isNone := by
  unfold Passage.meetFull
  split
  · rfl
  · split
    · rename_i consumed
      obtain ⟨c, taken⟩ := Option.isSome_iff_exists.mp consumed
      simp [taken]
    · rfl

/-- A passing frame is ready in boot BYPASS where it has not begun to leave (R25). -/
theorem Passage.meetFull_ready {p : Passage} (passing : p.consumer.isNone = true) (osc : Nat) :
    (p.meetFull osc).ready = p.departedAt.isNone := by
  rw [Option.isNone_iff_eq_none] at passing
  cases departed : p.departedAt with
  | none => simp [Passage.meetFull, Passage.ready, Passage.toBypass, departed, passing]
  | some t => simp [Passage.meetFull, Passage.ready, departed]

theorem oldestPassing_meetFull (l : List Passage) (osc : Nat) :
    oldestPassing (l.map (·.meetFull osc)) = (oldestPassing l).map (·.meetFull osc) := by
  simp only [oldestPassing, List.find?_map, Function.comp_def, Passage.meetFull_consumer]

/-- What a line picks in boot BYPASS at the start of a FULL reset (R33, R35). -/
theorem State.fullValues_pickFor (s : State) (line : Line) :
    s.fullValues.pickFor line =
      match (s.lineAt line.other).buffer.find? fun p => p.consumer.isNone with
      | some p => if p.departedAt = none then .pickedPassing else .idle
      | none => .idle := by
  have boot : s.fullValues.lines.mode ≠ .active := by simp [State.fullValues, LinePair.full, LinePair.initial]
  have fed : s.fullValues.feeding line = (s.lineAt line.other).buffer.map (·.meetFull s.clock.osc) := by
    rw [State.feeding, State.fullValues_lineAt]; rfl
  rw [State.pickFor_of_passing (.inl boot), State.passingPick, fed, oldestPassing_meetFull]
  simp only [oldestPassing]
  cases found : (s.lineAt line.other).buffer.find? fun p => p.consumer.isNone with
  | none => rfl
  | some p =>
    have passing := List.find?_some found
    simp only [Option.map_some, Passage.meetFull_ready passing, Option.isNone_iff_eq_none]

/-- What a line is doing once a FULL reset has started (R35). -/
theorem State.fullValues_idlePick (s : State) (line : Line) :
    s.fullValues.idlePick line =
      if (s.lineAt line).transmit = .idle ∨ (s.lineAt line).departing = true then
        match (s.lineAt line.other).buffer.find? fun p => p.consumer.isNone with
        | some p => if p.departedAt = none then .pickedPassing else .idle
        | none => .idle
      else (s.lineAt line).transmit := by
  unfold State.idlePick
  rw [State.fullValues_pickFor, State.fullValues_lineAt]
  have transmit : ((s.lineAt line).full s.clock.osc).transmit =
      if (s.lineAt line).departing then .idle else (s.lineAt line).transmit := rfl
  rw [transmit]
  by_cases departing : (s.lineAt line).departing = true
  · simp [departing]
  · simp [departing]

theorem State.startFull_lineAt (s : State) (line : Line) : s.startFull.lineAt line =
    { (s.lineAt line).full s.clock.osc with transmit := s.fullValues.idlePick line } := by
  rw [State.startFull_eq, State.pickBoth_lineAt, State.fullValues_lineAt]

theorem State.startFull_settings (s : State) : SameSettings s.startFull.lines .initial :=
  (State.pickBoth_settings s.fullValues).trans ⟨rfl, rfl, rfl, rfl, rfl⟩

/-- The blocks apart from the line pair at the start of a FULL reset. -/
theorem State.startFull_blocks (s : State) :
    s.startFull.pending = s.pending ∧ s.startFull.supplyGood = s.supplyGood ∧ s.startFull.straps = s.straps ∧
      s.startFull.free = s.free ∧ s.startFull.clock = s.clock.full ∧ s.startFull.pulse = .initial s.pulse.pinHigh ∧
      s.startFull.cls = .initial ∧ s.startFull.exch = .initial ∧ s.startFull.servo = .initial ∧
      s.startFull.south = .initial s.clock.osc ∧ s.startFull.dater = s.dater.full ∧ s.startFull.mon = .initial ∧
      s.startFull.rep = .initial ∧ s.startFull.agent = .initial s.straps := by
  simp [State.startFull_eq, State.fullValues]

/-- An assertion of the pin that qualifies starts the FULL reset, and the pin holds it (R172). -/
theorem State.assertPin_starts {s : State} (phase : s.phase = .running) {heldNs : Nat} (h : s.pinQualifies heldNs = true) :
    s.assertPin heldNs = { (s.spendFree heldNs).startFull with phase := .pinReset, resetPin := true } := by
  simp [State.assertPin, phase, h]

theorem State.assertPin_ignored {s : State} (phase : s.phase = .running) {heldNs : Nat} (h : s.pinQualifies heldNs = false) :
    s.assertPin heldNs = s.spendFree heldNs := by
  simp [State.assertPin, phase, h]

theorem State.spendFree_eq (s : State) (heldNs : Nat) :
    s.spendFree heldNs = { s with free := if 1000 ≤ heldNs ∧ heldNs < 10000 then s.free + 1 else s.free } := by
  unfold State.spendFree; split <;> rfl

/-! ### A WARM reset -/

/-- Discarding records at a WARM reset changes the streams and the count of the lost records alone. -/
theorem Dater.foldl_discard_frame (l : List DateRecord) (d : Dater) :
    l.foldl Dater.discard d = { d with
      streams := (l.foldl Dater.discard d).streams, lostRecord := (l.foldl Dater.discard d).lostRecord } := by
  induction l generalizing d with
  | nil => rfl
  | cons r l ih => rw [List.foldl_cons, ih]; rfl

theorem Dater.foldl_discard_lostRecord {l : List DateRecord} (some : l ≠ []) (d : Dater) :
    (l.foldl Dater.discard d).lostRecord = min 65535 (d.lostRecord + l.length) := by
  induction l generalizing d with
  | nil => exact absurd rfl some
  | cons r l ih =>
    have counted : (d.discard r).lostRecord = min 65535 (d.lostRecord + 1) := rfl
    rw [List.foldl_cons]
    by_cases last : l = []
    · subst last; exact counted
    · rw [ih last, counted, List.length_cons]; omega

/-- What one discarded record does to the stream at an index: where it is of the stream as it now runs, its loss and the loss it
carried go to the pending gap count. -/
theorem Dater.discard_stream (d : Dater) (r : DateRecord) {k : Nat} (h : k < d.streams.length) :
    (d.discard r).stream k =
      if r.stream = k ∧ r.beginning = (d.stream k).beginning then
        { d.stream k with gap := (d.stream k).gap + (1 + r.gap) }
      else d.stream k := by
  have same : (d.discard r).stream k = if r.stream = k then
      (if (d.stream k).beginning = r.beginning then { d.stream k with gap := (d.stream k).gap + 1 + r.gap } else d.stream k)
      else d.stream k := by
    simp only [Dater.stream, Dater.discard, List.getD_eq_getElem?_getD, List.getElem?_modify, List.getElem?_eq_getElem h]
    split <;> rfl
  rw [same]
  by_cases here : r.stream = k
  · by_cases begun : r.beginning = (d.stream k).beginning
    · simp [here, begun, BitVec.add_assoc]
    · simp [here, begun, eq_comm]
  · simp [here]

/-- The losses that some records carry to a stream as it has run since a beginning. -/
def lossesOf (k beginning : Nat) (l : List DateRecord) : BitVec 32 :=
  ((l.filter fun r => r.stream == k && r.beginning == beginning).map fun r => 1 + r.gap).sum

theorem lossesOf_cons (k beginning : Nat) (r : DateRecord) (l : List DateRecord) :
    lossesOf k beginning (r :: l) =
      (if r.stream = k ∧ r.beginning = beginning then 1 + r.gap else 0) + lossesOf k beginning l := by
  unfold lossesOf
  by_cases own : r.stream = k ∧ r.beginning = beginning
  · simp [own]
  · rw [List.filter_cons_of_neg (by simpa using own), if_neg own]
    simp

theorem Dater.foldl_discard_stream (l : List DateRecord) (d : Dater) {k : Nat} (h : k < d.streams.length) :
    (l.foldl Dater.discard d).stream k =
      { d.stream k with gap := (d.stream k).gap + lossesOf k (d.stream k).beginning l } := by
  induction l generalizing d with
  | nil => simp [lossesOf]
  | cons r l ih =>
    have length : (d.discard r).streams.length = d.streams.length := by simp [Dater.discard]
    rw [List.foldl_cons, ih _ (length ▸ h), d.discard_stream r h, lossesOf_cons]
    split <;> simp [BitVec.add_assoc]

theorem Dater.warm_stream (d : Dater) {k : Nat} (h : k < d.streams.length) :
    d.warm.stream k =
      { d.stream k with
        gap := (d.stream k).gap + ((d.recordsOf k).map fun r => 1 + r.gap).sum, armed := true } := by
  have length := Dater.foldl_discard_length d.queue d
  have armed : d.warm.stream k = { (d.queue.foldl Dater.discard d).stream k with armed := true } := by
    simp only [Dater.stream, Dater.warm, List.getD_eq_getElem?_getD, List.getElem?_map,
      List.getElem?_eq_getElem (length.symm ▸ h), Option.map_some, Option.getD_some]
  rw [armed, Dater.foldl_discard_stream _ _ h]
  rfl

theorem Dater.warm_lostRecord (d : Dater) :
    d.warm.lostRecord = if d.queue = [] then d.lostRecord else min 65535 (d.lostRecord + d.queue.length) := by
  have folded : d.warm.lostRecord = (d.queue.foldl Dater.discard d).lostRecord := rfl
  rw [folded]
  split
  · rename_i none; rw [none]; rfl
  · rename_i some; exact Dater.foldl_discard_lostRecord some d

theorem Dater.warm_eq (d : Dater) :
    d.warm = { d with streams := d.warm.streams, queue := [], lostRecord := d.warm.lostRecord } := by
  have frame := Dater.foldl_discard_frame d.queue d
  unfold Dater.warm
  rw [frame]

theorem State.warmReset_supply (s : State) :
    s.warmReset.phase = s.phase ∧ s.warmReset.supplyGood = s.supplyGood ∧ s.warmReset.resetPin = s.resetPin ∧
      s.warmReset.straps = s.straps := by simp [State.warmReset, State.startTimers]

/-! ### The hold of a RESET -/

theorem exec_resetHoldExpiry (s : State) (straps : BitVec 6) :
    exec (.resetHoldExpiry straps) s = .next (s.takeIf s.resetHoldDue fun t => t.endHold straps) := rfl

theorem exec_reset (s : State) (dt : Nat) (full : Bool) :
    exec (if full then .resetFull dt else .resetWarm dt) s = .next ((s.runBy dt).carryReset full) := by
  cases full <;> rfl

theorem State.carryReset_item {s : State} {r : Request} {full : Bool}
    (item : s.currentItem = some (r, if full then .resetFull else .resetWarm)) :
    s.carryReset full = s.respondReset r full := by
  simp [State.carryReset, item]

theorem State.respondReset_joins {s : State} {r : Request} (place : s.hasPlace r.line = true) (full : Bool) :
    s.respondReset r full =
      (s.join r.line { s.response r .ok [{ status := .ok, content := [] }] with resetResponse := true }).setAgent
        { s.agent.endHandling with hold := some { full := full, offeredAt := s.clock.runCounter, released := false } } := by
  simp [State.respondReset, State.offerResponse, place]

theorem State.respondReset_drops {s : State} {r : Request} (place : s.hasPlace r.line = false) (full : Bool) :
    s.respondReset r full = s.setAgent
      { s.agent.endHandling with
        hold := some { full := full, offeredAt := s.clock.runCounter, released := true }
        responseDropped := min 65535 (s.agent.responseDropped + 1) } := by
  simp [State.respondReset, State.offerResponse, place, Agent.endHandling, count16, satIncr]

theorem State.resetHoldDue_iff {s : State} {h : ResetHold} (hold : s.agent.hold = some h) :
    s.resetHoldDue = true ↔ h.released = true ∨ 10 ≤ (s.clock.runCounter - h.offeredAt).toNat := by
  simp [State.resetHoldDue, hold]

end Sys2Proof.Machine

section

open Sys2Proof Sys2Proof.Machine

/-- Settles O11: the FULL values by the definition of each block's, and the lines by what an arbiter picks in boot BYPASS. -/
theorem resetPinStartsAFullReset : Obligations.ResetPinStartsAFullReset := by
  intro s dt heldNs phase u started
  have running : u.phase = .running := phase
  have asserted : exec (.resetPinAssert dt heldNs) s = .next (u.assertPin heldNs) := exec_resetPinAssert s dt heldNs
  have starts : ∀ n, started { ({ u with free := n } : State).startFull with phase := .pinReset, resetPin := true } := by
    intro n
    obtain ⟨pending, supply, straps, -, clock, pulse, cls, exch, servo, south, dater, mon, rep, agent⟩ :=
      State.startFull_blocks { u with free := n }
    obtain ⟨mode, limit, correction, timing, management⟩ := State.startFull_settings { u with free := n }
    refine ⟨rfl, rfl, supply, straps, pending, mode, limit, correction, timing, management, fun line => ?_, clock, pulse, cls,
      exch, servo, south, mon, rep, agent, dater⟩
    have standing : ({ ({ u with free := n } : State).startFull with phase := .pinReset, resetPin := true } : State).lineAt line =
        { (u.lineAt line).full u.clock.osc with transmit := State.idlePick (State.fullValues { u with free := n }) line } :=
      State.startFull_lineAt { u with free := n } line
    rw [standing]
    exact ⟨rfl, rfl, rfl, rfl, rfl, rfl, rfl, State.fullValues_idlePick { u with free := n } line⟩
  refine ⟨fun long => ?_, fun short => ?_, fun low high => ?_⟩
  · have qualifies : u.pinQualifies heldNs = true := by
      simp [State.pinQualifies, long, Nat.not_lt.mpr (Nat.le_trans (by omega : 1000 ≤ 10000) long)]
    refine ⟨_, asserted.trans (congrArg Host.Outcome.next (State.assertPin_starts running qualifies)), ?_⟩
    rw [State.spendFree_eq, if_neg (by omega)]
    exact ⟨starts u.free, (State.startFull_blocks u).2.2.2.1⟩
  · have ignored : u.pinQualifies heldNs = false := by simp [State.pinQualifies, short]
    rw [asserted, State.assertPin_ignored running ignored, State.spendFree_eq, if_neg (by omega)]
  · cases qualifies : u.pinQualifies heldNs with
    | true =>
      refine ⟨_, asserted.trans (congrArg Host.Outcome.next (State.assertPin_starts running qualifies)), ?_⟩
      rw [State.spendFree_eq, if_pos ⟨low, high⟩]
      exact ⟨(State.startFull_blocks _).2.2.2.1, .inr (starts _)⟩
    | false =>
      refine ⟨_, asserted.trans (congrArg Host.Outcome.next (State.assertPin_ignored running qualifies)), ?_⟩
      rw [State.spendFree_eq, if_pos ⟨low, high⟩]
      exact ⟨rfl, .inl rfl⟩

/-- Settles O13: the answer by whether the line has a place, the end of the hold by when it is due. -/
theorem resetIsAnsweredThenHeldThenMade : Obligations.ResetIsAnsweredThenHeldThenMade := by
  refine ⟨fun s dt r full item => ?_, fun s straps h phase hold => ⟨fun due => ?_, fun kept early => ?_⟩⟩
  · intro u answer hold
    rw [exec_reset, State.carryReset_item (s := s.runBy dt) item]
    split
    · rename_i place
      exact congrArg Host.Outcome.next (State.respondReset_joins (s := u) place full)
    · rename_i place
      exact congrArg Host.Outcome.next (State.respondReset_drops (s := u) (Bool.not_eq_true _ ▸ place) full)
  · rw [exec_resetHoldExpiry, State.takeIf_of_due s _ _ phase ((State.resetHoldDue_iff hold).mpr due)]
    simp [State.endHold, hold]
  · rw [exec_resetHoldExpiry]
    have waits : ¬(s.phase = .running ∧ s.resetHoldDue = true) := fun both => by
      rcases (State.resetHoldDue_iff hold).mp both.2 with released | late
      · simp [kept] at released
      · omega
    rw [State.takeIf, if_neg waits]

/-- Settles O14, block by block; the dater's gap counts by induction over the records that are discarded. -/
theorem warmResetKeepsAndClears : Obligations.WarmResetKeepsAndClears := by
  intro s t v state holds counted
  have dater : t.dater = s.dater.warm := rfl
  have gap : (s.rep.dateGap || !s.dater.queue.isEmpty) = if s.dater.queue = [] then s.rep.dateGap else true := by
    cases s.dater.queue <;> simp
  refine ⟨?_, ?_, ?_, fun line => ?_, ?_, ?_, ?_, ?_, ?_, ?_, ?_, fun k h => ?_, ?_, ?_, ?_⟩
  · exact s.warmReset_supply
  · rfl
  · rfl
  · cases line <;> rfl
  · rfl
  · rfl
  · rfl
  · rfl
  · rfl
  · rw [dater]; exact s.dater.warm_eq
  · rw [dater]; exact s.dater.warm_lostRecord
  · rw [dater, s.dater.warm_stream h]
    exact ⟨rfl, rfl, rfl, rfl, rfl⟩
  · rfl
  · rw [← gap]; rfl
  · rfl

end
end

section
/-! U and the own class as they are read from the servo (R82 to R84, R103). -/

namespace Sys2Proof.Machine

theorem Servo.uncertainty_locked {v : Servo} (state : v.state = .locked) : v.uncertainty = v.lockedU := by
  simp [Servo.uncertainty, state]

theorem Servo.uncertainty_held {v : Servo} (form : v.state = .holdover ∨ (v.state = .acquire ∧ v.memory = true)) :
    v.uncertainty = v.heldU := by
  rcases form with state | ⟨state, memory⟩ <;> simp [Servo.uncertainty, *]

theorem Servo.uncertainty_unbounded {v : Servo} (form : v.state = .free ∨ (v.state = .acquire ∧ v.memory = false)) :
    v.uncertainty = uUnbounded := by
  rcases form with state | ⟨state, memory⟩ <;> simp [Servo.uncertainty, *]

/-- The servo reads U in one of its three forms. -/
theorem Servo.form_cases (v : Servo) :
    v.state = .locked ∨ (v.state = .holdover ∨ (v.state = .acquire ∧ v.memory = true)) ∨
      (v.state = .free ∨ (v.state = .acquire ∧ v.memory = false)) := by
  cases v.state <;> cases v.memory <;> simp

theorem Servo.heldU_le (v : Servo) : v.heldU ≤ uCeiling := Nat.min_le_left _ _

theorem Servo.heldU_eq {v : Servo} {entry : Nat} {th : BitVec 48} (entryU : v.entryU = some entry)
    (time : v.holdTime = some th) :
    v.heldU = min 4294967294 (entry + (v.holdBound * th.toNat / 1000000 +
      (if v.holdBound * th.toNat % 1000000 = 0 then 0 else 1))) := by
  simp [Servo.heldU, entryU, time, uCeiling, ceilDiv]

/-- Where the locked form is within the ceiling, U is unbounded in FREE and in ACQUIRE without memory alone. -/
theorem Servo.uncertainty_bounds {v : Servo} (locked : v.lockedU ≤ uCeiling) :
    (v.uncertainty = uUnbounded ↔ v.state = .free ∨ (v.state = .acquire ∧ v.memory = false)) ∧
      (v.uncertainty ≠ uUnbounded → v.uncertainty ≤ uCeiling) := by
  have below : uCeiling < uUnbounded := by decide
  rcases v.form_cases with state | form | form
  · rw [Servo.uncertainty_locked state]
    exact ⟨⟨fun e => absurd locked (by omega), fun other => by simp [state] at other⟩, fun _ => locked⟩
  · rw [Servo.uncertainty_held form]
    have held := v.heldU_le
    refine ⟨⟨fun e => absurd held (by omega), fun other => ?_⟩, fun _ => held⟩
    rcases form with state | ⟨state, memory⟩ <;> simp [*] at other
  · rw [Servo.uncertainty_unbounded form]
    exact ⟨⟨fun _ => form, fun _ => rfl⟩, fun ne => absurd rfl ne⟩

theorem lockedForm_eq (x : Sample) :
    lockedForm x = min 4294967294 (x.leaderU +
      (x.theta.natAbs / 65536 + (if x.theta.natAbs % 65536 = 0 then 0 else 1)) +
      (x.delay / 524288 + (if x.delay % 524288 = 0 then 0 else 1)) + 4) := rfl

end Sys2Proof.Machine

section

open Sys2Proof Sys2Proof.Machine

/-- Settles O9: U by its three forms, each within the ceiling but the unbounded one, and the own class by the state. -/
theorem unboundedExactlyInFreeOrAcquireWithoutMemory : Obligations.UnboundedExactlyInFreeOrAcquireWithoutMemory := by
  refine ⟨fun s figures => ?_, lockedForm_eq, ?_⟩
  · obtain ⟨-, -, -, -, -, -, locked⟩ := figures
    exact Servo.uncertainty_bounds locked
  · intro s v
    refine ⟨Servo.uncertainty_locked, ?_, ?_, ?_, ?_, ?_, ?_⟩
    · intro entry th form entryU time grown
      rw [Servo.uncertainty_held form, Servo.heldU_eq entryU time, Nat.add_assoc]
    · intro c state active leader
      simp only [State.ownClass, v] at *
      simp [state, active, leader]
    · intro state active
      simp only [State.ownClass, v] at *
      simp [state, active]
    all_goals
      intro state
      simp only [State.ownClass, v] at *
      simp [state]

end
end

section
/-! The timescale (R1, R2, R4, R6 to R9, R104): running is exact and additive, what cuts a running short, the second boundary,
the tick, and what a step does to each block. -/

namespace Sys2Proof.Machine

/-! ### Running (R1, R2) -/

/-- Two additions carried one after the other are one addition carried. -/
theorem carry_twice (x y p : Nat) (pos : 0 < p) : (x + y) / p = x / p + (x % p + y) / p := by
  have parts : x + y = x % p + y + p * (x / p) := by have := Nat.mod_add_div x p; omega
  rw [parts, Nat.add_mul_div_left _ _ pos, Nat.add_comm]

theorem Clock.rateFactor_cast {c : Clock} (rate : -1000000000000 ≤ c.rateA) :
    (c.rateFactor : Int) = 1000000000000 + c.rateA := by unfold Clock.rateFactor; omega

/-- The value and what is below a fine unit, as one count that carries at the range. -/
theorem Clock.advance_total (c : Clock) (a : Nat) :
    (c.advance a).value * 1000000000000 + (c.advance a).remainder =
      (c.value * 1000000000000 + c.total a) % (timescaleRange * 1000000000000) := by
  have split := Nat.mod_mul (x := c.value * 1000000000000 + c.total a) (a := 1000000000000) (b := timescaleRange)
  rw [Nat.mul_comm 1000000000000 timescaleRange] at split
  rw [split, Nat.mul_add_mod_self_right, Nat.add_comm (c.value * _) (c.total a),
    Nat.add_mul_div_right _ _ (by decide), Nat.add_comm (c.total a / _) c.value]
  simp only [Clock.advance, Clock.gain]
  omega

theorem Clock.total_add (c : Clock) (a b : Nat) : c.total (a + b) = c.total a + b * c.rateFactor := by
  simp only [Clock.total, Nat.add_mul, Nat.add_assoc]

theorem Clock.advance_add (c : Clock) (a b : Nat) : c.advance (a + b) = (c.advance a).advance b := by
  have total : (c.advance a).total b = c.total a % 1000000000000 + b * c.rateFactor := rfl
  have gain : c.gain (a + b) = c.gain a + (c.advance a).gain b := by
    simp only [Clock.gain, total, Clock.total_add]
    exact carry_twice _ _ _ (by decide)
  have value : (c.advance (a + b)).value = ((c.advance a).advance b).value := by
    simp only [Clock.advance] at gain ⊢
    rw [gain, ← Nat.add_assoc, ← Nat.mod_add_mod]
  have remainder : (c.advance (a + b)).remainder = ((c.advance a).advance b).remainder := by
    change c.total (a + b) % 1000000000000 = (c.advance a).total b % 1000000000000
    rw [total, Clock.total_add, Nat.mod_add_mod]
  have osc : (c.advance (a + b)).osc = ((c.advance a).advance b).osc := (Nat.add_assoc _ _ _).symm
  unfold Clock.advance at *
  simp only [Clock.mk.injEq]
  exact ⟨value, remainder, trivial, trivial, trivial, osc, trivial⟩

/-! ### How far time may run (log entry 1) -/

theorem le_foldl_min (l : List Nat) (a n : Nat) : n ≤ l.foldl min a ↔ n ≤ a ∧ ∀ d ∈ l, n ≤ d := by
  induction l generalizing a with
  | nil => simp
  | cons d l ih => rw [List.foldl_cons, ih, le_min_iff]; simp [and_assoc]

theorem forall_dueNow (due : Bool) (n : Nat) : (∀ d ∈ dueNow due, n ≤ d) ↔ (due = true → n = 0) := by
  cases due <;> simp [dueNow]

theorem lt_ceilDiv {x f m : Nat} (pos : 0 < f) : m < ceilDiv x f ↔ m * f < x := by
  unfold ceilDiv
  have parts := Nat.div_add_mod x f
  have small := Nat.mod_lt x pos
  constructor
  · intro below
    split at below
    · rename_i exact_
      have := Nat.mul_le_mul_right f (Nat.succ_le_of_lt below)
      rw [Nat.add_zero, Nat.mul_comm (x / f)] at this
      rw [Nat.succ_mul] at this
      omega
    · rename_i short
      have := Nat.mul_le_mul_right f (Nat.le_of_lt_succ below)
      rw [Nat.mul_comm (x / f)] at this
      omega
  · intro below
    by_contra beyond
    have reach : x ≤ (x / f + if x % f = 0 then 0 else 1) * f := by
      rw [Nat.add_mul, Nat.mul_comm (x / f)]
      split <;> omega
    have := Nat.mul_le_mul_right f (Nat.not_lt.mp beyond)
    omega

theorem Clock.rateFactor_pos {c : Clock} (rate : -1000000000000 < c.rateA) : 0 < c.rateFactor := by
  unfold Clock.rateFactor; omega

/-- Before the time for a gain the timescale has gained less. -/
theorem Clock.lt_timeFor_iff {c : Clock} (rate : -1000000000000 < c.rateA) (x m : Nat) :
    m < c.timeFor x ↔ c.gain m < x := by
  unfold Clock.timeFor Clock.gain Clock.total
  rw [lt_ceilDiv (Clock.rateFactor_pos rate), Nat.div_lt_iff_lt_mul (by decide)]
  omega

theorem Clock.le_timeFor_iff {c : Clock} (rate : -1000000000000 < c.rateA) (x n : Nat) :
    n ≤ c.timeFor x ↔ ∀ m, m < n → c.gain m < x := by
  constructor
  · intro within m below
    exact (Clock.lt_timeFor_iff rate x m).mp (by omega)
  · intro short
    by_contra beyond
    have := (Clock.lt_timeFor_iff rate x _).mpr (short (c.timeFor x) (by omega))
    omega

theorem fuPerSecond_pos : 0 < fuPerSecond := by decide

/-- Time stops short of the second boundary. -/
theorem Clock.le_boundaryIn_iff {c : Clock} (remainder : c.remainder < 1000000000000) (rate : -1000000000000 < c.rateA)
    (n : Nat) : n ≤ c.boundaryIn - 1 ↔ c.gain n < fuPerSecond - c.value % fuPerSecond := by
  have need : 0 < fuPerSecond - c.value % fuPerSecond := Nat.sub_pos_of_lt (Nat.mod_lt _ fuPerSecond_pos)
  have ahead : 0 < c.boundaryIn := by
    refine (Clock.lt_timeFor_iff rate _ 0).mpr ?_
    have none : c.gain 0 = 0 := by simp [Clock.gain, Clock.total, Nat.div_eq_of_lt remainder]
    omega
  rw [← Clock.lt_timeFor_iff rate]
  change n ≤ c.boundaryIn - 1 ↔ n < c.boundaryIn
  omega

theorem LineState.departing_iff (l : LineState) :
    l.departing = true ↔ l.transmit = .pickedPassing ∨ ∃ k, l.transmit = .pickedOwn k := by
  unfold LineState.departing
  cases l.transmit <;> simp

theorem Servo.holdForm_iff (v : Servo) :
    v.holdForm = true ↔ v.state = .holdover ∨ (v.state = .acquire ∧ v.memory = true) := by simp [Servo.holdForm]

theorem ceilDiv_million (n : Nat) : ceilDiv n 1000000 = (n + 999999) / 1000000 := by
  unfold ceilDiv; split <;> omega

theorem Servo.heldU_eq_ceiling_iff (v : Servo) :
    v.heldU = uCeiling ↔
      4294967294 ≤ v.entryU.getD 0 + (v.holdBound * (v.holdTime.getD 0).toNat + 999999) / 1000000 := by
  rw [Servo.heldU, ceilDiv_million, uCeiling, min_eq_left_iff]

/-- Some expiry of the timers that are kept in milliseconds is due. -/
def State.expiryDue (s : State) : Prop :=
  (s.lines.mode = .boot ∧ 2 ≤ s.clock.runCounter.toNat) ∨ s.exch.queryIn = some 0 ∨
  (∃ seq t1 expiry, s.exch.record = .opened seq t1 expiry ∧ (s.clock.runCounter - expiry).toNat < 2 ^ 31) ∨
  (s.exch.liveP = true ∧ ∃ e, s.exch.pulseExpiry = some e ∧ (s.clock.runCounter - e).toNat < 2 ^ 31) ∨
  ((s.servo.state = .holdover ∨ (s.servo.state = .acquire ∧ s.servo.memory = true)) ∧
    (s.servo.holdoverLimit * 1000 ≤ (s.servo.holdTime.getD 0).toNat ∨
      4294967294 ≤ s.servo.entryU.getD 0 + (s.servo.holdBound * (s.servo.holdTime.getD 0).toNat + 999999) / 1000000)) ∨
  s.servo.revertIn = some 0 ∨ s.mon.evalIn = 0 ∨ s.rep.summaryIn = some 0 ∨
  ∃ h, s.agent.hold = some h ∧ (h.released = true ∨ 10 ≤ (s.clock.runCounter - h.offeredAt).toNat)

theorem State.replyWindowDue_iff (s : State) : s.replyWindowDue = true ↔
    ∃ seq t1 expiry, s.exch.record = .opened seq t1 expiry ∧ (s.clock.runCounter - expiry).toNat < 2 ^ 31 := by
  unfold State.replyWindowDue
  cases s.exch.record <;> simp [readingReached]

theorem State.pulseLivenessDue_iff (s : State) : s.pulseLivenessDue = true ↔
    s.exch.liveP = true ∧ ∃ e, s.exch.pulseExpiry = some e ∧ (s.clock.runCounter - e).toNat < 2 ^ 31 := by
  unfold State.pulseLivenessDue
  cases s.exch.pulseExpiry <;> simp [readingReached]

theorem State.resetHoldDue_iff_exists (s : State) : s.resetHoldDue = true ↔
    ∃ h, s.agent.hold = some h ∧ (h.released = true ∨ 10 ≤ (s.clock.runCounter - h.offeredAt).toNat) := by
  unfold State.resetHoldDue
  cases s.agent.hold <;> simp

theorem State.holdoverEnd_iff (s : State) : (s.holdoverLimitDue = true ∨ s.ceilingDue = true) ↔
    (s.servo.state = .holdover ∨ (s.servo.state = .acquire ∧ s.servo.memory = true)) ∧
      (s.servo.holdoverLimit * 1000 ≤ (s.servo.holdTime.getD 0).toNat ∨
        4294967294 ≤ s.servo.entryU.getD 0 + (s.servo.holdBound * (s.servo.holdTime.getD 0).toNat + 999999) / 1000000) := by
  rw [← Servo.holdForm_iff, ← Servo.heldU_eq_ceiling_iff]
  simp only [State.holdoverLimitDue, State.ceilingDue, Bool.and_eq_true, decide_eq_true_eq, beq_iff_eq]
  tauto

theorem State.expiryDue_iff (s : State) : s.expiryDue ↔
    s.bootWindowDue = true ∨ s.queryTimerDue = true ∨ s.replyWindowDue = true ∨ s.pulseLivenessDue = true ∨
      (s.holdoverLimitDue = true ∨ s.ceilingDue = true) ∨ s.revertDue = true ∨ s.evaluationDue = true ∨
      s.summaryDue = true ∨ s.resetHoldDue = true := by
  rw [State.replyWindowDue_iff, State.pulseLivenessDue_iff, State.holdoverEnd_iff, State.resetHoldDue_iff_exists]
  simp only [State.expiryDue, State.bootWindowDue, State.queryTimerDue, State.revertDue, State.evaluationDue,
    State.summaryDue, Bool.and_eq_true, decide_eq_true_eq, beq_iff_eq]

/-- The deadlines of the timers that are kept in milliseconds are of what is due. -/
theorem State.forall_dueNow_iff (s : State) (n : Nat) :
    (∀ d ∈ dueNow s.bootWindowDue ++ dueNow s.queryTimerDue ++ dueNow s.replyWindowDue ++ dueNow s.pulseLivenessDue
      ++ dueNow s.holdoverLimitDue ++ dueNow s.ceilingDue ++ dueNow s.revertDue ++ dueNow s.evaluationDue
      ++ dueNow s.summaryDue ++ dueNow s.resetHoldDue, n ≤ d) ↔ (s.expiryDue → n = 0) := by
  simp only [State.expiryDue_iff, List.forall_mem_append, forall_dueNow, or_imp, and_assoc]

theorem State.forall_debounceIn (s : State) (n : Nat) : (∀ d ∈ s.debounceIn.toList, n ≤ d) ↔
    ∀ t, s.pulse.qualifier = .timing → s.pulse.tentative = some t → n ≤ t.endsAt - s.clock.osc := by
  unfold State.debounceIn
  cases s.pulse.qualifier <;> cases s.pulse.tentative <;> simp

theorem State.forall_latencyIn (s : State) (n : Nat) : (∀ d ∈ s.latencyIn.toList, n ≤ d) ↔
    ∀ q rest, s.dater.queue = q :: rest → s.rep.collector ≠ 0 → s.rep.dateReportWaiting = false →
      n ≤ q.createdAt + 1000 * 65536 * s.dater.latency - s.clock.osc := by
  have unit : fuPerUs = 1000 * 65536 := rfl
  unfold State.latencyIn
  rw [unit]
  cases s.dater.queue with
  | nil => simp
  | cons q rest =>
    by_cases none : s.rep.collector = 0 <;> cases s.rep.dateReportWaiting <;> simp [none]

theorem State.forall_holdoffIn (s : State) (n : Nat) : (∀ d ∈ s.holdoffIn.toList, n ≤ d) ↔
    ∀ e rest, s.rep.notices = e :: rest → s.rep.collector ≠ 0 → s.rep.noticeWaiting = false →
      n ≤ e.createdAt + 1000000 * 65536 * s.rep.holdoff - s.clock.osc := by
  have unit : fuPerMs = 1000000 * 65536 := rfl
  unfold State.holdoffIn
  rw [unit]
  cases s.rep.notices with
  | nil => simp
  | cons e rest =>
    by_cases none : s.rep.collector = 0 <;> cases s.rep.noticeWaiting <;> simp [none]

theorem State.forall_pulseLines {s : State} (rate : -1000000000000 < s.clock.rateA) (n : Nat) :
    (∀ d ∈ (s.rep.pulseLines.map fun p => s.startTimes p ++ (s.pulseEndIn p).toList).flatten, n ≤ d) ↔
      ∀ p ∈ s.rep.pulseLines, (∀ x ∈ p.starts, ∀ m, m < n → s.clock.gain m < x) ∧
        ∀ e, p.pulseEnd = some e → n ≤ e - s.clock.osc := by
  have one : ∀ p, (∀ d ∈ s.startTimes p ++ (s.pulseEndIn p).toList, n ≤ d) ↔
      (∀ x ∈ p.starts, ∀ m, m < n → s.clock.gain m < x) ∧ ∀ e, p.pulseEnd = some e → n ≤ e - s.clock.osc := by
    intro p
    rw [List.forall_mem_append]
    refine and_congr ?_ ?_
    · simp only [State.startTimes, List.forall_mem_map, Clock.le_timeFor_iff rate]
    · simp only [State.pulseEndIn]
      cases p.pulseEnd <;> simp
  simp only [List.mem_flatten, List.mem_map]
  constructor
  · intro all p mem
    exact (one p).mp fun d at_ => all d ⟨_, ⟨p, mem, rfl⟩, at_⟩
  · rintro all d ⟨_, ⟨p, mem, rfl⟩, at_⟩
    exact (one p).mpr (all p mem) d at_

/-- How far time may run, deadline by deadline. -/
theorem State.le_slack_iff {s : State} (remainder : s.clock.remainder < 1000000000000)
    (rate : -1000000000000 < s.clock.rateA) (n : Nat) : n ≤ s.slack ↔
      s.clock.gain n < fuPerSecond - s.clock.value % fuPerSecond ∧
      (s.lines.north.departing = true ∨ s.lines.south.departing = true → n = 0) ∧
      (s.phase = .running → (s.expiryDue → n = 0) ∧ n ≤ s.tickIn ∧ n ≤ s.gradeIn ∧ (∀ d ∈ s.debounceIn.toList, n ≤ d) ∧
        (∀ d ∈ s.latencyIn.toList, n ≤ d) ∧ (∀ d ∈ s.holdoffIn.toList, n ≤ d) ∧
        ∀ d ∈ (s.rep.pulseLines.map fun p => s.startTimes p ++ (s.pulseEndIn p).toList).flatten, n ≤ d) := by
  rw [State.slack, le_foldl_min, Clock.le_boundaryIn_iff remainder rate]
  unfold State.deadlines
  rw [List.forall_mem_append, List.forall_mem_append, forall_dueNow, forall_dueNow]
  refine and_congr Iff.rfl (and_congr (by tauto) ?_)
  by_cases running : s.phase = .running
  · rw [if_pos running]
    unfold State.timerDeadlines
    rw [List.forall_mem_append, List.forall_mem_append, List.forall_mem_append, List.forall_mem_append,
      List.forall_mem_append, State.forall_dueNow_iff]
    simp only [List.forall_mem_cons, List.not_mem_nil, false_implies, implies_true, and_true, running, true_implies]
    tauto
  · simp [running]

/-! ### The boundary (R6, R7) -/

/-- Reached by running, the next second boundary stands at the timescale's value or one fine unit before it (R6, R7). -/
theorem Clock.advance_boundaryIn {c : Clock} (remainder : c.remainder < 1000000000000) (low : -200000000 ≤ c.rateA)
    (high : c.rateA ≤ 200000000) :
    (c.advance c.boundaryIn).value / fuPerSecond = (c.value / fuPerSecond + 1) % 2 ^ 48 ∧
      (c.advance c.boundaryIn).value % fuPerSecond ≤ 1 := by
  have second : fuPerSecond = 65536000000000 := rfl
  have rate : -1000000000000 < c.rateA := by omega
  obtain ⟨need, needed⟩ : ∃ need, need = fuPerSecond - c.value % fuPerSecond := ⟨_, rfl⟩
  have inside := Nat.mod_lt c.value fuPerSecond_pos
  have parts := Nat.div_add_mod c.value fuPerSecond
  -- the gain is the need, or one fine unit more
  have reached : need ≤ c.gain c.boundaryIn := by
    have := mt (Clock.lt_timeFor_iff rate need c.boundaryIn).mpr (by rw [needed]; exact Nat.lt_irrefl _)
    omega
  have ahead : 0 < c.boundaryIn := by
    refine (Clock.lt_timeFor_iff rate _ 0).mpr ?_
    have none : c.gain 0 = 0 := by simp [Clock.gain, Clock.total, Nat.div_eq_of_lt remainder]
    omega
  have short : c.gain (c.boundaryIn - 1) < need :=
    (Clock.lt_timeFor_iff rate need _).mp (by rw [needed]; change c.boundaryIn - 1 < c.boundaryIn; omega)
  have within : c.gain c.boundaryIn < need + 2 := by
    have next := c.total_add (c.boundaryIn - 1) 1
    rw [Nat.sub_add_cancel ahead] at next
    have small : c.rateFactor ≤ 1000200000000 := by unfold Clock.rateFactor; omega
    unfold Clock.gain at short ⊢
    rw [Nat.div_lt_iff_lt_mul (by decide)] at short ⊢
    omega
  obtain ⟨past, gain, most⟩ : ∃ past, c.gain c.boundaryIn = need + past ∧ past ≤ 1 :=
    ⟨c.gain c.boundaryIn - need, by omega, by omega⟩
  -- so the value stands at that second, and at most one fine unit past it
  have value : (c.advance c.boundaryIn).value =
      ((c.value / fuPerSecond + 1) % 2 ^ 48) * fuPerSecond + past := by
    have stands : c.value + c.gain c.boundaryIn = past + fuPerSecond * (c.value / fuPerSecond + 1) := by
      rw [gain, needed, Nat.mul_add]; omega
    change (c.value + c.gain c.boundaryIn) % timescaleRange = _
    rw [stands, timescaleRange, Nat.mul_comm (2 ^ 48), Nat.mod_mul, Nat.add_mul_mod_self_left,
      Nat.add_mul_div_left _ _ fuPerSecond_pos, Nat.mod_eq_of_lt (by omega : past < fuPerSecond),
      Nat.div_eq_of_lt (by omega : past < fuPerSecond), Nat.zero_add, Nat.mul_comm fuPerSecond]
    omega
  rw [value]
  refine ⟨?_, ?_⟩
  · rw [Nat.mul_comm, Nat.add_comm, Nat.add_mul_div_left _ _ fuPerSecond_pos,
      Nat.div_eq_of_lt (by omega : past < fuPerSecond), Nat.zero_add]
  · rw [Nat.mul_comm, Nat.add_comm, Nat.add_mul_mod_self_left, Nat.mod_eq_of_lt (by omega : past < fuPerSecond)]
    exact most

/-! ### What the commands of time are -/

theorem exec_runCounterTick (s : State) : exec .runCounterTick s = .next (s.takeTimed (some s.tickIn) State.tick) := rfl

theorem exec_boundaryReached (s : State) : exec .boundaryReached s = .next s.takeBoundary := rfl

theorem State.takeBoundary_first {s : State} (first : ∀ d ∈ s.deadlines, s.clock.boundaryIn ≤ d) :
    s.takeBoundary = (s.runFor s.clock.boundaryIn).reachBoundary := by
  rw [State.takeBoundary, if_pos]
  simpa using first

theorem State.runFor_cls (s : State) (dt : Nat) : (s.runFor dt).cls = s.cls := rfl

/-- At a boundary each SECOND-mode line has one more start, and a pending swap is carried out (R48, R161). -/
theorem State.reachBoundary_eq (u : State) :
    let told := u.setRep { u.rep with
      pulseLines := u.rep.pulseLines.map fun p =>
        if p.mode = .second then { p with starts := p.starts ++ [p.phase * 65536] } else p }
    u.reachBoundary = if u.cls.swapPending then told.swapBanks (u.clock.value / fuPerSecond) else told := rfl

/-! ### A step (R4, R104) -/

/-- A step's value is exact within the range, and at the nearer end beyond it. -/
theorem Clock.steppedValue_cases (c : Clock) (sigma : Int) :
    (0 ≤ c.value + sigma → c.value + sigma < timescaleRange → (c.steppedValue sigma : Int) = c.value + sigma) ∧
      ((c.value : Int) + sigma < 0 → c.steppedValue sigma = 0) ∧
      ((timescaleRange : Int) ≤ c.value + sigma → c.steppedValue sigma = timescaleRange - 1) := by
  have pos := timescaleRange_pos
  unfold Clock.steppedValue clampInt
  refine ⟨?_, ?_, ?_⟩ <;> omega

/-- The report engine's part in a step: the swap's transition, where a boundary crossed carries one out, and then the step's
own. -/
theorem State.applyStep_swaps {s : State} {sigma : Int} (source : StepSource) (pending : s.cls.swapPending = true)
    (crossed : s.clock.value / fuPerSecond < s.clock.steppedValue sigma / fuPerSecond) :
    (s.applyStep sigma source).cls = { s.cls with active := s.cls.active.other, swapPending := false } ∧
      (s.applyStep sigma source).rep =
        (s.rep.transition s.clock.osc .swap (.bank s.cls.active) (.bank s.cls.active.other)
          (.swap (s.clock.value / fuPerSecond + 1))).transition s.clock.osc .servo (.servo s.servo.condition)
            (.servo s.servo.condition)
            (.step (s.clock.appliedAmount sigma) source (s.applyStep sigma source).servo.uncertainty) := by
  rw [State.applyStep_servo]
  simp [State.applyStep, State.crossBoundaries, State.boundaryEvent, State.stepStamps, State.transition, crossed, pending,
    State.swapBanks_cls, State.swapBanks_rep]

theorem State.applyStep_without_swap {s : State} {sigma : Int} (source : StepSource)
    (none : s.cls.swapPending = false ∨ ¬s.clock.value / fuPerSecond < s.clock.steppedValue sigma / fuPerSecond) :
    (s.applyStep sigma source).cls = s.cls ∧ (s.applyStep sigma source).dater = s.dater ∧
      (s.applyStep sigma source).rep = s.rep.transition s.clock.osc .servo (.servo s.servo.condition)
        (.servo s.servo.condition)
        (.step (s.clock.appliedAmount sigma) source (s.applyStep sigma source).servo.uncertainty) := by
  rw [State.applyStep_servo]
  rcases none with pending | within
  · simp [State.applyStep, State.stepStamps, State.transition, State.crossBoundaries, State.boundaryEvent, pending]
  · simp [State.applyStep, State.stepStamps, State.transition, State.crossBoundaries, within]

theorem State.boundaryEvent_dater (s : State) (k : Nat) :
    (s.boundaryEvent k).dater.queue = s.dater.queue ∧ (s.boundaryEvent k).dater.openN = s.dater.openN ∧
      (s.boundaryEvent k).dater.openS = s.dater.openS := by
  unfold State.boundaryEvent; split
  · rw [State.swapBanks_dater, Dater.foldl_resetStream_frame]
    exact ⟨rfl, rfl, rfl⟩
  · exact ⟨rfl, rfl, rfl⟩

theorem State.applyStep_dater (s : State) (sigma : Int) (source : StepSource) :
    (s.applyStep sigma source).dater.queue = s.dater.queue ∧ (s.applyStep sigma source).dater.openN = s.dater.openN ∧
      (s.applyStep sigma source).dater.openS = s.dater.openS := by
  simp only [State.applyStep, State.crossBoundaries, State.transition_frame, State.setServo_dater, State.setMon_dater]
  split <;> simp [State.boundaryEvent_dater]

theorem State.applyStep_lineAt (s : State) (sigma : Int) (source : StepSource) (line : Line) :
    (s.applyStep sigma source).lineAt line = (s.lineAt line).shift (s.clock.appliedAmount sigma) := by
  unfold State.lineAt
  rw [State.applyStep_lines]
  cases line <;> rfl

theorem State.applyStep_applied (s : State) (sigma : Int) (source : StepSource) :
    ((s.applyStep sigma source).clock.value : Int) - s.clock.value = s.clock.appliedAmount sigma := by
  rw [State.applyStep_clock]; rfl

end Sys2Proof.Machine

section

open Sys2Proof Sys2Proof.Machine

/-- Settles O15: the carry of the two parts of the timescale together, and the slack deadline by deadline. -/
theorem runningIsExactAndAdditive : Obligations.RunningIsExactAndAdditive := by
  refine ⟨⟨rfl, rfl, rfl⟩, ?_, ?_⟩
  · intro c a b value remainder rate t
    have total := c.advance_total a
    have factor := Clock.rateFactor_cast rate
    refine ⟨?_, Nat.mod_lt _ (by decide), rfl, rfl, rfl, rfl, rfl, c.advance_add a b⟩
    have cast := congrArg (Nat.cast : Nat → Int) total
    simp only [Clock.total, Int.natCast_add, Int.natCast_mul, Int.natCast_emod, factor] at cast
    rw [← Int.add_assoc] at cast
    exact cast
  · intro s dt c v gain picked reached th due
    refine ⟨rfl, rfl, fun remainder rate n => ?_⟩
    rw [State.le_slack_iff remainder rate]
    refine and_congr Iff.rfl (and_congr ?_ (forall_congr' fun running => ?_))
    · exact imp_congr (or_congr (LineState.departing_iff _) (LineState.departing_iff _)) Iff.rfl
    · exact and_congr Iff.rfl (and_congr Iff.rfl (and_congr Iff.rfl (and_congr (s.forall_debounceIn n)
        (and_congr (s.forall_latencyIn n) (and_congr (s.forall_holdoffIn n) (State.forall_pulseLines rate n))))))

/-- Settles O16, the value by its clamp, each stamp by the shift of its record. -/
theorem stepMovesTheValueAndEveryHeldStamp : Obligations.StepMovesTheValueAndEveryHeldStamp := by
  intro s sigma source within t exact_ applied
  have amount : applied = s.clock.appliedAmount sigma := s.applyStep_applied sigma source
  have value : t.clock.value = s.clock.steppedValue sigma := by simp only [t, State.applyStep_clock]
  obtain ⟨inside, below, beyond⟩ := s.clock.steppedValue_cases sigma
  refine ⟨fun low high => ?_, fun low => value.trans (below low), fun high => value.trans (beyond high), ?_, fun line => ?_, ?_, ?_⟩
  · have stepped := inside low high
    rw [← value] at stepped
    refine ⟨stepped, ?_⟩
    simp only [applied, stepped]
    omega
  · simp only [t, State.applyStep_clock]
  · rw [amount]; simp only [t, State.applyStep_lineAt]; rfl
  · rw [amount]; simp only [t, State.applyStep_pulse]; rfl
  · rw [amount]; simp only [t, State.applyStep_south]; rfl

/-- Settles O17, block by block; the report engine by whether a pending swap is carried out. -/
theorem stepAnnouncementReachesEachBlock : Obligations.StepAnnouncementReachesEachBlock := by
  intro s sigma source t applied crossed condition stepped
  have amount : applied = s.clock.appliedAmount sigma := s.applyStep_applied sigma source
  have value : t.clock.value = s.clock.steppedValue sigma := by simp only [t, State.applyStep_clock]
  have crosses : crossed ↔ s.clock.value / fuPerSecond < s.clock.steppedValue sigma / fuPerSecond := by
    simp only [crossed, value]
  obtain ⟨queue, openN, openS⟩ := s.applyStep_dater sigma source
  refine ⟨?_, ?_, ?_, fun pending over_ => ?_, fun none => ?_, queue, openN, openS⟩
  · simp only [t, State.applyStep_exch]; rfl
  · simp only [t, State.applyStep_mon, Monitor.onStep, amount, Nat.mul_comm fuPerNs]; rfl
  · simp only [t, State.applyStep_servo, amount]; rfl
  · simp only [stepped, amount]
    exact State.applyStep_swaps source pending (crosses.mp over_)
  · simp only [stepped, amount]
    exact State.applyStep_without_swap source (none.imp id (mt crosses.mpr))

/-- Settles O18. -/
theorem tickAddsOneAndAdvancesTheMeasures : Obligations.TickAddsOneAndAdvancesTheMeasures := by
  intro s running within u
  rw [exec_runCounterTick, State.takeTimed_of_le s _ _ running within]
  rfl

/-- Settles O19: the gain to the boundary is what the second lacks, or one fine unit more. -/
theorem boundaryIsReachedByRunning : Obligations.BoundaryIsReachedByRunning := by
  intro s figures first
  obtain ⟨-, remainder, -, limit, -, rate, -⟩ := figures
  have low : -200000000 ≤ s.clock.rateA := by omega
  have high : s.clock.rateA ≤ 200000000 := by omega
  obtain ⟨second, rest⟩ := Clock.advance_boundaryIn remainder low high
  intro u k told
  refine ⟨second, rest, ?_⟩
  rw [exec_boundaryReached, State.takeBoundary_first first, State.reachBoundary_eq, State.runFor_cls]

end
end

section
/-! The pulse input (R11 to R16, R65, R66): the edges of its pin, the debounce expiry, and CAPTURE READ. -/

namespace Sys2Proof.Machine

/-- Where the item in hand is one of a row's own, the row carries it out on the state that its time has reached (R167). -/
theorem State.carryOut_runBy {s : State} {r : Request} {i : ReqItem} (item : s.currentItem = some (r, i)) (dt : Nat)
    {work : State → ReqItem → Option (State × ItemResult)} {p : State × ItemResult} (own : work (s.runBy dt) i = some p) :
    (s.runBy dt).carryOut work = p.1.finishItem r p.2 := State.carryOut_work (by simpa using item) own

/-! ### Edges (R12) -/

theorem exec_debounceExpiry (s : State) : exec .debounceExpiry s = .next (s.takeTimed s.debounceIn State.qualify) := rfl

section

variable {s : State}

theorem State.leadingEdge_waiting (running : s.phase = .running) (inactive : s.pulse.isActive = false)
    (waiting : s.pulse.qualifier = .waiting) : s.leadingEdge = s.setPulse { s.pulse with
      pinHigh := s.pulse.activeHigh, qualifier := .timing
      tentative := some
        { value := s.clock.value, runCounter := s.clock.runCounter
          endsAt := s.clock.osc + s.pulse.debounce * 65536 } } := by
  simp [State.leadingEdge, running, inactive, waiting, State.tentative, fuPerNs]

theorem State.qualifyDue_of_due (running : s.phase = .running) (due : s.debounceIn = some 0) : s.qualifyDue = s.qualify := by
  simp [State.qualifyDue, running, due]

theorem State.qualifyDue_of_early (early : s.debounceIn ≠ some 0) : s.qualifyDue = s := by simp [State.qualifyDue, early]

theorem State.debounceIn_timing {t : Tentative} (timing : s.pulse.qualifier = .timing) (tentative : s.pulse.tentative = some t) :
    s.debounceIn = some (t.endsAt - s.clock.osc) := by simp [State.debounceIn, timing, tentative]

theorem PulseInput.deactivate_timing {p : PulseInput} (timing : p.qualifier = .timing) : p.deactivate = { p with
    pinHigh := !p.activeHigh, qualifier := .waiting, tentative := none, rejected := min 65535 (p.rejected + 1) } := by
  simp [PulseInput.deactivate, timing, count16, satIncr]

theorem PulseInput.deactivate_of_not_timing {p : PulseInput} (other : p.qualifier ≠ .timing) :
    p.deactivate = { p with pinHigh := !p.activeHigh, qualifier := .waiting } := by
  unfold PulseInput.deactivate
  dsimp only
  split
  · contradiction
  · rfl

/-- A pulse that ends before its debounce width has elapsed is rejected and counted. -/
theorem State.trailingEdge_early {t : Tentative} (active : s.pulse.isActive = true) (timing : s.pulse.qualifier = .timing)
    (tentative : s.pulse.tentative = some t) (early : s.clock.osc < t.endsAt) : s.trailingEdge = s.setPulse { s.pulse with
      pinHigh := !s.pulse.activeHigh, qualifier := .waiting, tentative := none
      rejected := min 65535 (s.pulse.rejected + 1) } := by
  have waits : s.debounceIn ≠ some 0 := by
    rw [State.debounceIn_timing timing tentative, Ne, Option.some.injEq]; omega
  rw [State.trailingEdge, if_pos active, State.qualifyDue_of_early waits, PulseInput.deactivate_timing timing]

theorem State.trailingEdge_releasing (active : s.pulse.isActive = true) (releasing : s.pulse.qualifier = .releasing) :
    s.trailingEdge = s.setPulse { s.pulse with pinHigh := !s.pulse.activeHigh, qualifier := .waiting } := by
  have waits : s.debounceIn ≠ some 0 := by simp [State.debounceIn, releasing]
  rw [State.trailingEdge, if_pos active, State.qualifyDue_of_early waits,
    PulseInput.deactivate_of_not_timing (by simp [releasing])]

end

/-! ### What the pulse reference leaves of the pulse input and of the exchange's settings (R65, R66) -/

theorem State.startAcquire_exch (s : State) (r : Ref) : (s.startAcquire r).exch = s.exch.setWindow r [] := rfl

/-- A revert, an offer and a LIVE event empty one window of the exchange at most. -/
theorem State.revertTest_exch (s : State) : ∃ q, s.revertTest.exch = s.exch.setWindow q [] := by
  unfold State.revertTest; split
  · exact ⟨_, s.startAcquire_exch _⟩
  · exact ⟨.none, rfl⟩

theorem State.acceptOffer_exch (s : State) (r : Ref) : ∃ q, (s.acceptOffer r).exch = s.exch.setWindow q [] := by
  unfold State.acceptOffer; split
  · exact s.revertTest_exch
  · split
    · exact ⟨.none, rfl⟩
    · exact ⟨_, s.startAcquire_exch _⟩
  · exact ⟨.none, rfl⟩

theorem State.tracked_exch (s : State) (e : State → State) : (s.tracked e).exch = (e s).exch := by
  rcases State.tracked_eq s e with q | ⟨-, q⟩ <;> rw [q]
  simp

theorem State.liveEvent_exch (s : State) (r : Ref) : ∃ q, (s.liveEvent r).exch = s.exch.setWindow q [] := by
  unfold State.liveEvent
  rw [State.tracked_exch]
  dsimp only
  split
  · exact ⟨.none, rfl⟩
  · split
    · exact State.acceptOffer_exch _ _
    · exact ⟨.none, rfl⟩

theorem Exchange.setWindow_settings (e : Exchange) (r : Ref) (w : List Sample) :
    (e.setWindow r w).pulseClass = e.pulseClass ∧ (e.setWindow r w).pulseU = e.pulseU := by
  cases r <;> exact ⟨rfl, rfl⟩

theorem State.liveEvent_pulseSettings (s : State) (r : Ref) :
    (s.liveEvent r).exch.pulseClass = s.exch.pulseClass ∧ (s.liveEvent r).exch.pulseU = s.exch.pulseU := by
  obtain ⟨q, exch⟩ := s.liveEvent_exch r
  rw [exch]
  exact s.exch.setWindow_settings q []

/-! ### The debounce expiry (R13 to R15, R65, R66) -/

/-- The pulse input as a tentative capture is qualified: its record kept or its loss marked, and the mark moved (R13 to R15). -/
def PulseInput.qualified (p : PulseInput) (t : Tentative) : PulseInput := { p with
  qualifier := .releasing
  tentative := none
  previousMark := some t.runCounter
  queue := if p.queue.length < 8 then p.queue ++ [p.captureOf t] else p.queue
  overrun := p.overrun || !(p.queue.length < 8 : Bool) }

theorem PulseInput.qualified_eq (p : PulseInput) (t : Tentative) :
    ({ p.record (p.captureOf t) with qualifier := .releasing, tentative := none, previousMark := some t.runCounter } :
      PulseInput) = p.qualified t := by
  unfold PulseInput.record PulseInput.qualified
  by_cases room : p.queue.length < 8 <;> simp [room]

theorem State.qualify_eq {s : State} {t : Tentative} (tentative : s.pulse.tentative = some t) :
    s.qualify = (s.setPulse (s.pulse.qualified t)).takeCapture (s.pulse.captureOf t) := by
  simp only [State.qualify, tentative, PulseInput.qualified_eq]

theorem State.takeCapture_irregular {s : State} {c : CaptureRecord} (irregular : c.regular = false) :
    s.takeCapture c = s := by simp [State.takeCapture, irregular]

/-- PULSE is LIVE from a REGULAR capture on, for 3,000 ms, with a LIVE event where it was LOST (R66). -/
theorem State.pulseLive_eq (s : State) (reading : BitVec 32) :
    s.pulseLive reading =
      if s.exch.liveP then s.setExch
        { s.exch with pulseExpiry := some (reading + 3000), lastRegular := some reading, liveP := true }
      else (s.setExch
        { s.exch with pulseExpiry := some (reading + 3000), lastRegular := some reading, liveP := true }).liveEvent
          .pulse := rfl

theorem State.pulseLive_kept (s : State) (reading : BitVec 32) :
    (s.pulseLive reading).configured .pulse = s.configured .pulse ∧
      (s.pulseLive reading).exch.pulseClass = s.exch.pulseClass ∧
      (s.pulseLive reading).exch.pulseU = s.exch.pulseU := by
  rw [State.pulseLive_eq]
  split
  · exact ⟨rfl, rfl, rfl⟩
  · exact ⟨State.liveEvent_configured _ _ _, State.liveEvent_pulseSettings _ _⟩

theorem State.takeCapture_regular {s : State} {c : CaptureRecord} (regular : c.regular = true) :
    s.takeCapture c =
      if s.configured .pulse then
        (s.pulseLive c.runCounter).enterSample .pulse
          { theta := pulseTheta c.value, delay := 0, leaderClass := s.exch.pulseClass, leaderU := s.exch.pulseU
            runCounter := c.runCounter }
      else s.pulseLive c.runCounter := by
  obtain ⟨configured, pulseClass, pulseU⟩ := s.pulseLive_kept c.runCounter
  simp only [State.takeCapture, if_pos regular, configured, pulseClass, pulseU]

/-- The pulse input stands as it is. -/
def State.pulseStands (p : PulseInput) (s : State) : Prop := s.pulse = p

@[simp] theorem State.pulseStands_iff (p : PulseInput) (s : State) : s.pulseStands p ↔ s.pulse = p := Iff.rfl

/-- A step moves the tentative capture alone of the pulse input, and with none the servo's events leave it (R13). -/
theorem ServoKeeps.pulse {p : PulseInput} (none : p.tentative = none) : ServoKeeps (State.pulseStands p) where
  applyStep s x c h := by
    rw [State.pulseStands_iff] at h ⊢
    rw [State.applyStep_pulse, h, PulseInput.shift, none, Option.map_none]
    exact congrArg (fun t => ({ p with tentative := t } : PulseInput)) none.symm

theorem State.qualify_pulse {s : State} {t : Tentative} (tentative : s.pulse.tentative = some t) :
    s.qualify.pulse = s.pulse.qualified t := by
  have stands : State.pulseStands (s.pulse.qualified t) (s.setPulse (s.pulse.qualified t)) := rfl
  rw [State.qualify_eq tentative]
  exact (ServoKeeps.pulse rfl).takeCapture (s.pulse.captureOf t) stands

/-- A pulse that ends once its debounce width has elapsed is qualified first. -/
theorem State.trailingEdge_late {s : State} {t : Tentative} (running : s.phase = .running) (active : s.pulse.isActive = true)
    (timing : s.pulse.qualifier = .timing) (tentative : s.pulse.tentative = some t) (late : t.endsAt ≤ s.clock.osc) :
    s.trailingEdge = s.qualify.setPulse { s.qualify.pulse with
      pinHigh := !s.pulse.activeHigh, qualifier := .waiting, tentative := none, rejected := s.pulse.rejected } := by
  have due : s.debounceIn = some 0 := by
    rw [State.debounceIn_timing timing tentative, Option.some.injEq]; omega
  have pulse := State.qualify_pulse tentative
  have releasing : s.qualify.pulse.qualifier ≠ .timing := by simp [pulse, PulseInput.qualified]
  rw [State.trailingEdge, if_pos active, State.qualifyDue_of_due running due, PulseInput.deactivate_of_not_timing releasing,
    pulse]
  rfl

/-- A value lies its θ beyond a whole second, the nearest, a half taken upward (R65). -/
theorem pulseTheta_nearest (value : Int) :
    (∃ second : Int, value = second * fuPerSecond + pulseTheta value) ∧
      -(fuPerSecond : Int) < 2 * pulseTheta value ∧ 2 * pulseTheta value ≤ fuPerSecond := by
  have second : ((fuPerSecond : Nat) : Int) = 65536000000000 := rfl
  unfold pulseTheta
  rw [second]
  dsimp only
  split
  · exact ⟨⟨value / 65536000000000, by omega⟩, by omega, by omega⟩
  · exact ⟨⟨value / 65536000000000 + 1, by omega⟩, by omega, by omega⟩

/-! ### CAPTURE READ (R15, R180) -/

theorem CaptureRecord.bytes_eq (c : CaptureRecord) : c.bytes = stampBytes c.value ++ beBytes 4 c.runCounter.toNat ++
    [(if c.regular then 1 else 0) ||| (if c.soft then 2 else 0)] := by
  have flags : ∀ regular soft : Bool,
      flagByte [regular, soft] = (if regular then 1 else 0) ||| (if soft then 2 else 0) := by decide
  rw [CaptureRecord.bytes, flags]

theorem flagByte_one (b : Bool) : flagByte [b] = if b then 1 else 0 := by cases b <;> decide

theorem PulseInput.readBytes_eq (p : PulseInput) : p.readBytes =
    (p.queue.flatMap fun c => stampBytes c.value ++ beBytes 4 c.runCounter.toNat ++
      [(if c.regular then 1 else 0) ||| (if c.soft then 2 else 0)]) ++ [if p.overrun then 1 else 0] ++
        beBytes 2 p.rejected := by
  rw [PulseInput.readBytes, flagByte_one, List.flatMap_def, funext CaptureRecord.bytes_eq]

theorem exec_captureRead_item {s : State} {r : Request} (item : s.currentItem = some (r, .captureRead)) (dt : Nat) :
    exec (.captureRead dt) s = .next ((s.runBy dt).captureRead.1.finishItem r (s.runBy dt).captureRead.2) :=
  congrArg Host.Outcome.next (State.carryOut_runBy item dt rfl)

end Sys2Proof.Machine

section

open Sys2Proof Sys2Proof.Machine

/-- Settles O21, edge by edge; a pulse that has lasted its width is first qualified. -/
theorem pulseEdgesMoveTheQualifier : Obligations.PulseEdgesMoveTheQualifier := by
  intro s dt u
  refine ⟨fun running inactive waiting => ?_, fun t active timing tentative => ⟨fun early => ?_, fun running late => ?_⟩,
    fun active releasing => ?_⟩
  · exact congrArg Host.Outcome.next (State.leadingEdge_waiting (s := u) running inactive waiting)
  · exact congrArg Host.Outcome.next (State.trailingEdge_early (s := u) active timing tentative early)
  · exact congrArg Host.Outcome.next (State.trailingEdge_late (s := u) running active timing tentative late)
  · exact congrArg Host.Outcome.next (State.trailingEdge_releasing (s := u) active releasing)

/-- Settles O22: the record by R14's test, the pulse reference by whether it is LIVE and configured. -/
theorem debouncedPulseIsRecordedAndHandedOver : Obligations.DebouncedPulseIsRecordedAndHandedOver := by
  refine ⟨?_, pulseTheta_nearest⟩
  intro s t running timing tentative within u regular record pulse
  have expiry : exec .debounceExpiry s = .next u.qualify := by
    rw [exec_debounceExpiry, State.debounceIn_timing timing tentative, State.takeTimed_of_le s _ _ running within]
  have qualified : u.qualify = (u.setPulse pulse).takeCapture record := State.qualify_eq (s := u) tentative
  rw [expiry, qualified]
  refine ⟨fun irregular => ?_, ?_⟩
  · rw [State.takeCapture_irregular (c := record) irregular]
    rfl
  · intro isRegular kept live
    rw [State.takeCapture_regular (c := record) isRegular, State.pulseLive_eq]
    rfl

/-- Settles O25: the item is carried out on the state that its time has reached, whose queue is still the one before it. -/
theorem captureReadReturnsAndEmptiesTheQueue : Obligations.CaptureReadReturnsAndEmptiesTheQueue := by
  intro s dt r item
  rw [exec_captureRead_item item, State.captureRead, PulseInput.readBytes_eq]
  rfl

end
end

section
/-! The passage of frames (R20 to R33): admission, the frame's end, departure and the end of a transmission, and the modes of the
line pair. -/

namespace Sys2Proof.Machine

/-! ### The oldest passing frame -/

section

variable {before after : List Passage} {p : Passage}

theorem oldestPassing_of_split (consumed : ∀ q ∈ before, q.consumer.isSome = true) (passing : p.consumer = none) :
    oldestPassing (before ++ p :: after) = some p := by
  rw [oldestPassing, List.find?_append, List.find?_eq_none.mpr fun q h => by simp [Option.isSome_iff_ne_none.mp (consumed q h)]]
  simp [passing]

theorem oldestPassing_eq_none {l : List Passage} : oldestPassing l = none ↔ ∀ q ∈ l, q.consumer.isSome = true := by
  simp [oldestPassing, Option.isSome_iff_ne_none]

theorem findIdx?_passing_of_split (consumed : ∀ q ∈ before, q.consumer.isSome = true) (passing : p.consumer = none) :
    (before ++ p :: after).findIdx? (fun q => q.consumer.isNone) = some before.length := by
  rw [List.findIdx?_append, List.findIdx?_eq_none_iff.mpr fun q h => by simpa using consumed q h]
  simp [List.findIdx?_cons, passing]

theorem LineState.updateOldest_of_split {l : LineState} (buffer : l.buffer = before ++ p :: after)
    (consumed : ∀ q ∈ before, q.consumer.isSome = true) (passing : p.consumer = none) (f : Passage → Passage) :
    l.updateOldest f = { l with buffer := before ++ f p :: after } := by
  rw [LineState.updateOldest, buffer, findIdx?_passing_of_split consumed passing]
  simp [List.modify_eq_set_getElem?, List.set_append_right]

theorem LineState.removeOldest_of_split {l : LineState} (buffer : l.buffer = before ++ p :: after)
    (consumed : ∀ q ∈ before, q.consumer.isSome = true) (passing : p.consumer = none) :
    l.removeOldest = { l with buffer := before ++ after } := by
  rw [LineState.removeOldest, buffer, findIdx?_passing_of_split consumed passing]
  simp [List.eraseIdx_append_of_length_le]

end

/-! ### Admission (R26) -/

theorem bytesIn_eq (fineUnits : Nat) : bytesIn fineUnits = fineUnits * 25 / 8 / 65536 := by
  rw [bytesIn, Nat.div_div_eq_div_mul]

theorem State.admits_iff (s : State) (line : Line) :
    s.admits line = true ↔ occupancy (s.lineAt line).buffer s.clock.osc + 9216 ≤ 65536 := by
  simp only [State.admits, decide_eq_true_eq]
  omega

section

variable {s : State} {line : Line} {bytes : List Byte}

theorem State.firstByte_admitted (some : bytes ≠ []) (free : (s.lineAt line).arriving = none)
    (room : occupancy (s.lineAt line).buffer s.clock.osc + 9216 ≤ 65536) :
    let admitted := s.setLine line { s.lineAt line with buffer := (s.lineAt line).buffer ++ [s.newPassage bytes] }
    s.firstByte line bytes = if s.lines.mode = .boot then admitted.pickIfIdle line.other else admitted := by
  simp [State.firstByte, some, free, (s.admits_iff line).mpr room]

theorem State.firstByte_overrun (some : bytes ≠ []) (free : (s.lineAt line).arriving = none)
    (full : 65536 < occupancy (s.lineAt line).buffer s.clock.osc + 9216) :
    s.firstByte line bytes =
      s.setLine line { s.lineAt line with overruns := min 65535 ((s.lineAt line).overruns + 1) } := by
  have refused : s.admits line = false := by
    rw [Bool.eq_false_iff, Ne, State.admits_iff]; omega
  simp [State.firstByte, some, free, refused, count16, satIncr]

end

/-! ### The frame's end (R24, R26, R29) -/

theorem State.repickDropped_of_stranded {s : State} {line : Line} (picked : (s.lineAt line).transmit = .pickedPassing)
    (none : ∀ q ∈ (s.lineAt line.other).buffer, q.consumer.isSome = true) : s.repickDropped line = s.pick line := by
  rw [State.repickDropped, if_pos ⟨picked, oldestPassing_eq_none.mpr none⟩]

theorem State.repickDropped_of_not_stranded {s : State} {line : Line}
    (h : ¬((s.lineAt line).transmit = .pickedPassing ∧ ∀ q ∈ (s.lineAt line.other).buffer, q.consumer.isSome = true)) :
    s.repickDropped line = s := by
  rw [State.repickDropped, if_neg fun both => h ⟨both.1, oldestPassing_eq_none.mp both.2⟩]

theorem Passage.mayEnd_iff (p : Passage) : p.mayEnd = true ↔
    (p.treatment = .active → p.classification = some .complete) ∧
    (p.treatment = .commanded → p.consumer.isSome = true ∨ p.payloadStarted = true ∨
      p.bytes.length ≤ payloadStart p.bytes) := by
  unfold Passage.mayEnd
  cases p.treatment <;> simp [or_assoc]

section

variable {s : State} {line : Line} {p : Passage}

theorem State.countLength_eq (s : State) (line : Line) :
    s.countLength line = s.setLine line { s.lineAt line with lengthErrors := min 65535 ((s.lineAt line).lengthErrors + 1) } :=
  rfl

theorem State.setArriving_setLine (s : State) (line : Line) (l : LineState) (q : Passage) :
    (s.setLine line l).setArriving line q =
      s.setLine line { l with buffer := l.buffer.map fun x => if x.status = .arriving then q else x } := by
  rw [State.setArriving, State.lineAt_setLine, State.setLine_setLine]
  rfl

theorem State.releaseFrame_setLine (s : State) (line : Line) (l : LineState) :
    (s.setLine line l).releaseFrame line =
      s.setLine line { l with buffer := l.buffer.filter fun x => x.status ≠ .arriving } := by
  rw [State.releaseFrame, State.lineAt_setLine, State.setLine_setLine]
  rfl

theorem State.endFrame_short (arriving : (s.lineAt line).arriving = some p) (may : p.mayEnd = true)
    (short : p.bytes.length < 64) : s.endFrame line = s.endShort line p := by
  have legal : p.bytes.length ≤ 9216 := by omega
  simp [State.endFrame, arriving, may, short, legal]

theorem State.endFrame_legal (arriving : (s.lineAt line).arriving = some p) (may : p.mayEnd = true)
    (long : 64 ≤ p.bytes.length) (legal : p.bytes.length ≤ 9216) : s.endFrame line = s.endLegal line p := by
  simp [State.endFrame, arriving, may, Nat.not_lt.mpr long, legal]

theorem State.endFrame_overlong (arriving : (s.lineAt line).arriving = some p) (long : 9216 < p.bytes.length) :
    s.endFrame line = s := by
  simp [State.endFrame, arriving, Nat.not_le.mpr long]

theorem State.reachOverlength_overlong (arriving : (s.lineAt line).arriving = some p) (may : p.mayEnd = true)
    (long : 9216 < p.bytes.length) : s.reachOverlength line = s.overlong line p := by
  simp [State.reachOverlength, arriving, may, long]

theorem State.dropArriving_countLength (s : State) (line : Line) :
    (s.countLength line).dropArriving line =
      (s.setLine line
        { s.lineAt line with
          lengthErrors := min 65535 ((s.lineAt line).lengthErrors + 1)
          buffer := (s.lineAt line).buffer.filter fun x => x.status ≠ .arriving }).repickDropped line.other := by
  rw [State.dropArriving, State.countLength_eq, State.releaseFrame_setLine]

theorem State.endShort_waiting (waits : p.departedAt = none) :
    s.endShort line p = (s.countLength line).dropArriving line := by
  simp [State.endShort, waits]

theorem State.endShort_leaving (leaves : p.departedAt.isSome = true) :
    s.endShort line p = (s.countLength line).setArriving line { p with status := .bad } := by
  simp [State.endShort, leaves]

theorem State.overlong_waiting (waits : p.departedAt = none) :
    s.overlong line p = ((s.countLength line).dropArriving line).frameEndEvent line false p.bytes.length := by
  simp [State.overlong, waits]

theorem State.overlong_leaving (leaves : p.departedAt.isSome = true) :
    s.overlong line p =
      ((s.countLength line).setArriving line
        { p with status := .bad, cutAt := some (min 9217 (p.sent s.clock.osc)) }).frameEndEvent line false p.bytes.length := by
  simp [State.overlong, leaves]

end

/-! ### What a departure tells (R58, R171) -/

/-- The record of the exchange once an own frame has departed: the Query it waits for opens it. -/
def Exchange.recordAfter (e : Exchange) (query : Option Nat) (stamp : Int) (now : BitVec 32) : QueryRecord :=
  match e.record with
  | .waiting seq =>
    if query = some e.built then .opened seq stamp (now + BitVec.ofNat 32 e.effectiveWindow) else .waiting seq
  | other => other

theorem Exchange.recordAfter_none (e : Exchange) (stamp : Int) (now : BitVec 32) : e.recordAfter none stamp now = e.record := by
  unfold Exchange.recordAfter
  split
  · rename_i seq waiting; simp [waiting]
  · rfl

theorem Exchange.departed_eq (e : Exchange) (number : Nat) (stamp : Int) (now : BitVec 32) :
    e.departed number stamp now = { e with record := e.recordAfter (some number) stamp now } := by
  unfold Exchange.departed Exchange.recordAfter
  cases record : e.record with
  | waiting seq =>
    simp only [Option.some.injEq]
    split
    · rfl
    · rw [← record]
  | empty => simp only [← record]
  | opened => simp only [← record]

theorem State.tellDeparture_eq (s : State) (f : OwnFrame) :
    s.tellDeparture f = { s with
      exch := { s.exch with record := s.exch.recordAfter f.queryNumber s.clock.value s.clock.runCounter }
      agent := if f.resetResponse then { s.agent with hold := s.agent.hold.map fun h => { h with released := true } }
        else s.agent } := by
  unfold State.tellDeparture
  cases f.queryNumber with
  | none => rw [Exchange.recordAfter_none]; dsimp only; split <;> rfl
  | some n => rw [← Exchange.departed_eq]; dsimp only; split <;> rfl

end Sys2Proof.Machine

section

open Sys2Proof Sys2Proof.Machine

/-- Settles O27. -/
theorem firstByteIsAdmittedOrCounted : Obligations.FirstByteIsAdmittedOrCounted := by
  refine ⟨fun s line x q => ⟨rfl, rfl, rfl, rfl, rfl, rfl⟩, fun buffer osc => ?_, fun s dt line bytes some free => ?_⟩
  · intro passed come
    have counted (p : Passage) : p.arrived osc = come p := by
      simp only [Passage.arrived, bytesIn_eq, come, passed]
    have sent (p : Passage) (t : Nat) (departed : p.departedAt = Option.some t) :
        p.sent osc = min (come p) (passed t) := by
      simp only [Passage.sent, departed, counted, bytesIn_eq, passed]
    refine ⟨fun p => ⟨fun waits => by simp [Passage.sent, waits], sent p⟩, ?_⟩
    simp only [occupancy, Passage.unsent, counted]
  · intro u l inActive record admitted
    have stands : record = u.newPassage bytes := by
      by_cases active : s.lines.mode = .active <;> simp [record, inActive, State.newPassage, u, active]
    refine ⟨fun room => ?_, fun full => ?_⟩
    · simp only [admitted, stands]
      exact congrArg Host.Outcome.next (State.firstByte_admitted (s := u) some free room)
    · exact congrArg Host.Outcome.next (State.firstByte_overrun (s := u) some free full)

/-- Settles O30, by the frame's length, whether it has begun to leave, and whether it was consumed. -/
theorem frameEndSettlesTheFrame : Obligations.FrameEndSettlesTheFrame := by
  refine ⟨fun s line bytes arrival => ⟨rfl, rfl, rfl, rfl⟩, fun s line good length => ⟨rfl, fun closed => ?_, rfl, rfl⟩,
    fun s line => ⟨fun h => State.repickDropped_of_stranded h.1 h.2, State.repickDropped_of_not_stranded⟩,
    Passage.mayEnd_iff, fun s dt line p arriving may => ?_⟩
  · rw [State.closeDate, closed]
  · intro u l n good others withIt short tested
    have arriving : (u.lineAt line).arriving = some p := arriving
    have ends : exec (.frameEnd dt line) s = .next (u.endFrame line) := rfl
    have overruns : exec (.frameOverlength dt line) s = .next (u.reachOverlength line) := rfl
    refine ⟨fun below waits => ?_, fun below leaves => ?_, fun long legal passing => ?_, fun c long legal consumed => ?_,
      fun past => ⟨?_, fun waits => ?_, fun leaves => ?_⟩⟩
    · rw [ends, State.endFrame_short arriving may below, State.endShort_waiting waits, State.dropArriving_countLength]
      rfl
    · rw [ends, State.endFrame_short arriving may below, State.endShort_leaving leaves, State.countLength_eq,
        State.setArriving_setLine]
      rfl
    · intro kept
      rw [ends, State.endFrame_legal arriving may long legal, State.endLegal]
      dsimp only
      split
      · rename_i c consumed
        rw [passing] at consumed
        contradiction
      · rw [State.setArriving_setLine]
        rfl
    · intro released
      rw [ends, State.endFrame_legal arriving may long legal, State.endLegal]
      simp only [consumed, State.releaseFrame_setLine]
      rfl
    · rw [ends, State.endFrame_overlong arriving past]
    · rw [overruns, State.reachOverlength_overlong arriving may past, State.overlong_waiting waits,
        State.dropArriving_countLength]
      rfl
    · rw [overruns, State.reachOverlength_overlong arriving may past, State.overlong_leaving leaves, State.countLength_eq,
        State.setArriving_setLine]
      rfl

/-- Settles O31. -/
theorem departureStampsTheFrame : Obligations.DepartureStampsTheFrame := by
  intro s line l b
  refine ⟨fun before p after picked buffer consumed passing => ?_, fun i f picked own => ?_⟩
  · intro gone
    have departs : exec (.frameDeparture line) s = .next (s.departPassing line) := by
      change Host.Outcome.next (s.departFrame line) = _
      rw [State.departFrame, show (s.lineAt line).transmit = .pickedPassing from picked]
    rw [departs, State.departPassing, LineState.updateOldest_of_split buffer consumed passing, State.lineAt_other_setLine]
    rfl
  · intro bytes left window record freed told
    have departs : exec (.frameDeparture line) s = .next (s.departOwn line i) := by
      change Host.Outcome.next (s.departFrame line) = _
      rw [State.departFrame, show (s.lineAt line).transmit = .pickedOwn i from picked]
    have own' : (s.lineAt line).origin[i]? = some f := own
    rw [departs, State.departOwn]
    simp only [own']
    rw [State.tellDeparture_eq]
    rfl

/-- Settles O33. -/
theorem transmitEndSendsTheCheckSequenceAndPicks : Obligations.TransmitEndSendsTheCheckSequenceAndPicks := by
  intro s dt line u l b
  have ends : exec (.transmitEnd dt line) s = .next (u.endTransmit line) := rfl
  refine ⟨fun bytes sending => ?_, fun before p after sending buffer consumed passing => ⟨fun ended => ?_, fun arriving => ?_⟩⟩
  · rw [ends, State.endTransmit, show (u.lineAt line).transmit = .sendingOwn bytes from sending]
    rfl
  all_goals
    have oldest : oldestPassing (u.feeding line) = some p := by
      rw [State.feeding, show (u.lineAt line.other).buffer = _ from buffer, oldestPassing_of_split consumed passing]
    rw [ends, State.endTransmit, show (u.lineAt line).transmit = .sendingPassing from sending]
    simp only [oldest]
  · rw [if_neg ended, LineState.removeOldest_of_split (l := u.lineAt line.other) buffer consumed passing,
      State.finishSending, State.lineAt_other_setLine]
    rfl
  · rw [if_pos arriving]

end
end

section
/-! The modes of the line pair (R20 to R22): the entries into ACTIVE and into commanded BYPASS. -/

namespace Sys2Proof.Machine

/-! ### Requests are taken (R165) -/

/-- The agent after it has taken a frame (R165). -/
def Agent.take (a : Agent) (line : Line) (bytes : List Byte) : Agent :=
  match sourceOf bytes with
  | some source =>
    if requestReadable (payloadOf bytes) && !isGroup source then
      if a.allows line source then
        if a.queue.length < 4 then
          { a with queue := a.queue ++ [{ line := line, source := source, tag := tagOf bytes, body := payloadOf bytes }] }
        else { a with queueFull := count16 a.queueFull }
      else { a with disallowed := count16 a.disallowed }
    else { a with malformed := count16 a.malformed }
  | none => { a with malformed := count16 a.malformed }

theorem State.takeRequest_eq (s : State) (line : Line) (bytes : List Byte) :
    s.takeRequest line bytes = s.setAgent (s.agent.take line bytes) := by
  unfold State.takeRequest Agent.take
  cases sourceOf bytes with
  | none => rfl
  | some source => simp only [apply_ite s.setAgent]

theorem Agent.take_address (a : Agent) (line : Line) (bytes : List Byte) : (a.take line bytes).address = a.address := by
  unfold Agent.take
  repeat' split
  all_goals rfl

/-- The agent after it has taken the good ones of some frames. -/
def Agent.takeGood (a : Agent) (line : Line) (frames : List Passage) : Agent :=
  frames.foldl (fun a p => if p.status = .good then a.take line p.bytes else a) a

theorem State.foldl_takeRequest (s : State) (line : Line) (frames : List Passage) :
    frames.foldl (fun v p => if p.status = .good then v.takeRequest line p.bytes else v) s =
      s.setAgent (s.agent.takeGood line frames) := by
  induction frames generalizing s with
  | nil => rfl
  | cons p frames ih =>
    rw [List.foldl_cons, ih, Agent.takeGood, Agent.takeGood, List.foldl_cons]
    split
    · rw [State.takeRequest_eq]; rfl
    · rfl

theorem Agent.takeGood_address (a : Agent) (line : Line) (frames : List Passage) :
    (a.takeGood line frames).address = a.address := by
  unfold Agent.takeGood
  induction frames generalizing a with
  | nil => rfl
  | cons p frames ih =>
    rw [List.foldl_cons, ih]
    split
    · exact a.take_address line p.bytes
    · rfl

/-! ### The frames meet the entry (R22) -/

/-- A converted frame that has been consumed and has already ended. -/
def Passage.settled (p : Passage) : Bool := p.consumer.isSome && p.status != .arriving

theorem Passage.not_settled (p : Passage) : (p.consumer.isNone || p.status == .arriving) = !p.settled := by
  unfold Passage.settled
  cases p.consumer <;> simp [bne]

/-- The frames of a line once the entry into commanded BYPASS has met them. -/
def State.convertedAt (s : State) (line : Line) : List Passage := (s.lineAt line).buffer.map s.convertFrame

theorem State.convertFrame_congr {s t : State} (address : t.agent.address = s.agent.address)
    (type : t.lines.managementType = s.lines.managementType) (osc : t.clock.osc = s.clock.osc) :
    t.convertFrame = s.convertFrame := by
  funext p
  simp only [State.convertFrame, State.recognizesManagement, State.addressed, address, type, osc]
  rfl

theorem State.convertLine_eq (s : State) (line : Line) : s.convertLine line =
    (s.setLine line { s.lineAt line with buffer := (s.convertedAt line).filter fun p => !p.settled }).setAgent
      (s.agent.takeGood line ((s.convertedAt line).filter Passage.settled)) := by
  have settles (u : State) : u.settleConverted line =
      (u.setLine line { u.lineAt line with buffer := (u.lineAt line).buffer.filter fun p => !p.settled }).setAgent
        (u.agent.takeGood line ((u.lineAt line).buffer.filter Passage.settled)) := by
    simp only [State.settleConverted, Passage.not_settled]
    exact State.foldl_takeRequest _ line _
  rw [State.convertLine, settles, State.lineAt_setLine, State.setLine_setLine]
  rfl

theorem State.convertLine_settings (s : State) (line : Line) : SameSettings (s.convertLine line).lines s.lines := by
  rw [State.convertLine_eq]
  exact SameSettings.setAt s.lines line _

theorem State.convertedAt_congr {s t : State} {line : Line} (buffer : (t.lineAt line).buffer = (s.lineAt line).buffer)
    (address : t.agent.address = s.agent.address) (type : t.lines.managementType = s.lines.managementType)
    (osc : t.clock.osc = s.clock.osc) : t.convertedAt line = s.convertedAt line := by
  rw [State.convertedAt, State.convertedAt, buffer, State.convertFrame_congr address type osc]

/-- Both buffers' frames have met the entry into commanded BYPASS, and no arbiter has yet taken account of it. -/
def State.converted (s : State) : State :=
  ((s.setLines { s.lines with mode := .commanded }).convertLine .north).convertLine .south

theorem State.converted_south (s : State) :
    ((s.setLines { s.lines with mode := .commanded }).convertLine .north).convertedAt .south = s.convertedAt .south := by
  refine State.convertedAt_congr ?_ ?_ ?_ ?_ <;> rw [State.convertLine_eq]
  · rfl
  · exact Agent.takeGood_address _ _ _
  · rfl
  · rfl

theorem State.converted_lineAt (s : State) (line : Line) : s.converted.lineAt line =
    { s.lineAt line with buffer := (s.convertedAt line).filter fun p => !p.settled } := by
  rw [State.converted, State.convertLine_eq, State.converted_south, State.convertLine_eq]
  cases line <;> rfl

theorem State.converted_agent (s : State) : s.converted.agent =
    (s.agent.takeGood .north ((s.convertedAt .north).filter Passage.settled)).takeGood .south
      ((s.convertedAt .south).filter Passage.settled) := by
  rw [State.converted, State.convertLine_eq, State.converted_south, State.convertLine_eq]
  rfl

theorem State.converted_settings (s : State) : SameSettings s.converted.lines { s.lines with mode := .commanded } :=
  (State.convertLine_settings _ _).trans (State.convertLine_settings _ _)

section

variable (s : State) (p : Passage)

theorem State.convertFrame_of_gone (gone : p.departedAt.isSome = true ∨ p.consumer.isSome = true) : s.convertFrame p = p := by
  have stays : p.waits = false := by
    unfold Passage.waits
    rcases gone with h | h <;> simp [h, Option.isSome_iff_ne_none.mp h]
  simp [State.convertFrame, stays]

theorem State.recognizesManagement_iff (bytes : List Byte) : s.recognizesManagement bytes = true ↔
    destinationOf bytes = some s.agent.address ∧ typeOf bytes = some s.lines.managementType := by
  simp [State.recognizesManagement, State.addressed]

theorem Passage.toBypass_payloadStarted (treatment : LineMode) (osc : Nat) :
    (p.toBypass treatment osc).payloadStarted = true ↔ payloadStart p.bytes < p.bytes.length ∧
      (p.classification = some .complete ∨ p.status ≠ .arriving ∨ payloadStart p.bytes < p.arrived osc) := by
  simp [Passage.toBypass, or_assoc]

/-- An ACTIVE frame that waits becomes a BYPASS frame, consumed where it is a management frame whose payload start has come. -/
theorem State.convertFrame_of_waiting (waits : p.departedAt = none) (passing : p.consumer = none)
    (active : p.treatment = .active) :
    s.convertFrame p = { p.toBypass .commanded s.clock.osc with
      consumer := if (p.toBypass .commanded s.clock.osc).payloadStarted = true ∧ s.recognizesManagement p.bytes = true
        then some .agent else none } := by
  have converts : (p.waits && p.treatment == .active) = true := by simp [Passage.waits, waits, passing, active]
  have kept : (p.toBypass .commanded s.clock.osc).consumer = none := passing
  have bytes : (p.toBypass .commanded s.clock.osc).bytes = p.bytes := rfl
  rw [State.convertFrame, if_pos converts]
  simp only [Bool.and_eq_true, bytes]
  split
  · rfl
  · simp only [← kept, ← bytes]

end

/-! ### The arbiters take account of it (R33) -/

theorem State.repick_lineAt (s : State) (line : Line) : (s.repick line).lineAt line =
    { s.lineAt line with
      transmit := if (s.lineAt line).departing = true then s.pickFor line else (s.lineAt line).transmit } := by
  unfold State.repick
  split
  · exact s.pick_lineAt line
  · rfl

theorem State.repick_lineAt_other (s : State) (line : Line) : (s.repick line).lineAt line.other = s.lineAt line.other := by
  unfold State.repick
  split
  · exact s.pick_lineAt_other line
  · rfl

theorem State.repick_settings (s : State) (line : Line) : SameSettings (s.repick line).lines s.lines := by
  unfold State.repick
  split
  · exact s.pick_settings line
  · exact .rfl' _

theorem State.repick_pickFor (s : State) (line : Line) : (s.repick line).pickFor line = s.pickFor line := by
  have settings := s.repick_settings line
  refine State.pickFor_congr settings.mode settings.limit (by simp) ?_ (by rw [State.repick_lineAt])
  rw [State.feeding, State.repick_lineAt_other]
  rfl

theorem State.reconsider_lineAt (s : State) (line : Line) : (s.reconsider line).lineAt line =
    { s.lineAt line with
      transmit := if (s.lineAt line).transmit = .idle ∨ (s.lineAt line).departing = true then s.pickFor line
        else (s.lineAt line).transmit } := by
  rw [State.reconsider, State.pickIfIdle_lineAt, State.idlePick, State.repick_pickFor, State.repick_lineAt]
  by_cases departing : (s.lineAt line).departing = true
  · simp [departing]
  · simp [departing]

theorem State.reconsider_lineAt_other (s : State) (line : Line) :
    (s.reconsider line).lineAt line.other = s.lineAt line.other := by
  rw [State.reconsider, State.pickIfIdle_lineAt_other, State.repick_lineAt_other]

theorem State.reconsider_settings (s : State) (line : Line) : SameSettings (s.reconsider line).lines s.lines :=
  (State.pickIfIdle_settings _ _).trans (State.repick_settings _ _)

/-- Where the arbiter of a line takes account of a change, the other's pick is made as before. -/
theorem State.pickFor_reconsider_other (s : State) (line : Line) :
    (s.reconsider line.other).pickFor line = s.pickFor line := by
  have settings := s.reconsider_settings line.other
  have own := s.reconsider_lineAt_other line.other
  rw [Line.other_other] at own
  refine State.pickFor_congr settings.mode settings.limit (by simp) ?_ (by rw [own])
  rw [State.feeding, State.reconsider_lineAt]
  rfl

theorem State.pickFor_reconsider (s : State) (line : Line) : (s.reconsider line).pickFor line = s.pickFor line := by
  have settings := s.reconsider_settings line
  refine State.pickFor_congr settings.mode settings.limit (by simp) ?_ (by rw [State.reconsider_lineAt])
  rw [State.feeding, State.reconsider_lineAt_other]
  rfl

section

variable (s : State)

/-- Both arbiters, one after the other, as each would alone. -/
theorem State.reconsiderBoth_lineAt (line : Line) : ((s.reconsider .north).reconsider .south).lineAt line =
    { s.lineAt line with
      transmit := if (s.lineAt line).transmit = .idle ∨ (s.lineAt line).departing = true then s.pickFor line
        else (s.lineAt line).transmit } := by
  cases line with
  | north => exact (State.reconsider_lineAt_other _ .south).trans (s.reconsider_lineAt .north)
  | south =>
    have pick : (s.reconsider .north).pickFor .south = s.pickFor .south := s.pickFor_reconsider_other .south
    have own : (s.reconsider .north).lineAt .south = s.lineAt .south := s.reconsider_lineAt_other .north
    rw [State.reconsider_lineAt, pick, own]

theorem State.pickFor_reconsiderBoth (line : Line) :
    ((s.reconsider .north).reconsider .south).pickFor line = s.pickFor line := by
  cases line with
  | north => exact (State.pickFor_reconsider_other _ .north).trans (s.pickFor_reconsider .north)
  | south => exact (State.pickFor_reconsider _ .south).trans (s.pickFor_reconsider_other .south)

theorem State.enterBypass_eq : s.enterBypass = (s.converted.reconsider .north).reconsider .south := rfl

theorem State.enterBypass_lineAt (line : Line) : s.enterBypass.lineAt line = { s.lineAt line with
    buffer := (s.convertedAt line).filter fun p => !p.settled
    transmit := if (s.lineAt line).transmit = .idle ∨ (s.lineAt line).departing = true then s.enterBypass.pickFor line
      else (s.lineAt line).transmit } := by
  rw [State.enterBypass_eq, State.pickFor_reconsiderBoth, State.reconsiderBoth_lineAt, State.converted_lineAt]
  rfl

theorem State.enterBypass_settings : SameSettings s.enterBypass.lines { s.lines with mode := .commanded } :=
  ((State.reconsider_settings _ _).trans (State.reconsider_settings _ _)).trans s.converted_settings

theorem State.enterBypass_agent : s.enterBypass.agent = s.converted.agent := by
  rw [State.enterBypass_eq]
  simp

/-- A line pair is its settings and its two lines. -/
theorem LinePair.eq_of_settings {a b : LinePair} (settings : SameSettings a b) :
    a = { b with north := a.north, south := a.south } :=
  LinePair.ext_at ⟨settings.mode, settings.limit, settings.correction, settings.timing, settings.management⟩
    fun line => by cases line <;> rfl

theorem State.pickIfIdle_eq (line : Line) : s.pickIfIdle line = s.setLines (s.pickIfIdle line).lines := by
  unfold State.pickIfIdle
  split <;> rfl

theorem State.enterActive_eq : s.enterActive = s.setLines s.enterActive.lines := by
  rw [State.enterActive, State.pickIfIdle_eq, State.pickIfIdle_eq]
  rfl

theorem State.enterActive_settings : SameSettings s.enterActive.lines { s.lines with mode := .active } :=
  State.pickBoth_settings (s.setLines { s.lines with mode := .active })

end

end Sys2Proof.Machine

section

open Sys2Proof Sys2Proof.Machine

/-- Settles O26: each buffer's frames are converted, and each arbiter takes account of it, as it would alone. -/
theorem linePairModesAndBypassEntry : Obligations.LinePairModesAndBypassEntry := by
  refine ⟨fun s running boot ended => ?_, fun s dt r item => ?_, fun s dt r item => ?_, fun s => ?_, fun s => ?_, fun s line => ?_, fun s p => ⟨?_, ?_, ?_, ?_, ?_⟩⟩
  · refine congrArg Host.Outcome.next (State.takeIf_of_due s _ _ running ?_)
    simp [State.bootWindowDue, boot, ended]
  · exact congrArg Host.Outcome.next (State.carryOut_runBy (p := (s.runBy dt).bypassOff) item dt rfl)
  · exact congrArg Host.Outcome.next (State.carryOut_runBy (p := (s.runBy dt).bypassOn) item dt rfl)
  · intro active
    refine ⟨State.pickBoth_lineAt active, s.enterActive_eq.trans ?_⟩
    exact congrArg s.setLines (LinePair.eq_of_settings s.enterActive_settings)
  · intro t converted settled given
    refine ⟨LinePair.eq_of_settings s.enterBypass_settings, s.enterBypass_lineAt, ?_, by simp [t]⟩
    have north : given .north s = s.setAgent (s.agent.takeGood .north ((converted .north).filter settled)) :=
      State.foldl_takeRequest s .north _
    have south : given .south (given .north s) = (given .north s).setAgent
        ((given .north s).agent.takeGood .south ((converted .south).filter settled)) :=
      State.foldl_takeRequest (given .north s) .south _
    rw [south, north]
    exact s.enterBypass_agent.trans s.converted_agent
  · rw [State.startFull_lineAt]
    rfl
  · exact s.convertFrame_of_gone p
  · intro waits passing active q
    have made := s.convertFrame_of_waiting p waits passing active
    have consumer : q.consumer = if q.payloadStarted = true ∧ s.recognizesManagement p.bytes = true
        then some .agent else none := by simp only [q, made]
    have started : q.payloadStarted = (p.toBypass .commanded s.clock.osc).payloadStarted := by simp only [q, made]
    refine ⟨by simp only [q, made]; rfl, ?_, ?_, by rw [started]; exact p.toBypass_payloadStarted _ _⟩
    · rw [consumer, ite_eq_left_iff, ← State.recognizesManagement_iff]
      simp
    · rw [consumer]
      split <;> simp
  · intro departed
    simp [Passage.meetFull, departed]
  · intro waits consumed
    simp [Passage.meetFull, waits, consumed]
  · intro waits passing
    simp [Passage.meetFull, Passage.toBypass, waits, passing]

end
end

section
/-! Dating (R120 to R131): the settle of a date, and the record that the frame-end event makes or loses. -/

namespace Sys2Proof.Machine

/-! ### Open dates -/

theorem Dater.setOpenDate_stream (d : Dater) (line : Line) (o : Option OpenDate) (i : Nat) :
    (d.setOpenDate line o).stream i = d.stream i := by cases line <;> rfl

theorem Dater.setOpenDate_queue (d : Dater) (line : Line) (o : Option OpenDate) :
    (d.setOpenDate line o).queue = d.queue := by cases line <;> rfl

theorem Dater.openDate_setOpenDate (d : Dater) (line : Line) (o : Option OpenDate) :
    (d.setOpenDate line o).openDate line = o := by cases line <;> rfl

theorem Dater.openDate_setOpenDate_other (d : Dater) (line : Line) (o : Option OpenDate) :
    (d.setOpenDate line o).openDate line.other = d.openDate line.other := by cases line <;> rfl

/-! ### The settle (R120 to R122) -/

section

variable {d : Dater} {k : Nat}

/-- A stream begins afresh first where its last date is the largest (R121). -/
theorem Dater.renew_stream (within : k < d.streams.length) : (d.renew k).stream k =
    if (d.stream k).lastDate = some largestDate then .fresh ((d.stream k).beginning + 1) else d.stream k := by
  unfold Dater.renew
  split
  · exact d.resetStream_stream_same within
  · rfl

theorem Dater.renew_stream_ne {i : Nat} (other : i ≠ k) : (d.renew k).stream i = d.stream i := by
  unfold Dater.renew
  split
  · exact d.resetStream_stream_ne (Ne.symm other)
  · rfl

theorem Dater.renew_length (d : Dater) (k : Nat) : (d.renew k).streams.length = d.streams.length := by
  unfold Dater.renew
  split
  · exact d.resetStream_streams_length k
  · rfl

theorem Dater.renew_frame (d : Dater) (k : Nat) :
    (d.renew k).queue = d.queue ∧ ∀ line, (d.renew k).openDate line = d.openDate line := by
  unfold Dater.renew
  split
  · exact ⟨rfl, fun line => by cases line <;> rfl⟩
  · exact ⟨rfl, fun _ => rfl⟩

theorem Dater.settled_of_none {h : DateHandoff} (within : h.stream < d.streams.length)
    (first : (d.stream h.stream).lastDate = none ∨ (d.stream h.stream).lastDate = some largestDate) :
    d.settled h = (candidateDate h.arrival h.offset, false) := by
  have none : ((d.renew h.stream).stream h.stream).lastDate = none := by
    rw [Dater.renew_stream within]
    rcases first with none | largest
    · simp [none]
    · simp [largest, StreamState.fresh]
  rw [Dater.settled, none]
  rfl

theorem Dater.settled_of_some {h : DateHandoff} {last : Nat} (within : h.stream < d.streams.length)
    (dated : (d.stream h.stream).lastDate = some last) (inside : last ≠ largestDate) :
    d.settled h = if last < candidateDate h.arrival h.offset then (candidateDate h.arrival h.offset, false)
      else (last + 1, true) := by
  have stands : ((d.renew h.stream).stream h.stream).lastDate = some last := by
    rw [Dater.renew_stream within, if_neg (by rw [dated, Option.some.injEq]; exact inside), dated]
  rw [Dater.settled, stands]
  rfl

end

theorem State.settle_stream {s : State} {h : DateHandoff} (within : h.stream < s.dater.streams.length) :
    (s.settle h).dater.stream h.stream =
      { (s.dater.renew h.stream).stream h.stream with lastDate := some (s.dater.settled h).1 } := by
  rw [State.settle, State.setDater_dater, Dater.setOpenDate_stream, Dater.modifyStream_stream,
    if_pos ⟨rfl, by rw [Dater.renew_length]; exact within⟩]

theorem State.settle_stream_ne (s : State) (h : DateHandoff) {k : Nat} (other : k ≠ h.stream) :
    (s.settle h).dater.stream k = s.dater.stream k := by
  rw [State.settle, State.setDater_dater, Dater.setOpenDate_stream, Dater.modifyStream_stream,
    if_neg fun both => other both.1, Dater.renew_stream_ne other]

theorem State.settle_openDate (s : State) (h : DateHandoff) :
    (s.settle h).dater.openDate h.line = some (s.openDateOf h) ∧
      (s.settle h).dater.openDate h.line.other = s.dater.openDate h.line.other ∧
      (s.settle h).dater.queue = s.dater.queue := by
  obtain ⟨queue, openDate⟩ := s.dater.renew_frame h.stream
  rw [State.settle, State.setDater_dater]
  refine ⟨Dater.openDate_setOpenDate _ _ _, ?_, ?_⟩
  · rw [Dater.openDate_setOpenDate_other, ← openDate]
    cases h.line.other <;> rfl
  · rw [Dater.setOpenDate_queue, ← queue]
    rfl

/-! ### The date record (R124, R126, R129, R130) -/

section

variable {s : State} {line : Line} {o : OpenDate} {good : Bool} {length : Nat}

theorem State.closeDate_orphaned (held : s.dater.openDate line = some o)
    (again : (s.dater.stream o.stream).beginning ≠ o.beginning) :
    s.closeDate line good length =
      s.setDater { s.dater.setOpenDate line none with orphaned := min 65535 (s.dater.orphaned + 1) } := by
  simp only [State.closeDate, held, if_pos again]
  cases line <;> rfl

theorem State.closeDate_bad (held : s.dater.openDate line = some o)
    (same : (s.dater.stream o.stream).beginning = o.beginning) :
    s.closeDate line false length = s.setDater (s.dater.setOpenDate line none) := by
  simp [State.closeDate, held, same]

theorem State.closeDate_good (held : s.dater.openDate line = some o)
    (same : (s.dater.stream o.stream).beginning = o.beginning) :
    s.closeDate line true length = (s.setDater (s.dater.setOpenDate line none)).offerRecord
      (Dater.recordOf (s.dater.setOpenDate line none) o length s.clock.osc) := by
  simp [State.closeDate, held, same]

end

/-- What makes room or loses a record reads nothing of the open dates. -/
theorem State.offerRecord_closed (s : State) (line : Line) (r : DateRecord) :
    (s.setDater (s.dater.setOpenDate line none)).offerRecord r =
      let changed (f : StreamState → StreamState) : Dater :=
        { s.dater.setOpenDate line none with streams := s.dater.streams.modify r.stream f }
      if s.dater.queue.length < 1024 then State.refreshDateReport
        { s with dater := { changed (fun y => { y with nextSeq := y.nextSeq + 1, gap := 0, armed := true }) with
          queue := s.dater.queue ++ [r] } }
      else
        let lost : State :=
          { s with
            dater := { changed (fun y => { y with nextSeq := y.nextSeq + 1, gap := y.gap + 1, armed := false }) with
              lostRecord := min 65535 (s.dater.lostRecord + 1) }
            rep := { s.rep with dateGap := true } }
        if (s.dater.stream r.stream).armed then
          lost.transition (.streamGap r.stream) (.gap false) (.gap true) (.gap r.seq (r.gap + 1))
        else lost := by
  cases line <;> rfl

end Sys2Proof.Machine

section

open Sys2Proof Sys2Proof.Machine

/-- Settles O37, by the last date of the stream: none, the largest, or one within the range of dates. -/
theorem settleKeepsDatesRising : Obligations.SettleKeepsDatesRising := by
  intro s h within before t after largest candidate
  have stands : after = { (s.dater.renew h.stream).stream h.stream with lastDate := some (s.dater.settled h).1 } :=
    State.settle_stream within
  obtain ⟨opened, other, queue⟩ := s.settle_openDate h
  have renewed := Dater.renew_stream (d := s.dater) within
  refine ⟨⟨s.openDateOf h, opened, by rw [stands]; rfl, rfl, by rw [stands]; rfl, rfl, rfl, rfl, rfl, rfl, rfl, fun none => ?_,
    fun last dated inside => ?_, fun dated => ?_⟩, fun dated => ?_, fun inside => ?_,
    fun k => s.settle_stream_ne h, queue, other, rfl⟩
  · have settled := Dater.settled_of_none within (.inl none)
    exact ⟨congrArg Prod.fst settled, congrArg Prod.snd settled⟩
  · have settled := Dater.settled_of_some within dated inside
    have date : (s.openDateOf h).date = (s.dater.settled h).1 := rfl
    have held : (s.openDateOf h).held = (s.dater.settled h).2 := rfl
    have candidate_eq : candidateDate h.arrival h.offset = candidate := rfl
    rw [date, held, settled, candidate_eq]
    by_cases later : last < candidate
    · simp [later, Nat.not_le.mpr later]
    · simp [later]
  · have settled := Dater.settled_of_none within (.inr dated)
    exact ⟨congrArg Prod.fst settled, congrArg Prod.snd settled⟩
  · rw [stands, renewed.trans (if_pos dated)]
  · rw [stands, renewed.trans (if_neg inside)]

/-- Settles O38, by whether the stream has begun again, the frame was good and the date queue has room. -/
theorem frameEndMakesOrLosesTheDateRecord : Obligations.FrameEndMakesOrLosesTheDateRecord := by
  refine ⟨fun s => rfl, fun d x => ⟨rfl, rfl⟩, fun s line good length o held => ?_⟩
  intro x closed changed record
  have recorded : Dater.recordOf (s.dater.setOpenDate line none) o length s.clock.osc = record := by
    simp only [Dater.recordOf, Dater.setOpenDate_stream, OpenDate.short]
    rfl
  refine ⟨State.closeDate_orphaned held, fun same bad => ?_, fun same fair room => ?_, fun same fair full => ?_⟩
  · rw [bad]
    exact State.closeDate_bad held same
  · rw [fair, State.closeDate_good held same, recorded, State.offerRecord_closed]
    exact if_pos room
  · intro lost
    rw [fair, State.closeDate_good held same, recorded, State.offerRecord_closed]
    exact if_neg (Nat.not_lt.mpr full)

end
end

section
/-! The transmit arbiter (R25, R32, R33): the own frame it picks, and the places that are offered. -/

namespace Sys2Proof.Machine

/-! ### Readiness (R25) -/

theorem Passage.ready_iff (p : Passage) : p.ready = true ↔
    p.consumer = none ∧ p.departedAt = none ∧
      (p.treatment = .active → p.classification = some .complete ∧ 64 ≤ p.bytes.length) ∧
      (p.treatment = .commanded → p.payloadStarted = true) := by
  unfold Passage.ready
  cases p.treatment <;> simp [and_assoc]

/-! ### The own frame of highest priority (R33) -/

/-- The place of a kind in the priority order is its rank. -/
theorem OwnKind.rank_eq_idxOf (k : OwnKind) :
    k.rank = [OwnKind.reply, .query, .grade, .response, .notice, .dateReport, .summary].idxOf k := by
  cases k <;> rfl

/-- A place holds the frame whose kind stands first, the first joined of that kind. -/
def IsBestPlace (queue : List OwnFrame) (i : Nat) (f : OwnFrame) : Prop :=
  queue[i]? = some f ∧ ∀ j g, queue[j]? = some g → f.kind.rank ≤ g.kind.rank ∧ (g.kind = f.kind → i ≤ j)

theorem IsBestPlace.append {queue : List OwnFrame} {i : Nat} {f : OwnFrame} (h : IsBestPlace queue i f) (x : OwnFrame)
    (not_better : f.kind.rank ≤ x.kind.rank) : IsBestPlace (queue ++ [x]) i f := by
  obtain ⟨here, best⟩ := h
  have within := (List.getElem?_eq_some_iff.mp here).1
  refine ⟨(List.getElem?_append_left within).trans here, fun j g found => ?_⟩
  rcases Nat.lt_or_ge j queue.length with low | high
  · exact best j g ((List.getElem?_append_left low).symm.trans found)
  · rw [List.getElem?_append_right high, List.getElem?_singleton] at found
    split at found
    · cases found
      exact ⟨not_better, fun _ => by omega⟩
    · contradiction

theorem IsBestPlace.last {queue : List OwnFrame} (x : OwnFrame)
    (better : ∀ (j : Nat) (g : OwnFrame), queue[j]? = some g → x.kind.rank < g.kind.rank) : IsBestPlace (queue ++ [x]) queue.length x := by
  refine ⟨by simp, fun j g found => ?_⟩
  rcases Nat.lt_or_ge j queue.length with low | high
  · have less := better j g ((List.getElem?_append_left low).symm.trans found)
    exact ⟨less.le, fun same => absurd less (by simp [same])⟩
  · rw [List.getElem?_append_right high, List.getElem?_singleton] at found
    split at found
    · cases found
      exact ⟨Nat.le_refl _, fun _ => high⟩
    · contradiction

theorem foldl_betterPlace (queue : List OwnFrame) :
    (queue = [] ∧ queue.zipIdx.foldl betterPlace none = none) ∨
      ∃ i f, IsBestPlace queue i f ∧ queue.zipIdx.foldl betterPlace none = some (f.kind, i) := by
  induction queue using List.reverseRecOn with
  | nil => exact .inl ⟨rfl, rfl⟩
  | append_singleton queue x ih =>
    right
    rw [List.zipIdx_append, List.foldl_append]
    rcases ih with ⟨rfl, _⟩ | ⟨i, f, best, fold⟩
    · exact ⟨0, x, .last x (by simp), rfl⟩
    · rw [fold]
      by_cases better : x.kind.rank < f.kind.rank
      · refine ⟨queue.length, x, .last x fun j g found => better.trans_le (best.2 j g found).1, ?_⟩
        simp [betterPlace, better]
      · refine ⟨i, f, best.append x (Nat.not_lt.mp better), ?_⟩
        simp [betterPlace, better]

theorem bestPlace_of_ne_nil {queue : List OwnFrame} (some : queue ≠ []) :
    ∃ i f, IsBestPlace queue i f ∧ bestPlace queue = .some i := by
  rcases foldl_betterPlace queue with ⟨none, _⟩ | ⟨i, f, best, fold⟩
  · exact absurd none some
  · exact ⟨i, f, best, by rw [bestPlace, fold]; rfl⟩

theorem State.passingPick_of_split {s : State} {line : Line} {before after : List Passage} {p : Passage}
    (feeding : s.feeding line = before ++ p :: after) (consumed : ∀ q ∈ before, q.consumer.isSome = true)
    (passing : p.consumer = none) : s.passingPick line = if p.ready then .pickedPassing else .idle := by
  rw [State.passingPick, feeding, oldestPassing_of_split consumed passing]

theorem State.passingPick_of_none {s : State} {line : Line} (consumed : ∀ q ∈ s.feeding line, q.consumer.isSome = true) :
    s.passingPick line = .idle := by
  rw [State.passingPick, oldestPassing_eq_none.mpr consumed]

/-- Where an own frame has no turn, a passing frame has. -/
theorem State.pickFor_of_no_turn {s : State} {line : Line} (none : ¬(s.lines.mode = .active ∧
    occupancy (s.feeding line) s.clock.osc ≤ s.lines.injectionLimit ∧ (s.lineAt line).origin ≠ [])) :
    s.pickFor line = s.passingPick line := by
  by_cases mode : s.lines.mode = .active
  · by_cases limit : occupancy (s.feeding line) s.clock.osc ≤ s.lines.injectionLimit
    · refine State.pickFor_of_no_own ?_
      rw [not_not.mp fun some => none ⟨mode, limit, some⟩]
      rfl
    · exact State.pickFor_of_passing (.inr (Nat.not_le.mp limit))
  · exact State.pickFor_of_passing (.inl mode)

/-! ### A frame joins (R33) -/

theorem State.join_lineAt_origin (s : State) (line : Line) (f : OwnFrame) :
    ((s.join line f).lineAt line).origin = (s.lineAt line).origin ++ [f] := by
  unfold State.join State.pickAtJoining
  split
  · rw [State.pick_lineAt, State.lineAt_setLine]
  · rw [State.lineAt_setLine]

/-! ### Places (R32) -/

theorem State.hasPlace_iff (s : State) (line : Line) : s.hasPlace line = true ↔ (s.lineAt line).origin.length < 8 := by
  simp [State.hasPlace]

theorem State.offer_lineAt {s t : State} {line : Line} {f : OwnFrame} (h : s.offer line = some (f, t)) (m : Line) :
    t.lineAt m = s.lineAt m := by
  have lines : t.lines = s.lines := by simp [State.offer_frame h]
  unfold State.lineAt
  rw [lines]

section

variable {n : Nat} {line : Line} {s t : State} {f : OwnFrame}

theorem State.fillPlaces_succ_of_full (full : 8 ≤ (s.lineAt line).origin.length) : State.fillPlaces (n + 1) line s = s := by
  have none : s.hasPlace line = false := by
    rw [Bool.eq_false_iff, Ne, State.hasPlace_iff]; omega
  simp [State.fillPlaces, none]

theorem State.fillPlaces_succ_of_none (none : s.offer line = none) : State.fillPlaces (n + 1) line s = s := by
  simp [State.fillPlaces, none]

theorem State.fillPlaces_succ_of_offer (room : (s.lineAt line).origin.length < 8) (offered : s.offer line = some (f, t)) :
    State.fillPlaces (n + 1) line s = State.fillPlaces n line (t.join line f) := by
  simp [State.fillPlaces, (s.hasPlace_iff line).mpr room, offered]

/-- As many rounds as there are free places offer every one. -/
theorem State.fillPlaces_enough (enough : 8 ≤ (s.lineAt line).origin.length + n) :
    State.fillPlaces (n + 1) line s = State.fillPlaces n line s := by
  induction n generalizing s with
  | zero => exact State.fillPlaces_succ_of_full enough
  | succ n ih =>
    rcases Nat.lt_or_ge (s.lineAt line).origin.length 8 with room | full
    · cases offered : s.offer line with
      | none => rw [State.fillPlaces_succ_of_none offered, State.fillPlaces_succ_of_none offered]
      | some x =>
        obtain ⟨f, t⟩ := x
        rw [State.fillPlaces_succ_of_offer room offered, State.fillPlaces_succ_of_offer room offered]
        refine ih ?_
        rw [State.join_lineAt_origin, State.offer_lineAt offered, List.length_append, List.length_singleton]
        omega
    · rw [State.fillPlaces_succ_of_full full, State.fillPlaces_succ_of_full full]

theorem State.fill_of_offer (room : (s.lineAt line).origin.length < 8) (offered : s.offer line = some (f, t)) :
    s.fill line = (t.join line f).fill line := by
  rw [State.fill, State.fillPlaces_succ_of_offer room offered, State.fill]
  refine (State.fillPlaces_enough ?_).symm
  rw [State.join_lineAt_origin, State.offer_lineAt offered, List.length_append, List.length_singleton]
  omega

theorem State.fill_of_nothing (nothing : 8 ≤ (s.lineAt line).origin.length ∨ s.offer line = none) : s.fill line = s :=
  nothing.elim State.fillPlaces_succ_of_full State.fillPlaces_succ_of_none

end

end Sys2Proof.Machine

section

open Sys2Proof Sys2Proof.Machine

/-- Settles O36. -/
theorem arbiterPicksByPriorityWithinTheLimit : Obligations.ArbiterPicksByPriorityWithinTheLimit := by
  refine ⟨Passage.ready_iff, fun s line => ⟨rfl, rfl, s.hasPlace_iff line⟩, fun s line f => ?_,
    fun s line => ⟨State.fill_of_nothing, fun f t => State.fill_of_offer⟩, fun s => ?_, fun s line => ?_⟩
  · intro l queued
    have doing : (queued.lineAt line).transmit = l.transmit := by simp only [queued, State.lineAt_setLine]
    refine ⟨fun picks => ?_, fun busy sending => ?_⟩
    · rw [State.join, State.pickAtJoining, if_pos (by rwa [← doing] at picks), State.pick, State.setLine_setLine,
        State.lineAt_setLine]
    · rw [State.join, State.pickAtJoining, if_neg (by rw [← doing] at busy sending; exact not_or.mpr ⟨busy, sending⟩)]
  · intro reported collected
    have report : (s.takeNotice <|> s.takeDateReport <|> s.takeSummary) = reported := by
      simp only [reported, State.takeNotice, State.takeDateReport, State.takeSummary]
      split
      · rfl
      · split
        · rfl
        · split <;> rfl
    refine ⟨fun e rest queue => ?_, fun f queue grade => ?_, fun queue grade => ?_, fun f query => ?_, fun query => ?_⟩
    · simp [State.offer, State.takeReply, queue]
      rfl
    · simp [State.offer, State.takeReply, State.takeGrade, queue, grade]
      rfl
    · have reply : s.takeReply = none := by simp [State.takeReply, queue]
      have waiting : s.takeGrade = none := by simp [State.takeGrade, grade]
      rw [State.offer, report, reply, waiting]
      rfl
    · simp [State.offer, State.takeQuery, query]
      rfl
    · have waiting : s.takeQuery = none := by simp [State.takeQuery, query]
      rw [State.offer, report, waiting]
      rfl
  · intro feeding origin order ownTurn
    refine ⟨fun ⟨mode, limit, waiting⟩ => ?_, fun none => ?_⟩
    · obtain ⟨i, f, ⟨here, best⟩, place⟩ := bestPlace_of_ne_nil waiting
      refine ⟨i, f, here, State.pickFor_of_own mode limit place, fun j g found => ?_⟩
      obtain ⟨rank, first⟩ := best j g found
      rw [OwnKind.rank_eq_idxOf, OwnKind.rank_eq_idxOf] at rank
      exact ⟨rank, first⟩
    · have passing := State.pickFor_of_no_turn none
      exact ⟨fun before p after split consumed waits => passing.trans (State.passingPick_of_split split consumed waits),
        fun consumed => passing.trans (State.passingPick_of_none consumed)⟩

end
end

section
/-! Bytes on the line (R41, R174): numbers written and read, the most significant byte first, and the fields of a frame. -/

namespace Sys2Proof.Machine

/-! ### Numbers in bytes -/

@[simp] theorem beBytes_length (width n : Nat) : (beBytes width n).length = width := by
  induction width generalizing n with
  | zero => rfl
  | succ w ih => simp [beBytes, ih]

theorem beNat_append_singleton (l : List Byte) (b : Byte) : beNat (l ++ [b]) = beNat l * 256 + b.toNat := by
  simp [beNat, List.foldl_append]

theorem beNat_beBytes (width n : Nat) : beNat (beBytes width n) = n % 256 ^ width := by
  induction width generalizing n with
  | zero => simp [beBytes, beNat, Nat.mod_one]
  | succ w ih =>
    have split := Nat.mod_mul (x := n) (a := 256) (b := 256 ^ w)
    rw [← Nat.pow_succ'] at split
    rw [beBytes, beNat_append_singleton, ih, BitVec.toNat_ofNat, split]
    omega

theorem beNat_lt (l : List Byte) : beNat l < 256 ^ l.length := by
  induction l using List.reverseRecOn with
  | nil => simp [beNat]
  | append_singleton l b ih =>
    rw [beNat_append_singleton, List.length_append, List.length_singleton, Nat.pow_succ]
    have := b.isLt
    omega

theorem beBytes_beNat (l : List Byte) : beBytes l.length (beNat l) = l := by
  induction l using List.reverseRecOn with
  | nil => rfl
  | append_singleton l b ih =>
    have low := b.isLt
    have high : (beNat l * 256 + b.toNat) / 256 = beNat l := by omega
    have byte : BitVec.ofNat 8 (beNat l * 256 + b.toNat) = b := by
      apply BitVec.eq_of_toNat_eq
      rw [BitVec.toNat_ofNat]
      omega
    rw [List.length_append, List.length_singleton, beNat_append_singleton, beBytes, high, byte, ih]

/-! ### Fields -/

theorem bytesAt_eq_some {bytes f : List Byte} {offset width : Nat} :
    bytesAt bytes offset width = some f ↔ (bytes.drop offset).take width = f ∧ f.length = width := by
  simp only [bytesAt, Option.ite_none_right_eq_some, Option.some.injEq]
  constructor
  · rintro ⟨length, rfl⟩; exact ⟨rfl, length⟩
  · rintro ⟨rfl, length⟩; exact ⟨length, rfl⟩

theorem bytesAt_of_le {bytes : List Byte} {offset width : Nat} (inside : offset + width ≤ bytes.length) :
    bytesAt bytes offset width = some ((bytes.drop offset).take width) :=
  bytesAt_eq_some.mpr ⟨rfl, by rw [List.length_take, List.length_drop]; omega⟩

theorem bytesAt_of_lt {bytes : List Byte} {offset width : Nat} (some : 0 < width) (outside : bytes.length < offset + width) :
    bytesAt bytes offset width = none := by
  simp only [bytesAt, List.length_take, List.length_drop, ite_eq_right_iff, reduceCtorEq, imp_false]
  omega

theorem natAt_of_le {bytes : List Byte} {offset width : Nat} (inside : offset + width ≤ bytes.length) :
    natAt bytes offset width = some (beNat ((bytes.drop offset).take width)) := by
  rw [natAt, bytesAt_of_le inside]; rfl

theorem natAt_of_lt {bytes : List Byte} {offset width : Nat} (some : 0 < width) (outside : bytes.length < offset + width) :
    natAt bytes offset width = none := by
  rw [natAt, bytesAt_of_lt some outside]; rfl

theorem natAt_eq_some {bytes : List Byte} {offset width n : Nat} (fits : n < 256 ^ width) :
    natAt bytes offset width = some n ↔ (bytes.drop offset).take width = beBytes width n := by
  simp only [natAt, Option.map_eq_some_iff, bytesAt_eq_some]
  constructor
  · rintro ⟨f, ⟨taken, length⟩, rfl⟩
    rw [taken, ← length, beBytes_beNat]
  · intro taken
    exact ⟨_, ⟨taken, beBytes_length _ _⟩, by rw [beNat_beBytes, Nat.mod_eq_of_lt fits]⟩

/-- A word read at a place is the one whose bytes stand there. -/
theorem natAt_map_ofNat {bytes : List Byte} {offset width v : Nat} (whole : 2 ^ v = 256 ^ width) (a : BitVec v) :
    (natAt bytes offset width).map (BitVec.ofNat v) = some a ↔ (bytes.drop offset).take width = beBytes width a.toNat := by
  rw [← natAt_eq_some (whole ▸ a.isLt), Option.map_eq_some_iff]
  constructor
  · rintro ⟨n, read, rfl⟩
    have fits : n < 2 ^ v := by
      simp only [natAt, Option.map_eq_some_iff, bytesAt_eq_some] at read
      obtain ⟨f, ⟨-, length⟩, rfl⟩ := read
      rw [whole, ← length]
      exact beNat_lt f
    rw [read, BitVec.toNat_ofNat, Nat.mod_eq_of_lt fits]
  · intro read
    exact ⟨_, read, by simp⟩

/-! ### The places of a frame's fields (R41, R174) -/

theorem hasTag_iff (bytes : List Byte) : hasTag bytes = true ↔ (bytes.drop 12).take 2 = [0x81, 0x00] := by
  rw [hasTag, beq_iff_eq, natAt_eq_some (by decide)]
  rfl

theorem payloadStart_eq (bytes : List Byte) :
    payloadStart bytes = if (bytes.drop 12).take 2 = [0x81, 0x00] then 18 else 14 := by
  simp only [payloadStart, hasTag_iff]

theorem destinationOf_eq_some {bytes : List Byte} {a : Address} :
    destinationOf bytes = some a ↔ bytes.take 6 = beBytes 6 a.toNat := natAt_map_ofNat (by decide) a

theorem sourceOf_eq_some {bytes : List Byte} {a : Address} :
    sourceOf bytes = some a ↔ (bytes.drop 6).take 6 = beBytes 6 a.toNat := natAt_map_ofNat (by decide) a

theorem typeOf_eq_some {bytes : List Byte} {t : BitVec 16} :
    typeOf bytes = some t ↔ (bytes.drop (payloadStart bytes - 2)).take 2 = beBytes 2 t.toNat := natAt_map_ofNat (by decide) t

end Sys2Proof.Machine
end

section
/-! Fixed recognition and classification (R28, R40 to R45, R125). -/

namespace Sys2Proof.Machine

theorem exec_classificationComplete (s : State) (dt : Nat) (line : Line) :
    exec (.classificationComplete dt line) s = .next ((s.runBy dt).completeClassification line) := rfl

theorem exec_bypassPayloadStart (s : State) (dt : Nat) (line : Line) :
    exec (.bypassPayloadStart dt line) s = .next ((s.runBy dt).startPayload line) := rfl

section

variable {s : State} {line : Line} {p : Passage}

/-! ### Recognition (R28) -/

theorem State.recognize_management (addressed : destinationOf p.bytes = some s.agent.address)
    (type : typeOf p.bytes = some s.lines.managementType) : s.recognize line p.bytes = some .agent := by
  simp [State.recognize, (s.recognizesManagement_iff p.bytes).mpr ⟨addressed, type⟩]

theorem State.recognize_timing (addressed : destinationOf p.bytes = some s.agent.address)
    (type : typeOf p.bytes = some s.lines.timingType) (other : typeOf p.bytes ≠ some s.lines.managementType) :
    s.recognize line p.bytes = some (s.timingConsumer line p.bytes) := by
  have management : s.recognizesManagement p.bytes = false := by
    rw [Bool.eq_false_iff, Ne, State.recognizesManagement_iff]
    exact fun both => other both.2
  have address : s.addressed p.bytes = true := by simp [State.addressed, addressed]
  simp [State.recognize, management, address, type]

/-- A frame that is not addressed to the part, or of neither of the part's types, passes. -/
theorem State.recognize_none (passes : destinationOf p.bytes ≠ some s.agent.address ∨
    (typeOf p.bytes ≠ some s.lines.managementType ∧ typeOf p.bytes ≠ some s.lines.timingType)) :
    s.recognize line p.bytes = none := by
  simp only [State.recognize, State.recognizesManagement, State.addressed]
  rcases passes with address | ⟨management, timing⟩
  · simp [address]
  · simp [management, timing]

theorem State.completeClassification_consumed {c : Consumer} (arriving : (s.lineAt line).arriving = some p)
    (pending : p.classification = some .pending) (taken : s.recognize line p.bytes = some c) :
    s.completeClassification line = s.consume line p c := by
  simp [State.completeClassification, arriving, pending, taken]

theorem State.completeClassification_passing (arriving : (s.lineAt line).arriving = some p)
    (pending : p.classification = some .pending) (passes : s.recognize line p.bytes = none) :
    s.completeClassification line = s.passOn line p := by
  simp [State.completeClassification, arriving, pending, passes]

theorem State.consume_block {c : Consumer} (block : c ≠ .nobody) :
    s.consume line p c = s.setArriving line { p with classification := some .complete, consumer := some c } := by
  simp [State.consume, block]

theorem State.consume_nobody :
    let t := s.setArriving line { p with classification := some .complete, consumer := some .nobody }
    s.consume line p .nobody =
      t.setLine line { t.lineAt line with misdirected := min 65535 ((s.lineAt line).misdirected + 1) } := by
  have kept (q : Passage) : ((s.setArriving line q).lineAt line).misdirected = (s.lineAt line).misdirected := by
    rw [State.setArriving, State.lineAt_setLine]; rfl
  simp [State.consume, kept, count16, satIncr]

theorem State.timingConsumer_exchange (north : line = .north) (kind : payloadByte p.bytes 1 = some 2)
    (domain : (payloadByte p.bytes 2).map BitVec.toNat = some s.exch.northDomain) :
    s.timingConsumer line p.bytes = .exchange := by
  obtain ⟨b, second, value⟩ := Option.map_eq_some_iff.mp domain
  simp [State.timingConsumer, kind, second, value, north, kindReply]

theorem State.timingConsumer_south (south : line = .south) (kind : payloadByte p.bytes 1 = some 1)
    (domain : (payloadByte p.bytes 2).map BitVec.toNat = some s.south.domain) :
    s.timingConsumer line p.bytes = .south := by
  obtain ⟨b, second, value⟩ := Option.map_eq_some_iff.mp domain
  simp [State.timingConsumer, kind, second, value, south, kindReply, kindQuery]

theorem State.timingConsumer_nobody
    (not_reply : ¬(line = .north ∧ payloadByte p.bytes 1 = some 2 ∧
      (payloadByte p.bytes 2).map BitVec.toNat = some s.exch.northDomain))
    (not_query : ¬(line = .south ∧ payloadByte p.bytes 1 = some 1 ∧
      (payloadByte p.bytes 2).map BitVec.toNat = some s.south.domain)) :
    s.timingConsumer line p.bytes = .nobody := by
  unfold State.timingConsumer
  split
  · rename_i kind domain first second
    simp only [first, second, Option.some.injEq, Option.map_some] at not_reply not_query
    rw [if_neg fun h => not_reply ⟨h.2.1, h.1, h.2.2⟩, if_neg fun h => not_query ⟨h.2.1, h.1, h.2.2⟩]
  · rfl

theorem State.startPayload_eq (arriving : (s.lineAt line).arriving = some p) (commanded : p.treatment = .commanded)
    (passing : p.consumer = none) (first : p.payloadStarted = false) (come : payloadStart p.bytes < p.bytes.length) :
    s.startPayload line =
      if s.recognizesManagement p.bytes then
        s.setArriving line { p with payloadStarted := true, consumer := some .agent }
      else (s.setArriving line { p with payloadStarted := true }).pickIfIdle line.other := by
  simp only [State.startPayload, arriving]
  rw [if_pos ⟨commanded, passing, first, come⟩]

end

/-! ### What fits an entry (R41, R42, R45) -/

theorem EntryLine.fits_iff (e : EntryLine) (line : Line) : e.fits line = true ↔
    e = .either ∨ (e = .north ∧ line = .north) ∨ (e = .south ∧ line = .south) := by
  cases e <;> cases line <;> simp [EntryLine.fits]

theorem ByteTerm.fits_iff (t : ByteTerm) (bytes : List Byte) : t.fits bytes = true ↔
    ∃ b, bytes[payloadStart bytes + t.offset]? = some b ∧ b &&& t.mask = t.value &&& t.mask := by
  unfold ByteTerm.fits payloadByte
  split
  · rename_i b here; simp [here]
  · rename_i missing; simp [missing]

theorem ClassEntry.fits_iff (e : ClassEntry) (line : Line) (bytes : List Byte) : e.fits line bytes = true ↔
    e.enabled = true ∧ e.line.fits line = true ∧ (∀ t, e.typeValue = some t → typeOf bytes = some t) ∧
      (∀ a, e.source = some a → sourceOf bytes = some a) ∧ ∀ t, some t ∈ e.terms → t.fits bytes = true := by
  unfold ClassEntry.fits
  rw [Bool.and_eq_true, List.all_eq_true]
  refine Iff.trans (and_congr_right' (c := ∀ t, some t ∈ e.terms → t.fits bytes = true)
    ⟨fun all t mem => all _ mem, fun all t mem => ?_⟩) ?_
  · cases t with
    | none => rfl
    | some t => exact all t mem
  cases e.typeValue <;> cases e.source <;> simp [and_assoc]

section

variable {e : ClassEntry} {bytes : List Byte} {n : Nat}

theorem shortStampAt_of_le {place : Nat} (inside : place + 10 ≤ bytes.length) : shortStampAt bytes place =
    some { seconds := beNat ((bytes.drop place).take 6), nanos := beNat ((bytes.drop (place + 6)).take 4), fraction := 0 } := by
  rw [shortStampAt, natAt_of_le (by omega), natAt_of_le (by omega)]
  rfl

theorem shortStampAt_of_lt {place : Nat} (outside : bytes.length < place + 10) : shortStampAt bytes place = none := by
  rw [shortStampAt, natAt_of_lt (offset := place + 6) (by decide) (by omega)]
  cases natAt bytes place 6 <;> rfl

theorem ClassEntry.issueStamp_none (absent : e.issueOffset = none) : e.issueStamp bytes = none := by
  simp [ClassEntry.issueStamp, absent]

theorem ClassEntry.issueStamp_outside (present : e.issueOffset = some n) (outside : bytes.length < payloadStart bytes + n + 10) :
    e.issueStamp bytes = none := by
  simp [ClassEntry.issueStamp, present, shortStampAt_of_lt outside]

theorem ClassEntry.issueStamp_inside (present : e.issueOffset = some n) (inside : payloadStart bytes + n + 10 ≤ bytes.length) :
    e.issueStamp bytes =
      if beNat ((bytes.drop (payloadStart bytes + n + 6)).take 4) < 1000000000 then
        some
          { seconds := beNat ((bytes.drop (payloadStart bytes + n)).take 6)
            nanos := beNat ((bytes.drop (payloadStart bytes + n + 6)).take 4)
            fraction := 0 }
      else none := by
  simp [ClassEntry.issueStamp, present, shortStampAt_of_le inside, RawStamp.isInstant]

end

/-! ### The classification of a passing frame (R43 to R45, R125) -/

section

variable {s : State} {line : Line} {p : Passage} {bank : Bank} {k : Nat} {e : ClassEntry} {source : Address}

theorem State.corrects_iff (s : State) (bytes : List Byte) : s.corrects bytes = true ↔
    s.lines.transitCorrection = true ∧ typeOf bytes = some s.lines.timingType ∧ payloadByte bytes 0 = some 2 ∧
      payloadStart bytes + 26 ≤ bytes.length := by
  simp [State.corrects, fieldInside, timingVersion, and_assoc]

theorem State.passOn_of_classified {t : State} {more : List Edit} (classified : s.runClassifier line p = (t, more)) :
    s.passOn line p =
      (t.setArriving line { p with
        classification := some .complete
        edits := (if s.corrects p.bytes then [.correctionAdd] else []) ++ more }).pickIfIdle line.other := by
  simp only [State.passOn, classified]

theorem State.runClassifier_none (noted : p.notedBank = some bank)
    (none : ∀ e ∈ s.cls.entries bank, e.fits line p.bytes = false) : s.runClassifier line p = (s, []) := by
  have matched : s.matched line p = .none := by
    simpa [State.matched, noted, List.findIdx?_eq_none_iff] using none
  simp [State.runClassifier, matched]

/-- The first entry that fits is the one whose actions are made. -/
theorem State.runClassifier_first (noted : p.notedBank = some bank) (entry : (s.cls.entries bank)[k]? = some e)
    (fits : e.fits line p.bytes = true)
    (first : ∀ (j : Nat) (e' : ClassEntry), j < k → (s.cls.entries bank)[j]? = some e' → e'.fits line p.bytes = false) :
    s.runClassifier line p = (s.countMatch k).actions line p k e := by
  obtain ⟨within, here⟩ := List.getElem?_eq_some_iff.mp entry
  have matched : s.matched line p = some k := by
    simp only [State.matched, noted, List.findIdx?_eq_some_iff_getElem]
    refine ⟨within, by rw [here]; exact fits, fun j below => ?_⟩
    rw [first j _ below (List.getElem?_eq_getElem (by omega))]
    decide
  have noted_entry : s.notedEntry p k = e := by
    simp [State.notedEntry, noted, List.getD_eq_getElem?_getD, entry]
  simp only [State.runClassifier, matched, noted_entry]

theorem State.actions_short (short : p.bytes.length < 64) : s.actions line p k e = (s, []) := by
  unfold State.actions
  split
  · rw [if_pos short]
  · rfl

theorem State.actions_undated (long : 64 ≤ p.bytes.length) (from_ : sourceOf p.bytes = some source) (date : e.date = false) :
    s.actions line p k e = (s.sampleAction line p e source, []) := by
  simp [State.actions, from_, Nat.not_lt.mpr long, date]

theorem State.actions_dated (long : 64 ≤ p.bytes.length) (from_ : sourceOf p.bytes = some source) (date : e.date = true) :
    let t := s.sampleAction line p e source
    let h := t.handoffOf line p k e source
    s.actions line p k e = (t.settle h, stampEdit e (t.dater.settled h).1) := by
  simp [State.actions, from_, Nat.not_lt.mpr long, date]

theorem State.sampleAction_dater (s : State) (line : Line) (p : Passage) (e : ClassEntry) (source : Address) :
    (s.sampleAction line p e source).dater = s.dater := by
  simp

end

end Sys2Proof.Machine

section

open Sys2Proof Sys2Proof.Machine

/-- Settles O28. -/
theorem recognitionConsumesByTypeKindLineAndDomain : Obligations.RecognitionConsumesByTypeKindLineAndDomain := by
  refine ⟨fun bytes => ?_, fun s dt line p arriving => ?_⟩
  · intro start
    have place : payloadStart bytes = start := payloadStart_eq bytes
    refine ⟨place, fun a => destinationOf_eq_some, fun a => sourceOf_eq_some, fun t => ?_, fun n => ?_, ?_⟩
    · rw [← place]; exact typeOf_eq_some
    · rw [← place]; rfl
    · rw [← place]; rfl
  · intro u addressed timing kindIs
    have arriving : (u.lineAt line).arriving = some p := arriving
    refine ⟨fun pending here => ?_, fun commanded passing first come => ⟨fun here type => ?_, fun other => ?_⟩⟩
    · intro consumedBy
      have block {c : Consumer} (taken : u.recognize line p.bytes = some c) (block : c ≠ .nobody) :
          exec (.classificationComplete dt line) s = .next (consumedBy c) := by
        rw [exec_classificationComplete, State.completeClassification_consumed arriving pending taken,
          State.consume_block block]
      refine ⟨fun type => ?_, fun ⟨type, other⟩ north ⟨kind, domain⟩ => ?_, fun ⟨type, other⟩ south ⟨kind, domain⟩ => ?_,
        fun ⟨type, other⟩ not_reply not_query => ?_⟩
      · exact block (State.recognize_management here type) (by decide)
      · refine block (c := .exchange) ?_ (by decide)
        rw [State.recognize_timing (s := u) here type other, State.timingConsumer_exchange (s := u) north kind domain]
      · refine block (c := .south) ?_ (by decide)
        rw [State.recognize_timing (s := u) here type other, State.timingConsumer_south (s := u) south kind domain]
      · intro t
        have taken : u.recognize line p.bytes = some .nobody := by
          rw [State.recognize_timing (s := u) here type other, State.timingConsumer_nobody (s := u) not_reply not_query]
        rw [exec_classificationComplete, State.completeClassification_consumed arriving pending taken, State.consume_nobody]
        rfl
    · rw [exec_bypassPayloadStart, State.startPayload_eq arriving commanded passing first come,
        if_pos ((u.recognizesManagement_iff p.bytes).mpr ⟨here, type⟩)]
    · rw [exec_bypassPayloadStart, State.startPayload_eq arriving commanded passing first come, if_neg]
      rw [State.recognizesManagement_iff]
      exact fun both => other.elim (fun not => not both.1) (fun not => not both.2)

/-- Settles O29, by the first entry of the noted bank that fits, the frame's length and what the entry asks for. -/
theorem passingFrameIsClassifiedByItsFirstFit : Obligations.PassingFrameIsClassifiedByItsFirstFit := by
  refine ⟨fun e line bytes => ?_, fun s dt line p bank arriving pending noted passes => ?_⟩
  · intro start number
    have place : payloadStart bytes = start := payloadStart_eq bytes
    refine ⟨?_, ClassEntry.issueStamp_none, fun n present => ?_⟩
    · rw [ClassEntry.fits_iff, EntryLine.fits_iff]
      simp only [ByteTerm.fits_iff, typeOf_eq_some, sourceOf_eq_some, place]
    · intro at_ nanos
      have at_eq : at_ = payloadStart bytes + n := by rw [place]
      refine ⟨fun h => ?_, fun inside instant => ?_⟩
      · rcases Nat.lt_or_ge bytes.length (payloadStart bytes + n + 10) with outside | inside
        · exact ClassEntry.issueStamp_outside present outside
        · have late : 1000000000 ≤ nanos := h.resolve_left (by rw [at_eq]; omega)
          rw [ClassEntry.issueStamp_inside present inside, if_neg]
          simp only [nanos, number, at_eq] at late
          exact Nat.not_lt.mpr late
      · simp only [nanos, number, at_eq] at inside instant ⊢
        rw [ClassEntry.issueStamp_inside present inside]
        exact if_pos instant
  · intro u first ready entries
    have arriving : (u.lineAt line).arriving = some p := arriving
    have edits : (if u.corrects p.bytes then [Edit.correctionAdd] else []) = first := by
      simp only [State.corrects_iff, first]
      rfl
    have classified {t : State} {more : List Edit} (h : u.runClassifier line p = (t, more)) :
        exec (.classificationComplete dt line) s = .next (ready t more) := by
      rw [exec_classificationComplete,
        State.completeClassification_passing arriving pending (State.recognize_none (s := u) passes),
        State.passOn_of_classified h, edits]
    refine ⟨fun none => classified (State.runClassifier_none (s := u) noted none), fun k e entry fits earlier => ?_⟩
    have hit := State.runClassifier_first (s := u) noted entry fits earlier
    intro counted
    refine ⟨fun short => classified (hit.trans (State.actions_short short)), fun source long from_ => ?_⟩
    intro sampled hand
    have sample : State.sampleAction counted line p e source = sampled := by
      simp only [State.sampleAction, sampled]
      rfl
    refine ⟨fun undated => classified (hit.trans ?_), fun dated => classified (hit.trans ?_)⟩
    · exact (State.actions_undated long from_ undated).trans (by rw [← sample]; rfl)
    · refine (State.actions_dated long from_ dated).trans ?_
      have dater : sampled.dater = s.dater := by
        rw [← sample, State.sampleAction_dater]
        rfl
      have same : State.sampleAction (State.countMatch u k) line p e source = sampled := sample
      rw [same, dater]
      rfl

end
end

section
/-! The check sequence (R26, R27, R174) and the edits of a frame as it leaves (R30, R123). -/

namespace Sys2Proof.Machine

/-! ### The division of R174 and its reflected form -/

/-- The polynomial of R174, without its highest term. -/
def generator : BitVec 32 :=
  ([26, 23, 22, 16, 12, 11, 10, 8, 7, 5, 4, 2, 1, 0].map fun k => 1#32 <<< k).foldl (fun x y => x ||| y) 0

/-- One bit enters the division. -/
def divideBit (r : BitVec 32) (bit : Bool) : BitVec 32 := if r.msb != bit then (r <<< 1) ^^^ generator else r <<< 1

/-- One bit enters the division held reflected. -/
def divideReflected (r : BitVec 32) (bit : Bool) : BitVec 32 :=
  if r.getLsbD 0 != bit then (r >>> 1) ^^^ 0xEDB88320#32 else r >>> 1

/-- The bits of some bytes, each byte's least significant first. -/
def bitsOf (bytes : List Byte) : List Bool := bytes.flatMap fun b => (List.range 8).map fun k => b.getLsbD k

theorem generator_reverse : generator.reverse = 0xEDB88320#32 := by decide +kernel

theorem reverse_xor (x y : BitVec 32) : (x ^^^ y).reverse = x.reverse ^^^ y.reverse := by
  ext i h
  simp [BitVec.getElem_reverse, BitVec.getMsbD_xor]

theorem reverse_shiftLeft_one (x : BitVec 32) : (x <<< 1).reverse = x.reverse >>> 1 := by
  ext i h
  simp [BitVec.getElem_reverse, BitVec.getMsbD_shiftLeft, BitVec.getLsbD_reverse, Nat.add_comm]

theorem reverse_divideBit (r : BitVec 32) (bit : Bool) : (divideBit r bit).reverse = divideReflected r.reverse bit := by
  have top : r.reverse.getLsbD 0 = r.msb := by rw [BitVec.getLsbD_reverse]; rfl
  unfold divideBit divideReflected
  rw [top]
  split
  · rw [reverse_xor, reverse_shiftLeft_one, generator_reverse]
  · rw [reverse_shiftLeft_one]

/-- A word added to the register enters the division one bit at a time. -/
theorem crcBit_xor (r z : BitVec 32) : crcBit (r ^^^ z) = divideReflected r (z.getLsbD 0) ^^^ (z >>> 1) := by
  unfold crcBit divideReflected
  rw [BitVec.getLsbD_xor, BitVec.ushiftRight_xor_distrib]
  split
  · ac_rfl
  · rfl

theorem crcByte_eq (r : BitVec 32) (b : Byte) :
    crcByte r b = ((List.range 8).map fun k => b.getLsbD k).foldl divideReflected r := by
  have spent : b.setWidth 32 >>> 1 >>> 1 >>> 1 >>> 1 >>> 1 >>> 1 >>> 1 >>> 1 = 0#32 := by
    apply BitVec.eq_of_toNat_eq
    have := b.isLt
    simp only [BitVec.toNat_ushiftRight, BitVec.toNat_setWidth, BitVec.toNat_ofNat, Nat.shiftRight_eq_div_pow]
    omega
  simp only [crcByte, crcBit_xor, spent, BitVec.xor_zero]
  simp [List.range, List.range.loop]

theorem crcRegister_eq (bytes : List Byte) :
    crcRegister bytes = ((bitsOf bytes).foldl divideBit (BitVec.allOnes 32)).reverse := by
  have reflected (bits : List Bool) (r : BitVec 32) :
      (bits.foldl divideBit r).reverse = bits.foldl divideReflected r.reverse := by
    induction bits generalizing r with
    | nil => rfl
    | cons bit bits ih => rw [List.foldl_cons, ih, reverse_divideBit, List.foldl_cons]
  have ones : (BitVec.allOnes 32).reverse = 0xFFFFFFFF#32 := by decide +kernel
  rw [reflected, bitsOf, List.foldl_flatMap, ones]
  simp only [← crcByte_eq]
  rfl

/-! ### Check sequences -/

theorem checkBytes_bit (c : BitVec 32) {i j : Nat} (hi : i < 4) (hj : j < 8) :
    ∃ b, (checkBytes c)[i]? = some b ∧ b.getLsbD j = c.getLsbD (8 * i + j) := by
  obtain rfl | rfl | rfl | rfl : i = 0 ∨ i = 1 ∨ i = 2 ∨ i = 3 := by omega
  all_goals exact ⟨_, rfl, by simp [BitVec.getLsbD_ushiftRight, hj]⟩

theorem setWidth_shiftRight_not (c : BitVec 32) {k : Nat} (low : k ≤ 24) :
    (~~~c >>> k).setWidth 8 = ~~~((c >>> k).setWidth 8) := by
  ext i h
  have inside : k + i < 32 := by omega
  simp [BitVec.getLsbD_ushiftRight, inside]

theorem checkBytes_not (c : BitVec 32) : checkBytes (~~~c) = (checkBytes c).map fun b => ~~~b := by
  have first : (~~~c).setWidth 8 = ~~~(c.setWidth 8) := setWidth_shiftRight_not c (Nat.zero_le 24)
  simp only [checkBytes, List.map, first, setWidth_shiftRight_not c (by decide : 8 ≤ 24),
    setWidth_shiftRight_not c (by decide : 16 ≤ 24), setWidth_shiftRight_not c (by decide : 24 ≤ 24)]

theorem checkSequence_length (bytes : List Byte) : (checkSequence bytes).length = 4 := rfl

theorem stompedSequence_length (bytes : List Byte) : (stompedSequence bytes).length = 4 := rfl

theorem stompedSequence_eq (bytes : List Byte) : stompedSequence bytes = (checkSequence bytes).map fun b => ~~~b := by
  rw [checkSequence, ← checkBytes_not, BitVec.not_not]
  rfl

theorem stompedSequence_ne (bytes : List Byte) : stompedSequence bytes ≠ checkSequence bytes := by
  rw [stompedSequence_eq]
  intro same
  have first := congrArg List.head? same
  simp only [checkSequence, checkBytes, List.map_cons, List.head?_cons, Option.some.injEq] at first
  have bit := congrArg (BitVec.getLsbD · 0) first
  simp at bit

/-- A check sequence is the remainder, its coefficient of x^31 in the least significant bit of the first byte. -/
theorem checkSequence_bit (bytes : List Byte) {i j : Nat} (hi : i < 4) (hj : j < 8) :
    ∃ b, (checkSequence bytes)[i]? = some b ∧
      b.getLsbD j = (~~~((bitsOf bytes).foldl divideBit (BitVec.allOnes 32))).getLsbD (31 - (8 * i + j)) := by
  obtain ⟨b, here, bit⟩ := checkBytes_bit (~~~crcRegister bytes) hi hj
  refine ⟨b, here, bit.trans ?_⟩
  have inside : 8 * i + j < 32 := by omega
  have mirrored : 31 - (8 * i + j) < 32 := by omega
  rw [crcRegister_eq, BitVec.getLsbD_not, BitVec.getLsbD_not, BitVec.getLsbD_reverse, BitVec.getMsbD_eq_getLsbD]
  simp [inside, mirrored]

theorem withoutCheck_append {bytes check : List Byte} (four : check.length = 4) : withoutCheck (bytes ++ check) = bytes := by
  simp [withoutCheck, four]

theorem checkGood_append {bytes check : List Byte} (four : check.length = 4) :
    checkGood (bytes ++ check) = (check == checkSequence bytes) := by
  rw [checkGood, withoutCheck_append four]
  simp [four]

theorem checkGood_computed (bytes : List Byte) : checkGood (bytes ++ checkSequence bytes) = true := by
  rw [checkGood_append (checkSequence_length bytes), beq_self_eq_true]

theorem checkGood_stomped (bytes : List Byte) : checkGood (bytes ++ stompedSequence bytes) = false := by
  rw [checkGood_append (stompedSequence_length bytes)]
  simpa using stompedSequence_ne bytes

/-! ### A frame as sent (R26, R27) -/

section

variable {p : Passage}

/-- The bytes of a frame with its edits applied, and whether any was written. -/
def Passage.edited (p : Passage) : List Byte × Bool := p.edits.foldl p.applyEdit (p.bytes, false)

theorem Passage.sentBytes_cut {n : Nat} (cut : p.cutAt = some n) :
    p.sentBytes = p.edited.1.take n ++ stompedSequence (p.edited.1.take n) := by
  simp only [Passage.sentBytes, cut]
  rfl

theorem Passage.sentBytes_written (whole : p.cutAt = none) (written : p.edited.2 = true) : p.sentBytes =
    withoutCheck p.edited.1 ++
      (if p.status = .good then checkSequence (withoutCheck p.edited.1) else stompedSequence (withoutCheck p.edited.1)) := by
  have written : (p.edits.foldl p.applyEdit (p.bytes, false)).2 = true := written
  simp only [Passage.sentBytes, whole, written, if_true]
  split <;> rfl

theorem Passage.sentBytes_unwritten (whole : p.cutAt = none) (unwritten : p.edited.2 = false) : p.sentBytes = p.bytes := by
  have unwritten : (p.edits.foldl p.applyEdit (p.bytes, false)).2 = false := unwritten
  simp [Passage.sentBytes, whole, unwritten]

end

end Sys2Proof.Machine

section

open Sys2Proof Sys2Proof.Machine

/-- Settles O34: the reflected division of the model is the mirror of R174's, and a stomped sequence differs in every bit. -/
theorem badFramesNeverLeaveGood : Obligations.BadFramesNeverLeaveGood := by
  refine ⟨fun bytes => ?_, fun p => ⟨fun whole none => ?_, fun whole good intact => ?_, fun whole bad broken => ?_, fun cut => ?_⟩⟩
  · intro generator_ divide bits remainder
    refine ⟨checkSequence_length bytes, fun i j hi hj => checkSequence_bit bytes hi hj, ?_, checkGood_computed bytes,
      checkGood_stomped bytes, stompedSequence_eq bytes⟩
    rw [checkGood, beq_iff_eq]
    rfl
  · exact Passage.sentBytes_unwritten whole (by rw [Passage.edited, none]; rfl)
  · cases written : p.edited.2 with
    | false => rwa [Passage.sentBytes_unwritten whole written]
    | true => rw [Passage.sentBytes_written whole written, if_pos good]; exact checkGood_computed _
  · cases written : p.edited.2 with
    | false => rwa [Passage.sentBytes_unwritten whole written]
    | true => rw [Passage.sentBytes_written whole written, if_neg (by simp [bad])]; exact checkGood_stomped _
  · obtain ⟨n, cut⟩ := Option.isSome_iff_exists.mp cut
    rw [Passage.sentBytes_cut cut]
    exact checkGood_stomped _

end
end

section
/-! The edits of a frame as it leaves (R30, R44, R123): each writes its field and no other byte. -/

namespace Sys2Proof.Machine

/-! ### A field written over bytes -/

section

variable {bytes field : List Byte} {offset : Nat}

theorem overwrite_inside (inside : offset + field.length ≤ bytes.length) :
    overwrite bytes offset field = bytes.take offset ++ field ++ bytes.drop (offset + field.length) := by
  refine List.take_of_length_le ?_
  simp only [List.length_append, List.length_take, List.length_drop]
  omega

theorem overwrite_length (inside : offset + field.length ≤ bytes.length) :
    (overwrite bytes offset field).length = bytes.length := by
  rw [overwrite_inside inside]
  simp only [List.length_append, List.length_take, List.length_drop]
  omega

/-- A field that lies before the check sequence is written as well into the bytes without it. -/
theorem withoutCheck_overwrite (inside : offset + field.length + 4 ≤ bytes.length) :
    withoutCheck (overwrite bytes offset field) =
      (withoutCheck bytes).take offset ++ field ++ (withoutCheck bytes).drop (offset + field.length) := by
  have before : offset ≤ bytes.length - 4 := by omega
  rw [withoutCheck, overwrite_length (by omega), overwrite_inside (by omega), withoutCheck, List.take_take,
    Nat.min_eq_left before, List.drop_take, List.take_append, List.take_of_length_le]
  · congr 2
    simp only [List.length_append, List.length_take]
    omega
  · simp only [List.length_append, List.length_take]
    omega

theorem take_withoutCheck (before : offset + 4 ≤ bytes.length) : (withoutCheck bytes).take offset = bytes.take offset := by
  rw [withoutCheck, List.take_take, Nat.min_eq_left (by omega)]

end

/-! ### Signed fields -/

@[simp] theorem signedBytes_length (width : Nat) (x : Int) : (signedBytes width x).length = width := beBytes_length _ _

/-- Eight bytes spell a signed number where they are its two's complement. -/
theorem intAt_eight {bytes : List Byte} {k : Nat} {x : Int} (low : -(2 ^ 63) ≤ x) (high : x < 2 ^ 63) :
    intAt bytes k 8 = some x ↔ (bytes.drop k).take 8 = signedBytes 8 x := by
  have reads (f : List Byte) (length : f.length = 8) : beInt f = x ↔ beNat f = (x % (2 ^ (8 * 8) : Nat)).toNat := by
    have fits := beNat_lt f
    simp only [beInt, length] at fits ⊢
    norm_num at fits low high ⊢
    split <;> omega
  have small : (x % (2 ^ (8 * 8) : Nat)).toNat < 256 ^ 8 := by norm_num; omega
  rw [signedBytes, ← natAt_eq_some small, intAt, natAt]
  simp only [Option.map_eq_some_iff, bytesAt_eq_some]
  refine exists_congr fun f => and_congr_right fun taken => reads f taken.2

theorem exists_intAt {bytes : List Byte} {k : Nat} (inside : k + 8 ≤ bytes.length) : ∃ c, intAt bytes k 8 = some c :=
  ⟨_, by rw [intAt, bytesAt_of_le inside]; rfl⟩

/-! ### The edits -/

section

variable {p : Passage}

/-- The correction as it leaves (R30). -/
def correctedBy (c r : Int) : List Byte := signedBytes 8 (max (-(2 ^ 63 - 1)) (min (2 ^ 63 - 1) (c + r)))

theorem dateBytes_length (date : Nat) : (dateBytes date).length = 10 := by simp [dateBytes]

theorem Passage.applyEdit_correctionAdd {acc : List Byte × Bool} {c r : Int} (residence : p.residence = some r)
    (corrected : intAt acc.1 (payloadStart p.bytes + 14) 8 = some c) (inside : payloadStart p.bytes + 26 ≤ p.bytes.length) :
    p.applyEdit acc .correctionAdd = (overwrite acc.1 (payloadStart p.bytes + 14) (correctedBy c r), true) := by
  have field : fieldInside p.bytes 14 8 = true := by simpa [fieldInside] using inside
  simp only [Passage.applyEdit, corrected, residence, field, if_true]
  rfl

theorem Passage.applyEdit_stampField {acc : List Byte × Bool} {offset : Nat} (date : Nat)
    (inside : payloadStart p.bytes + offset + 14 ≤ p.bytes.length) :
    p.applyEdit acc (.stampField offset date) = (overwrite acc.1 (payloadStart p.bytes + offset) (dateBytes date), true) := by
  have field : fieldInside p.bytes offset 10 = true := by simpa [fieldInside] using inside
  simp only [Passage.applyEdit, field, if_true]

theorem Passage.applyEdit_stampField_outside {acc : List Byte × Bool} {offset : Nat} (date : Nat)
    (outside : p.bytes.length < payloadStart p.bytes + offset + 14) : p.applyEdit acc (.stampField offset date) = acc := by
  have field : fieldInside p.bytes offset 10 = false := by simpa [fieldInside] using outside
  simp [Passage.applyEdit, field]

/-- A frame in which something was written leaves with its bytes as they were edited, before its check sequence. -/
theorem Passage.withoutCheck_sentBytes (whole : p.cutAt = none) {bytes : List Byte} (written : p.edited = (bytes, true)) :
    withoutCheck p.sentBytes = withoutCheck bytes := by
  rw [Passage.sentBytes_written whole (by rw [written]), written]
  refine withoutCheck_append ?_
  split
  · exact checkSequence_length _
  · exact stompedSequence_length _

end

end Sys2Proof.Machine

section

open Sys2Proof Sys2Proof.Machine

/-- Settles O35, edit by edit: each is its field written over the bytes it finds. -/
theorem editsWriteTheirFieldAndNoOther : Obligations.EditsWriteTheirFieldAndNoOther := by
  refine ⟨fun bytes k x low high => intAt_eight low high, fun p whole => ?_⟩
  intro start
  refine ⟨fun r residence edits inside => ?_, fun r offset date residence edits inside => ?_, fun offset date edits => ⟨fun inside => ?_, fun outside => ?_⟩⟩
  · obtain ⟨c, corrected⟩ := exists_intAt (bytes := p.bytes) (k := start + 14) (by omega)
    have field : start + 14 + (correctedBy c r).length + 4 ≤ p.bytes.length := by
      rw [correctedBy, signedBytes_length]; omega
    refine ⟨c, corrected, ?_⟩
    rw [Passage.withoutCheck_sentBytes whole (by
      rw [Passage.edited, edits]; exact Passage.applyEdit_correctionAdd residence corrected inside),
      withoutCheck_overwrite field, take_withoutCheck (by omega), correctedBy, signedBytes_length]
  · obtain ⟨c, corrected⟩ := exists_intAt (bytes := p.bytes) (k := start + 14) (by omega)
    have field : start + 14 + (correctedBy c r).length + 4 ≤ p.bytes.length := by
      rw [correctedBy, signedBytes_length]; omega
    refine ⟨c, corrected, ?_⟩
    intro b correctedFrame
    have first : withoutCheck (overwrite p.bytes (start + 14) (correctedBy c r)) = correctedFrame := by
      rw [withoutCheck_overwrite field, correctedBy, signedBytes_length]
    have edited : p.edited = p.applyEdit (overwrite p.bytes (start + 14) (correctedBy c r), true) (.stampField offset date) := by
      rw [Passage.edited, edits, List.foldl_cons, Passage.applyEdit_correctionAdd residence corrected inside]
      rfl
    refine ⟨fun fits => ?_, fun outside => ?_⟩
    · rw [Passage.withoutCheck_sentBytes whole (edited.trans (Passage.applyEdit_stampField date fits)),
        withoutCheck_overwrite (by rw [dateBytes_length, overwrite_length (by omega)]; omega), first, dateBytes_length,
        dateBytes]
      simp only [List.append_assoc]
      rfl
    · rw [Passage.withoutCheck_sentBytes whole (edited.trans (Passage.applyEdit_stampField_outside date outside)), first]
  · have edited : p.edited = (overwrite p.bytes (start + offset) (dateBytes date), true) := by
      rw [Passage.edited, edits]; exact Passage.applyEdit_stampField date inside
    rw [Passage.withoutCheck_sentBytes whole edited,
      withoutCheck_overwrite (by rw [dateBytes_length]; omega), take_withoutCheck (by omega), dateBytes_length, dateBytes]
    simp only [List.append_assoc]
  · refine Passage.sentBytes_unwritten whole ?_
    rw [Passage.edited, edits, List.foldl_cons, Passage.applyEdit_stampField_outside date outside]
    rfl

end
end

section
/-! The own frames as they are built and as they leave (R31, R57, R112, R116, R159, R170, R174 to R183). -/

namespace Sys2Proof.Machine

/-! ### Flags and codes -/

/-- Some flags as a number, the first worth 1. -/
def flagSum (flags : List Bool) : Nat := (flags.zipIdx.map fun x => if x.1 then 2 ^ x.2 else 0).sum

theorem flagByte_append (l : List Bool) (x : Bool) :
    flagByte (l ++ [x]) = if x then flagByte l ||| (1#8 <<< l.length) else flagByte l := by
  simp [flagByte, List.zipIdx_append, List.foldl_append]

theorem flagSum_append (l : List Bool) (x : Bool) :
    flagSum (l ++ [x]) = flagSum l + if x then 2 ^ l.length else 0 := by
  simp [flagSum, List.zipIdx_append]

theorem flagSum_lt (l : List Bool) : flagSum l < 2 ^ l.length := by
  induction l using List.reverseRecOn with
  | nil => simp [flagSum]
  | append_singleton l x ih =>
    rw [flagSum_append, List.length_append, List.length_singleton, Nat.pow_succ]
    split <;> omega

theorem flagByte_eq_flagSum (l : List Bool) : flagByte l = BitVec.ofNat 8 (flagSum l) := by
  induction l using List.reverseRecOn with
  | nil => rfl
  | append_singleton l x ih =>
    rw [flagByte_append, flagSum_append, ih]
    cases x with
    | false => rfl
    | true =>
      have joined := Nat.two_pow_add_eq_or_of_lt (flagSum_lt l) 1
      apply BitVec.eq_of_toNat_eq
      rw [if_pos rfl, if_pos rfl, Nat.add_comm, ← Nat.mul_one (2 ^ l.length), joined]
      simp [Nat.shiftLeft_eq, Nat.or_comm]

theorem flagByte_getLsbD (l : List Bool) {i : Nat} (low : i < 8) : (flagByte l).getLsbD i = l.getD i false := by
  induction l using List.reverseRecOn with
  | nil => simp [flagByte]
  | append_singleton l x ih =>
    have one : (1#8 <<< l.length).getLsbD i = decide (i = l.length) := by
      rw [Bool.eq_iff_iff]
      simp [low]
      omega
    have bit : (flagByte (l ++ [x])).getLsbD i = (l.getD i false || (x && decide (i = l.length))) := by
      rw [flagByte_append, ← ih]
      cases x <;> simp [one]
    rw [bit]
    rcases Nat.lt_trichotomy i l.length with before | rfl | after
    · rw [List.getD_append _ _ _ _ before]
      simp [before.ne]
    · simp
    · have outside : (l ++ [x]).length ≤ i := by rw [List.length_append, List.length_singleton]; exact after
      rw [List.getD_eq_default _ _ outside, List.getD_eq_default _ _ after.le]
      simp [after.ne']

theorem Condition.code_eq (c : Condition) : c.code = BitVec.ofNat 8
    ([ServoState.free, .acquire, .locked, .holdover].idxOf c.state +
      (if c.held then 4 else 0) + (if c.memory then 8 else 0) + 16 * [Ref.north, .pulse, .none].idxOf c.active) := by
  obtain ⟨state, held, memory, active⟩ := c
  cases state <;> cases held <;> cases memory <;> cases active <;> rfl

theorem RackState.code_eq (x : RackState) :
    x.code = BitVec.ofNat 8 ([RackState.quiet, .unjudged, .inStep, .watch, .drifting].idxOf x) := by cases x <;> rfl

theorem ServerState.code_eq (x : ServerState) :
    x.code = BitVec.ofNat 8 ([ServerState.unseen, .settling, .tracking, .stray, .silent].idxOf x) := by cases x <;> rfl

theorem Status.code_eq (x : Status) : x.code = BitVec.ofNat 8 ([Status.ok, .clamped, .badCommand, .badIndex, .badValue,
    .duplicate, .pending, .alreadyPending, .badState].idxOf x) := by cases x <;> rfl

theorem Bank.number_eq (b : Bank) : b.number = [Bank.bank0, .bank1].idxOf b := by cases b <;> rfl

/-! ### Numbers -/

theorem signedBytes_eq (width : Nat) (x : Int) : signedBytes width x = beBytes width (x % (256 ^ width : Nat)).toNat := by
  rw [signedBytes, Nat.pow_mul]

theorem stampBytes_length (v : Int) : (stampBytes v).length = 12 := by
  unfold stampBytes
  split
  · simp
  · simp

theorem stampBytes_inside {v : Int} (low : 0 ≤ v) (high : v < 2 ^ 48 * 1000000000 * 65536) :
    stampBytes v = beBytes 6 (v.toNat / 65536 / 1000000000) ++ beBytes 4 (v.toNat / 65536 % 1000000000) ++
      beBytes 2 (v.toNat % 65536) := by
  have inside : 0 ≤ v ∧ v < (timescaleRange : Int) := ⟨low, high⟩
  have seconds : v.toNat / fuPerSecond = v.toNat / 65536 / 1000000000 := by
    rw [Nat.div_div_eq_div_mul]; rfl
  have nanoseconds : v.toNat % fuPerSecond / fuPerNs = v.toNat / 65536 % 1000000000 := by
    rw [fuPerSecond, Nat.mul_comm, Nat.mod_mul_right_div_self]; rfl
  rw [stampBytes, if_pos inside]
  dsimp only
  rw [seconds, nanoseconds]
  rfl

theorem rateBytes_length (x : Int) : (rateBytes x).length = 4 := by
  unfold rateBytes; split <;> simp

theorem rateBytes_inside {x : Int} (low : -(2 ^ 31) ≤ x) (high : x < 2 ^ 31) : rateBytes x = signedBytes 4 x := by
  rw [rateBytes, if_pos ⟨low, high⟩]

/-- An absent number is sent as zero. -/
theorem optBytes_signed (x : Option Int) : optBytes 4 (signedBytes 4) x = signedBytes 4 (x.getD 0) := by
  cases x <;> rfl

theorem optBytes_eq_elim (width : Nat) (f : Int → List Byte) (x : Option Int) :
    optBytes width f x = x.elim (beBytes width 0) f := by
  cases x <;> rfl

theorem optBytes_length {width : Nat} {f : Int → List Byte} (length : ∀ x, (f x).length = width) (x : Option Int) :
    (optBytes width f x).length = width := by
  cases x with
  | none => exact beBytes_length _ _
  | some x => exact length x

/-! ### Headers -/

theorem ownHeader_eq (destination source : Address) (tag : Option (BitVec 16)) (type : BitVec 16) :
    ownHeader destination source tag type = beBytes 6 destination.toNat ++ beBytes 6 source.toNat ++
      (match tag with
       | some x => [0x81, 0x00] ++ beBytes 2 x.toNat
       | none => []) ++ beBytes 2 type.toNat := by
  cases tag <;> rfl

theorem ownStart_eq (tag : Option (BitVec 16)) : ownStart tag = if tag = none then 14 else 18 := by
  cases tag <;> rfl

/-! ### Responses (R180) -/

theorem responsePayload_eq (r : Request) (status : Status) (results : List ItemResult) : responsePayload r status results =
    [1, 2] ++ (r.body.drop 2).take 2 ++ [status.code] ++ beBytes 1 results.length ++
      results.flatMap fun x => [x.status.code] ++ beBytes 2 x.content.length ++ x.content := by
  rw [List.flatMap_def]
  rfl

/-! ### Notice entries (R183) -/

theorem padTo_eq {width : Nat} {bytes : List Byte} {pad : Nat} (room : bytes.length + pad = width) :
    padTo width bytes = bytes ++ beBytes pad 0 := by
  have zeros (n : Nat) : List.replicate n (0 : Byte) = beBytes n 0 := by
    induction n with
    | zero => rfl
    | succ n ih => rw [List.replicate_succ', ih, beBytes]; rfl
  rw [padTo, ← room, Nat.add_sub_cancel_left, zeros]

theorem Snapshot.fields_length_le (x : Snapshot) : x.fields.length ≤ 20 := by
  cases x <;> simp [Snapshot.fields, optBytes_length, rateBytes_length]

theorem NoticeEntry.sentBytes_length (e : NoticeEntry) : e.sentBytes.length = 26 := by
  have short := e.snapshot.fields_length_le
  simp [NoticeEntry.sentBytes, padTo]
  omega

theorem NoticeEntry.sentBytes_take (e : NoticeEntry) : e.sentBytes.take 6 =
    [e.subject.code.1] ++ beBytes 2 e.subject.code.2 ++ [e.firstOld.code, e.latestNew.code] ++ beBytes 1 e.count :=
  List.take_left' (by simp)

theorem NoticeEntry.sentBytes_drop (e : NoticeEntry) : e.sentBytes.drop 6 = padTo 20 e.snapshot.fields :=
  List.drop_left' (by simp)

/-! ### As an own frame leaves (R31, R112, R174) -/

theorem overwrite_append {before rest field : List Byte} {k : Nat} (inside : k + field.length ≤ rest.length) :
    overwrite (before ++ rest) (before.length + k) field = before ++ overwrite rest k field := by
  rw [overwrite_inside inside, overwrite_inside (by rw [List.length_append]; omega), List.take_length_add_append,
    Nat.add_assoc, List.drop_length_add_append]
  simp only [List.append_assoc]

theorem OwnFrame.departing_query {f : OwnFrame} (kind : f.kind = .query) (inside : f.start + 34 ≤ f.bytes.length) (stamp : Int)
    (ownClass u : Nat) : f.departing stamp ownClass u =
      padTo 60 (f.bytes.take (f.start + 22) ++ stampBytes stamp ++ f.bytes.drop (f.start + 34)) := by
  have field : f.start + 22 + (stampBytes stamp).length ≤ f.bytes.length := by rw [stampBytes_length]; omega
  simp only [OwnFrame.departing, kind]
  rw [overwrite_inside field, stampBytes_length]

/-- The t3 of a Reply, then its class and its U, each over the bytes that the one before has left. -/
theorem OwnFrame.departing_reply {f : OwnFrame} (kind : f.kind = .reply) (inside : f.start + 67 ≤ f.bytes.length) (stamp : Int)
    (ownClass u : Nat) : f.departing stamp ownClass u =
      padTo 60 (f.bytes.take (f.start + 42) ++ stampBytes stamp ++ (f.bytes.drop (f.start + 54)).take 8 ++
        beBytes 1 ownClass ++ beBytes 4 u ++ f.bytes.drop (f.start + 67)) := by
  have field : f.start + 42 + (stampBytes stamp).length ≤ f.bytes.length := by rw [stampBytes_length]; omega
  obtain ⟨before, before_eq⟩ : ∃ l, l = f.bytes.take (f.start + 42) ++ stampBytes stamp := ⟨_, rfl⟩
  obtain ⟨rest, rest_eq⟩ : ∃ l, l = f.bytes.drop (f.start + 54) := ⟨_, rfl⟩
  have before_length : before.length = f.start + 54 := by
    rw [before_eq, List.length_append, stampBytes_length, List.length_take]; omega
  have rest_length : 13 ≤ rest.length := by rw [rest_eq, List.length_drop]; omega
  have first : overwrite f.bytes (f.start + 42) (stampBytes stamp) = before ++ rest := by
    rw [overwrite_inside field, stampBytes_length, before_eq, rest_eq]
  have second : overwrite (before ++ rest) (f.start + 62) (beBytes 1 ownClass) =
      (before ++ rest.take 8 ++ beBytes 1 ownClass) ++ rest.drop 9 := by
    have place : f.start + 62 = before.length + 8 := by omega
    rw [place, overwrite_append (by rw [beBytes_length]; omega), overwrite_inside (by rw [beBytes_length]; omega),
      beBytes_length]
    simp only [List.append_assoc]
  have third : overwrite ((before ++ rest.take 8 ++ beBytes 1 ownClass) ++ rest.drop 9) (f.start + 63) (beBytes 4 u) =
      (before ++ rest.take 8 ++ beBytes 1 ownClass) ++ (beBytes 4 u ++ rest.drop 13) := by
    have place : f.start + 63 = (before ++ rest.take 8 ++ beBytes 1 ownClass).length + 0 := by
      rw [List.length_append, List.length_append, beBytes_length, List.length_take]; omega
    have room : 0 + (beBytes 4 u).length ≤ (rest.drop 9).length := by rw [beBytes_length, List.length_drop]; omega
    rw [place, overwrite_append room, overwrite_inside room, beBytes_length, List.drop_drop]
    rfl
  have last : rest.drop 13 = f.bytes.drop (f.start + 67) := by rw [rest_eq, List.drop_drop]
  simp only [OwnFrame.departing, kind]
  rw [first, second, third, last, before_eq, rest_eq]
  simp only [List.append_assoc]

theorem OwnFrame.departing_other {f : OwnFrame} (not_query : f.kind ≠ .query) (not_reply : f.kind ≠ .reply) (stamp : Int)
    (ownClass u : Nat) : f.departing stamp ownClass u = padTo 60 f.bytes := by
  unfold OwnFrame.departing
  split
  · contradiction
  · contradiction
  · rfl

end Sys2Proof.Machine

section

open Sys2Proof Sys2Proof.Machine

/-- Settles O32, frame by frame, by the headers and the layouts they stand behind. -/
theorem ownFramesLeaveWithTheirMarkedFieldsWritten : Obligations.OwnFramesLeaveWithTheirMarkedFieldsWritten := by
  unfold Obligations.OwnFramesLeaveWithTheirMarkedFieldsWritten
  intro place bits condition
  have flags (l : List Bool) : flagByte l = bits l := flagByte_eq_flagSum l
  have conditions (c : Condition) : c.code = condition c := c.code_eq
  refine ⟨fun width n x => ⟨beBytes_length width n, beNat_beBytes width n, signedBytes_eq width x⟩,
    fun v => ⟨stampBytes_length v, fun low high => stampBytes_inside low high⟩, fun s => ?_, fun e => ?_, fun r => ?_,
    fun f stamp ownClass u => ?_⟩
  · intro address sender header timing report is state placed
    have headed (kind : OwnKind) (dest : Address) (tag : Option (BitVec 16)) (type : BitVec 16) {payload bytes : List Byte}
        (same : header dest tag type ++ payload = bytes) :
        is (s.ownFrame kind dest tag type payload) kind (placed tag) bytes :=
      ⟨rfl, ownStart_eq tag, same ▸ congrArg (· ++ payload) (ownHeader_eq dest s.agent.address tag type), rfl⟩
    refine ⟨?_, ?_, fun e => ?_, fun r status results => ?_, ⟨rateBytes, fun x => ⟨rateBytes_length x, rateBytes_inside⟩, ?_⟩,
      fun entries => ?_, fun records => ?_⟩
    · exact headed .query s.exch.leader none s.lines.timingType (by rw [List.append_assoc]; rfl)
    · exact headed .grade s.south.group none s.lines.timingType (by simp only [List.append_assoc]; rfl)
    · exact headed .reply e.requester e.tag s.lines.timingType (by simp only [List.append_assoc]; rfl)
    · intro code
      have coded : Status.code = code := funext Status.code_eq
      refine headed .response r.source r.tag s.lines.managementType (payload := responsePayload r status results) ?_
      rw [responsePayload_eq, coded]
      simp only [List.append_assoc]
    · intro rack faults conditions_
      have racks : (s.mon.racks.map Rack.summaryBytes).flatten = s.mon.racks.flatMap rack := by
        rw [List.flatMap_def]
        congr 2
        funext q
        rw [Rack.summaryBytes, q.state.code_eq, flags, optBytes_signed, optBytes_eq_elim]
      have byte : s.conditionByte = bits conditions_ := flags s.conditions
      refine headed .summary s.rep.collector s.rep.collectorTag s.lines.managementType (payload := s.summaryBytes) ?_
      rw [State.summaryBytes, racks, byte, conditions]
      simp only [List.append_assoc]
      rfl
    · refine headed .notice s.rep.collector s.rep.collectorTag s.lines.managementType ?_
      rw [List.flatMap_def]
      simp only [List.append_assoc]
      rfl
    · refine headed .dateReport s.rep.collector s.rep.collectorTag s.lines.managementType ?_
      rw [List.flatMap_def]
      simp only [List.append_assoc]
      rfl
  · intro subject code
    have coded (x : SubjectState) : x.code = code x := by
      cases x with
      | rack x => exact x.code_eq
      | server x => exact x.code_eq
      | servo c => exact conditions c
      | gap losing => rfl
      | bank b => exact congrArg (BitVec.ofNat 8) b.number_eq
    refine ⟨e.sentBytes_length, ?_, fun mean rate spread members split drill shot => ?_, fun filtered k shot => ?_,
      fun u c shot => ?_, fun applied source u shot => ?_, fun lost gap shot => ?_, fun second shot => ?_⟩
    · rw [e.sentBytes_take, coded, coded]
      rfl
    all_goals rw [e.sentBytes_drop, shot]
    · refine ⟨optBytes 4 rateBytes rate, optBytes_length rateBytes_length rate, fun x present low high => ?_, ?_⟩
      · subst present
        cases rate with
        | none => rfl
        | some y => exact rateBytes_inside low high
      · rw [padTo_eq (pad := 5) (by simp [Snapshot.fields, optBytes_length, rateBytes_length]), Snapshot.fields, flags,
          optBytes_signed, optBytes_signed]
    · rw [padTo_eq (pad := 14) (by simp [Snapshot.fields, optBytes_length]), Snapshot.fields, flags, optBytes_signed]
    · rw [padTo_eq (pad := 1) (by simp [Snapshot.fields]), Snapshot.fields]
      simp only [List.append_assoc]
      rfl
    · intro source_
      rw [padTo_eq (pad := 1) (by simp [Snapshot.fields]), Snapshot.fields]
      simp only [List.append_assoc]
      rfl
    · exact padTo_eq (pad := 12) (by simp [Snapshot.fields])
    · exact padTo_eq (pad := 14) (by simp [Snapshot.fields])
  · refine ⟨flagByte [r.held, r.short, r.state != .locked, r.gap != 0, r.origin.isSome, r.issueOffset.isSome], fun i => ?_, ?_⟩
    · rw [flagByte_getLsbD _ i.isLt]
      fin_cases i <;> rfl
    · have gap : (if r.gap != 0 then beBytes 4 r.gap.toNat else []) = if r.gap = 0 then [] else beBytes 4 r.gap.toNat := by
        by_cases none : r.gap = 0 <;> simp [none]
      rw [DateRecord.sentBytes, gap, dateBytes]
      simp only [List.append_assoc]
      cases r.origin <;> cases r.issueOffset <;> rfl
  · intro padded
    exact ⟨fun kind inside => OwnFrame.departing_query kind inside stamp ownClass u,
      fun kind inside => OwnFrame.departing_reply kind inside stamp ownClass u,
      fun not_query not_reply => OwnFrame.departing_other not_query not_reply stamp ownClass u⟩

end
end

section
/-! Servo events (R89, R95, R98, R105, R106): what an event taken as a whole gives, and the LOST and LIVE events. -/

namespace Sys2Proof.Machine

/-! ### An event taken as a whole (R105, R106) -/

section

variable {s : State} {event : State → State}

theorem State.tracked_same (same : (event s).servo.condition = s.servo.condition) : s.tracked event = event s := by
  rw [State.tracked]
  exact if_pos same

theorem State.tracked_changed (changed : (event s).servo.condition ≠ s.servo.condition) : s.tracked event =
    { event s with
      servo := { (event s).servo with lastChange := some (event s).clock.runCounter }
      rep := (event s).rep.transition (event s).clock.osc .servo (.servo s.servo.condition)
        (.servo (event s).servo.condition) (.condition (event s).servo.uncertainty (event s).ownClass) } := by
  rw [State.tracked]
  exact if_neg changed

/-- An event is taken by what it leaves. -/
theorem State.tracked_congr {other : State → State} (same : event s = other s) : s.tracked event = s.tracked other := by
  simp only [State.tracked, same]

/-- An event that touches the servo and the windows alone: what is left of the state it was made in. -/
structure TakenEvent (s t : State) (v : Servo) (e : Exchange) : Prop where
  lastChange : t.servo.lastChange =
    if t.servo.condition = s.servo.condition then s.servo.lastChange else some s.clock.runCounter
  servo : t.servo = { v with lastChange := t.servo.lastChange }
  exch : t.exch = e
  rep : t.rep = if t.servo.condition = s.servo.condition then s.rep
    else s.rep.transition s.clock.osc .servo (.servo s.servo.condition) (.servo t.servo.condition)
      (.condition t.servo.uncertainty t.ownClass)
  rest : t = { s with servo := t.servo, exch := t.exch, rep := t.rep }

theorem State.tracked_taken {v : Servo} {e : Exchange} (made : event s = { s with servo := v, exch := e })
    (kept : v.lastChange = s.servo.lastChange) : TakenEvent s (s.tracked event) v e := by
  have servo : (event s).servo = v := by rw [made]
  by_cases same : v.condition = s.servo.condition
  · rw [State.tracked_same (by rw [servo]; exact same), made]
    exact ⟨by rw [if_pos same, kept], rfl, rfl, by rw [if_pos same], rfl⟩
  · rw [State.tracked_changed (by rw [servo]; exact same), made]
    exact ⟨(if_neg same).symm, rfl, rfl, (if_neg same).symm, rfl⟩

end

/-! ### The live-since marks and the revert expiry (R89, R98) -/

/-- The servo with a reference's live-since mark replaced, and the revert expiry after it. -/
def Servo.remarked (v : Servo) (r : Ref) (m : Option LiveMark) : Servo := (v.setMark r m).reschedule v

theorem Servo.mark_setMark (v : Servo) {r : Ref} (named : r ≠ .none) (m : Option LiveMark) : (v.setMark r m).mark r = m := by
  cases r with
  | none => contradiction
  | _ => rfl

theorem Servo.mark_setMark_of_ne (v : Servo) {r q : Ref} (other : q ≠ r) (m : Option LiveMark) :
    (v.setMark r m).mark q = v.mark q := by
  cases r <;> cases q <;> first | rfl | contradiction

theorem Servo.setMark_settings (v : Servo) (r : Ref) (m : Option LiveMark) :
    (v.setMark r m).primary = v.primary ∧ (v.setMark r m).revertTime = v.revertTime ∧
      (v.setMark r m).revertIn = v.revertIn := by
  cases r <;> exact ⟨rfl, rfl, rfl⟩

theorem Servo.reschedule_stands {v old : Servo} (mark : v.mark v.primary = old.mark old.primary)
    (time : v.revertTime = old.revertTime) : v.reschedule old = v := if_pos ⟨mark, time⟩

theorem Servo.reschedule_anew {v old : Servo}
    (changed : v.mark v.primary ≠ old.mark old.primary ∨ v.revertTime ≠ old.revertTime) :
    v.reschedule old = { v with revertIn := v.revertDistance } :=
  if_neg fun both => changed.elim (fun mark => mark both.1) (fun time => time both.2)

theorem Servo.revertDistance_none {v : Servo} (unmarked : v.mark v.primary = none) : v.revertDistance = none := by
  simp [Servo.revertDistance, unmarked]

theorem Servo.revertDistance_some {v : Servo} {m : LiveMark} (marked : v.mark v.primary = some m) : v.revertDistance =
    if m.age.toNat < v.revertTime * 1000 then some (v.revertTime * 1000 - m.age.toNat) else none := by
  simp [Servo.revertDistance, marked]

theorem Servo.reschedule_eq_revertIn (v old : Servo) : v.reschedule old = { v with revertIn := (v.reschedule old).revertIn } := by
  unfold Servo.reschedule
  split <;> rfl

theorem Servo.remarked_eq (v : Servo) (r : Ref) (m : Option LiveMark) : v.remarked r m = { v with
    markN := (v.remarked r m).markN, markP := (v.remarked r m).markP, revertIn := (v.remarked r m).revertIn } := by
  rw [Servo.remarked, Servo.reschedule_eq_revertIn]
  cases r <;> rfl

theorem Servo.mark_reschedule (v old : Servo) (r : Ref) : (v.reschedule old).mark r = v.mark r := by
  rw [Servo.reschedule_eq_revertIn]
  cases r <;> rfl

/-- A mark that goes takes with it, where it is the primary's, a revert expiry that stood. -/
theorem Servo.remarked_none_revertIn (v : Servo) {r : Ref} (named : r ≠ .none) :
    (v.remarked r none).revertIn = if v.primary = r ∧ v.mark r ≠ none then none else v.revertIn := by
  obtain ⟨primary, time, expiry⟩ := v.setMark_settings r none
  unfold Servo.remarked
  by_cases here : v.primary = r
  · have gone : (v.setMark r none).mark (v.setMark r none).primary = none := by
      rw [primary, here, v.mark_setMark named]
    by_cases marked : v.mark r = none
    · rw [Servo.reschedule_stands (by rw [gone, here, marked]) time, expiry, if_neg fun both => both.2 marked]
    · rw [Servo.reschedule_anew (.inl (by rw [gone, here]; exact Ne.symm marked)), if_pos ⟨here, marked⟩]
      exact Servo.revertDistance_none gone
  · rw [Servo.reschedule_stands (by rw [primary, v.mark_setMark_of_ne here]) time, expiry, if_neg fun both => here both.1]

theorem Ref.other_ne_self {r : Ref} (named : r ≠ .none) : r.other ≠ r := by
  cases r with
  | none => contradiction
  | _ => decide

theorem State.remarked_available (s : State) (r : Ref) (m : Option LiveMark) (q : Ref) :
    (s.setServo (s.servo.remarked r m)).available q = s.available q := by
  unfold State.available
  rw [Servo.remarked, State.remark_configured]
  cases q <;> rfl

/-- A servo that differs from another in what a mark moves alone. -/
structure MarksOf (v m : Servo) : Prop where
  markN : v.markN = m.markN
  markP : v.markP = m.markP
  revertIn : v.revertIn = m.revertIn

theorem MarksOf.mark {v m : Servo} (h : MarksOf v m) (r : Ref) : v.mark r = m.mark r := by
  cases r with
  | north => exact h.markN
  | pulse => exact h.markP
  | none => rfl

theorem TakenEvent.marks {s t : State} {v m : Servo} {e : Exchange} (h : TakenEvent s t v e) (same : MarksOf v m) :
    MarksOf t.servo m := by
  rw [h.servo]
  exact ⟨same.markN, same.markP, same.revertIn⟩

/-- What the marks and the reading of the last change move in a servo. -/
def Servo.withMarksOf (v t : Servo) : Servo :=
  { v with markN := t.markN, markP := t.markP, revertIn := t.revertIn, lastChange := t.lastChange }

/-- The servo after an event is the one that its work makes of the servo before it, but for the marks. -/
theorem TakenEvent.servo_eq {s t : State} {v w m : Servo} {e : Exchange} (h : TakenEvent s t v e) (same : MarksOf v m)
    (work : v = { w with markN := m.markN, markP := m.markP, revertIn := m.revertIn }) :
    t.servo = w.withMarksOf t.servo := by
  obtain ⟨markN, markP, revertIn⟩ := h.marks same
  rw [Servo.withMarksOf, markN, markP, revertIn]
  refine h.servo.trans ?_
  rw [work]

theorem Servo.remarked_enterAcquire (v : Servo) (r : Ref) (m : Option LiveMark) (x : Ref) :
    (v.remarked r m).enterAcquire x = { v.enterAcquire x with
      markN := (v.remarked r m).markN, markP := (v.remarked r m).markP, revertIn := (v.remarked r m).revertIn } := by
  rw [Servo.remarked_eq]
  rfl

theorem Servo.remarked_enterHoldover (v : Servo) (r : Ref) (m : Option LiveMark) :
    (v.remarked r m).enterHoldover = { v.enterHoldover with
      markN := (v.remarked r m).markN, markP := (v.remarked r m).markP, revertIn := (v.remarked r m).revertIn } := by
  rw [Servo.remarked_eq]
  rfl

theorem Servo.remarked_settings (v : Servo) (r : Ref) (m : Option LiveMark) :
    (v.remarked r m).held = v.held ∧ (v.remarked r m).state = v.state ∧ (v.remarked r m).active = v.active ∧
      (v.remarked r m).primary = v.primary ∧ (v.remarked r m).lastChange = v.lastChange := by
  rw [Servo.remarked_eq]
  exact ⟨rfl, rfl, rfl, rfl, rfl⟩

/-! ### A loss (R95) -/

theorem State.lostEvent_eq (s : State) (r : Ref) : s.lostEvent r = s.tracked fun s =>
    let t := s.setServo (s.servo.remarked r none)
    if t.servo.held then t else if t.servo.active = r then t.lose else t := rfl

section

variable {s : State}

theorem State.lose_switches (state : s.servo.state = .locked ∨ s.servo.state = .acquire)
    (available : s.available s.servo.active.other = true) : s.lose = s.startAcquire s.servo.active.other := by
  rcases state with h | h <;> simp [State.lose, h, available]

theorem State.lose_holds_over (state : s.servo.state = .locked) (unavailable : s.available s.servo.active.other = false) :
    s.lose = s.setServo s.servo.enterHoldover := by
  simp [State.lose, state, unavailable]

theorem State.lose_stays (locked : s.servo.state ≠ .locked)
    (unavailable : s.servo.state = .acquire → s.available s.servo.active.other = false) : s.lose = s := by
  unfold State.lose
  split
  · contradiction
  · rename_i acquire
    simp [unavailable acquire]
  · rfl

end

section

variable {s : State} {r : Ref}

/-- A LOST event that names the active reference in AUTO, where the other is available. -/
theorem State.lostEvent_switches (auto : s.servo.held = false) (active : s.servo.active = r)
    (state : s.servo.state = .locked ∨ s.servo.state = .acquire) (available : s.available s.servo.active.other = true) :
    TakenEvent s (s.lostEvent r) ((s.servo.remarked r none).enterAcquire s.servo.active.other)
      (s.exch.setWindow s.servo.active.other []) := by
  obtain ⟨held, same, here, -, last⟩ := s.servo.remarked_settings r none
  have work := State.lose_switches (s := s.setServo (s.servo.remarked r none)) (by rw [State.setServo_servo, same]; exact state)
    (by rw [State.remarked_available, State.setServo_servo, here]; exact available)
  rw [State.lostEvent_eq]
  refine State.tracked_taken ?_ last
  simp only [State.setServo_servo, held, auto, here, active, if_true] at work ⊢
  exact work

theorem State.lostEvent_holds_over (auto : s.servo.held = false) (active : s.servo.active = r)
    (state : s.servo.state = .locked) (unavailable : s.available s.servo.active.other = false) :
    TakenEvent s (s.lostEvent r) (s.servo.remarked r none).enterHoldover s.exch := by
  obtain ⟨held, same, here, -, last⟩ := s.servo.remarked_settings r none
  have work := State.lose_holds_over (s := s.setServo (s.servo.remarked r none)) (by rw [State.setServo_servo, same]; exact state)
    (by rw [State.remarked_available, State.setServo_servo, here]; exact unavailable)
  rw [State.lostEvent_eq]
  refine State.tracked_taken ?_ last
  simp only [State.setServo_servo, held, auto, here, active, if_true] at work ⊢
  exact work

theorem State.lostEvent_stays (h : ¬(s.servo.held = false ∧ s.servo.active = r) ∨ (s.servo.state ≠ .locked ∧
    (s.servo.state = .acquire → s.available s.servo.active.other = false))) :
    TakenEvent s (s.lostEvent r) (s.servo.remarked r none) s.exch := by
  obtain ⟨held, same, here, -, last⟩ := s.servo.remarked_settings r none
  rw [State.lostEvent_eq]
  refine State.tracked_taken ?_ last
  simp only [State.setServo_servo, held, here]
  cases auto : s.servo.held with
  | true => rfl
  | false =>
    by_cases active : s.servo.active = r
    · obtain ⟨locked, acquire⟩ := h.resolve_left fun not => not ⟨auto, active⟩
      have work := State.lose_stays (s := s.setServo (s.servo.remarked r none)) (by rw [State.setServo_servo, same]; exact locked)
        (by rw [State.remarked_available, State.setServo_servo, same, here]; exact acquire)
      simp only [active, if_true]
      exact work
    · simp only [active, if_false]
      rfl

/-- Whatever a LOST event does, the marks are those after the one of the reference has gone. -/
theorem State.lostEvent_marks (s : State) (r : Ref) :
    ∃ v e, TakenEvent s (s.lostEvent r) v e ∧ MarksOf v (s.servo.remarked r none) := by
  by_cases loss : s.servo.held = false ∧ s.servo.active = r
  · obtain ⟨auto, active⟩ := loss
    by_cases state : s.servo.state = .locked ∨ s.servo.state = .acquire
    · cases available : s.available s.servo.active.other with
      | true => exact ⟨_, _, State.lostEvent_switches auto active state available, rfl, rfl, rfl⟩
      | false =>
        rcases state with locked | acquire
        · exact ⟨_, _, State.lostEvent_holds_over auto active locked available, rfl, rfl, rfl⟩
        · exact ⟨_, _, State.lostEvent_stays (.inr ⟨by simp [acquire], fun _ => available⟩), rfl, rfl, rfl⟩
    · obtain ⟨locked, acquire⟩ := not_or.mp state
      exact ⟨_, _, State.lostEvent_stays (.inr ⟨locked, fun h => absurd h acquire⟩), rfl, rfl, rfl⟩
  · exact ⟨_, _, State.lostEvent_stays (.inl loss), rfl, rfl, rfl⟩

end

section

variable {s : State}

/-! ### An offer (R95) -/

theorem State.acceptOffer_locked (state : s.servo.state = .locked) (r : Ref) : s.acceptOffer r = s.revertTest := by
  simp [State.acceptOffer, state]

theorem State.acceptOffer_acquire (state : s.servo.state = .acquire) (r : Ref) :
    s.acceptOffer r = if s.servo.active = r ∨ s.live s.servo.active = true then s else s.startAcquire r := by
  simp [State.acceptOffer, state]

theorem State.acceptOffer_other {r : Ref} (locked : s.servo.state ≠ .locked) (acquire : s.servo.state ≠ .acquire) :
    s.acceptOffer r = s := by
  unfold State.acceptOffer
  split
  · contradiction
  · contradiction
  · rfl

theorem State.revertTest_passes (passes : s.revertPasses = true) : s.revertTest = s.startAcquire s.servo.primary := by
  simp [State.revertTest, passes]

theorem State.revertTest_fails (fails : s.revertPasses = false) : s.revertTest = s := by simp [State.revertTest, fails]

end

section

variable {s : State} {r : Ref}

/-- The mark that a LIVE event sets. -/
def State.newMark (s : State) : Option LiveMark := some { since := s.clock.runCounter, age := 0 }

/-- The state whose mark a LIVE event has set. -/
def State.marked (s : State) (r : Ref) : State := s.setServo (s.servo.remarked r s.newMark)

theorem State.liveEvent_eq (s : State) (r : Ref) : s.liveEvent r = s.tracked fun s =>
    let t := s.marked r
    if t.servo.held then t else if t.configured r then t.acceptOffer r else t := rfl

theorem State.marked_configured (s : State) (r q : Ref) : (s.marked r).configured q = s.configured q :=
  s.remark_configured r s.newMark q

theorem State.marked_live (s : State) (r q : Ref) : (s.marked r).live q = s.live q := by cases q <;> rfl

theorem State.marked_settings (s : State) (r : Ref) :
    (s.marked r).servo.held = s.servo.held ∧ (s.marked r).servo.state = s.servo.state ∧
      (s.marked r).servo.active = s.servo.active ∧ (s.marked r).servo.primary = s.servo.primary ∧
      (s.marked r).servo.lastChange = s.servo.lastChange := s.servo.remarked_settings r s.newMark

/-- What the work of a LIVE event makes of the servo and the windows is what the event leaves of them. -/
theorem State.liveEvent_taken {v : Servo} {e : Exchange} (kept : v.lastChange = s.servo.lastChange)
    (auto : s.servo.held = false) (configured : s.configured r = true)
    (made : (s.marked r).acceptOffer r = { s with servo := v, exch := e }) : TakenEvent s (s.liveEvent r) v e := by
  rw [State.liveEvent_eq]
  refine State.tracked_taken ?_ kept
  dsimp only
  rw [(s.marked_settings r).1, auto, State.marked_configured, configured]
  exact made

theorem State.liveEvent_switches (auto : s.servo.held = false) (configured : s.configured r = true)
    (acquire : s.servo.state = .acquire) (other : s.servo.active ≠ r) (lost : s.live s.servo.active = false) :
    TakenEvent s (s.liveEvent r) ((s.servo.remarked r s.newMark).enterAcquire r) (s.exch.setWindow r []) := by
  obtain ⟨-, state, active, -, last⟩ := s.marked_settings r
  refine State.liveEvent_taken last auto configured ?_
  rw [State.acceptOffer_acquire (by rw [state]; exact acquire), if_neg]
  · rfl
  · rw [active, State.marked_live, lost]
    exact fun h => h.elim other Bool.false_ne_true

theorem State.liveEvent_reverts (auto : s.servo.held = false) (configured : s.configured r = true)
    (locked : s.servo.state = .locked) (passes : (s.marked r).revertPasses = true) :
    TakenEvent s (s.liveEvent r) ((s.servo.remarked r s.newMark).enterAcquire s.servo.primary)
      (s.exch.setWindow s.servo.primary []) := by
  obtain ⟨-, state, -, primary, last⟩ := s.marked_settings r
  refine State.liveEvent_taken last auto configured ?_
  rw [State.acceptOffer_locked (by rw [state]; exact locked), State.revertTest_passes passes, primary]
  rfl

theorem State.liveEvent_stays
    (switch : ¬((s.servo.held = false ∧ s.configured r = true) ∧ s.servo.state = .acquire ∧ s.servo.active ≠ r ∧
      s.live s.servo.active = false))
    (revert : ¬((s.servo.held = false ∧ s.configured r = true) ∧ s.servo.state = .locked ∧
      (s.marked r).revertPasses = true)) :
    TakenEvent s (s.liveEvent r) (s.servo.remarked r s.newMark) s.exch := by
  obtain ⟨held, state, active, -, last⟩ := s.marked_settings r
  by_cases offer : s.servo.held = false ∧ s.configured r = true
  · obtain ⟨auto, configured⟩ := offer
    refine State.liveEvent_taken last auto configured ?_
    by_cases locked : s.servo.state = .locked
    · have fails : (s.marked r).revertPasses = false := Bool.eq_false_iff.mpr fun passes =>
        revert ⟨⟨auto, configured⟩, locked, passes⟩
      rw [State.acceptOffer_locked (by rw [state]; exact locked), State.revertTest_fails fails]
      rfl
    · by_cases acquire : s.servo.state = .acquire
      · rw [State.acceptOffer_acquire (by rw [state]; exact acquire), if_pos]
        · rfl
        · rw [active, State.marked_live]
          by_cases here : s.servo.active = r
          · exact .inl here
          · exact .inr (Bool.not_eq_false _ ▸ fun lost => switch ⟨⟨auto, configured⟩, acquire, here, lost⟩)
      · rw [State.acceptOffer_other (by rw [state]; exact locked) (by rw [state]; exact acquire)]
        rfl
  · rw [State.liveEvent_eq]
    refine State.tracked_taken ?_ last
    dsimp only
    rw [held, State.marked_configured]
    cases auto : s.servo.held with
    | true => rfl
    | false =>
      cases configured : s.configured r with
      | true => exact absurd ⟨auto, configured⟩ offer
      | false => rfl

/-- Whatever a LIVE event does, the marks are those after the one of the reference is set. -/
theorem State.liveEvent_marks (s : State) (r : Ref) :
    ∃ v e, TakenEvent s (s.liveEvent r) v e ∧ MarksOf v (s.servo.remarked r s.newMark) := by
  by_cases switch : (s.servo.held = false ∧ s.configured r = true) ∧ s.servo.state = .acquire ∧ s.servo.active ≠ r ∧
      s.live s.servo.active = false
  · obtain ⟨⟨auto, configured⟩, acquire, other, lost⟩ := switch
    exact ⟨_, _, State.liveEvent_switches auto configured acquire other lost, rfl, rfl, rfl⟩
  · by_cases revert : (s.servo.held = false ∧ s.configured r = true) ∧ s.servo.state = .locked ∧
        (s.marked r).revertPasses = true
    · obtain ⟨⟨auto, configured⟩, locked, passes⟩ := revert
      exact ⟨_, _, State.liveEvent_reverts auto configured locked passes, rfl, rfl, rfl⟩
    · exact ⟨_, _, State.liveEvent_stays switch revert, rfl, rfl, rfl⟩

end

/-! ### The query timer (R55, R56) -/

section

variable {s : State}

theorem State.queryTimer_empty (empty : s.exch.record = .empty) :
    s.queryTimer = (s.setExch { s.exch with queryIn := some s.exch.interval }).issueQuery := by
  unfold State.queryTimer
  dsimp only [State.setExch_exch]
  split
  · rfl
  · rename_i waiting; rw [empty] at waiting; contradiction
  · rename_i opened; rw [empty] at opened; contradiction

theorem State.queryTimer_waiting {seq : BitVec 16} (waiting : s.exch.record = .waiting seq) :
    s.queryTimer = (s.setExch { s.exch with queryIn := some s.exch.interval }).countMiss := by
  unfold State.queryTimer
  dsimp only [State.setExch_exch]
  split
  · rename_i empty; rw [waiting] at empty; contradiction
  · rfl
  · rename_i opened; rw [waiting] at opened; contradiction

theorem State.queryTimer_opened {seq : BitVec 16} {t1 : Int} {expiry : BitVec 32} (opened : s.exch.record = .opened seq t1 expiry) :
    s.queryTimer =
      (s.setExch { s.exch with queryIn := some s.exch.interval, record := .empty }).countMiss.issueQuery := by
  unfold State.queryTimer
  dsimp only [State.setExch_exch]
  split
  · rename_i empty; rw [opened] at empty; contradiction
  · rename_i waiting; rw [opened] at waiting; contradiction
  · rfl

end

end Sys2Proof.Machine

section

open Sys2Proof Sys2Proof.Machine

/-- Settles O39. -/
theorem queryTimerWindowsAndMisses : Obligations.QueryTimerWindowsAndMisses := by
  refine ⟨fun s running due => ?_, fun s seq t1 expiry running opened reached => ?_, fun s => ?_,
    fun s e running live expiry reached => ?_⟩
  · intro timed issue
    have fires : exec .queryTimerExpiry s = .next s.queryTimer :=
      congrArg Host.Outcome.next (State.takeIf_of_due s _ _ running (by simp [State.queryTimerDue, due]))
    exact ⟨fun empty => fires.trans (congrArg Host.Outcome.next (State.queryTimer_empty empty)),
      fun seq waiting => fires.trans (congrArg Host.Outcome.next (State.queryTimer_waiting waiting)),
      fun seq t1 expiry opened => fires.trans (congrArg Host.Outcome.next (State.queryTimer_opened opened))⟩
  · exact congrArg Host.Outcome.next (State.takeIf_of_due s _ _ running
      (by simpa [State.replyWindowDue, opened, readingReached] using reached))
  · intro missed
    refine ⟨fun live many => ?_, fun few => ?_⟩
    · exact if_pos ⟨live, many⟩
    · refine if_neg fun both => ?_
      rcases few with lost | few
      · simp [lost] at both
      · exact absurd both.2 (Nat.not_le.mpr few)
  · exact congrArg Host.Outcome.next (State.takeIf_of_due s _ _ running
      (by simpa [State.pulseLivenessDue, live, expiry, readingReached] using reached))

/-- Settles O40: a LOST and a LIVE event by the servo's mode and state, on the state whose mark has moved. -/
theorem lossSwitchesOrHoldsOver : Obligations.LossSwitchesOrHoldsOver := by
  refine ⟨fun v e m w => ⟨rfl, rfl, rfl, rfl, rfl, rfl, rfl, rfl, rfl, rfl, rfl, rfl, rfl, rfl⟩, fun s r named => ?_,
    fun s r named => ?_⟩
  · intro t other loss kept
    obtain ⟨v, e, taken, same⟩ := s.lostEvent_marks r
    have marks := taken.marks same
    refine ⟨?_, ?_, ?_, taken.lastChange, fun ⟨auto, active⟩ state available => ?_, fun ⟨auto, active⟩ state unavailable => ?_,
      fun stays => ?_, taken.rep, taken.rest⟩
    · rw [marks.mark, Servo.remarked, Servo.mark_reschedule, Servo.mark_setMark _ named]
    · rw [marks.mark, Servo.remarked, Servo.mark_reschedule, Servo.mark_setMark_of_ne _ (Ref.other_ne_self named)]
    · rw [marks.revertIn, Servo.remarked_none_revertIn _ named]
    · have taken := State.lostEvent_switches auto active state available
      exact ⟨taken.servo_eq ⟨rfl, rfl, rfl⟩ (s.servo.remarked_enterAcquire r none _), taken.exch⟩
    · have taken := State.lostEvent_holds_over auto active state unavailable
      exact ⟨taken.servo_eq ⟨rfl, rfl, rfl⟩ (s.servo.remarked_enterHoldover r none), taken.exch⟩
    · have taken := State.lostEvent_stays stays
      exact ⟨taken.servo_eq ⟨rfl, rfl, rfl⟩ (s.servo.remarked_eq r none), taken.exch⟩
  · intro t marked offer switch revert entered
    obtain ⟨v, e, taken, same⟩ := s.liveEvent_marks r
    have marks := taken.marks same
    refine ⟨?_, ?_, marks.revertIn, taken.lastChange, fun ⟨⟨auto, configured⟩, acquire, elsewhere, lost⟩ => ?_,
      fun ⟨⟨auto, configured⟩, locked, passes⟩ => ?_, fun no_switch no_revert => ?_, taken.rep, taken.rest⟩
    · rw [marks.mark, Servo.remarked, Servo.mark_reschedule, Servo.mark_setMark _ named]
      rfl
    · rw [marks.mark, Servo.remarked, Servo.mark_reschedule, Servo.mark_setMark_of_ne _ (Ref.other_ne_self named)]
    · have taken := State.liveEvent_switches auto configured acquire elsewhere lost
      exact ⟨taken.servo_eq ⟨rfl, rfl, rfl⟩ (s.servo.remarked_enterAcquire r s.newMark _), taken.exch⟩
    · have taken := State.liveEvent_reverts auto configured locked passes
      exact ⟨taken.servo_eq ⟨rfl, rfl, rfl⟩ (s.servo.remarked_enterAcquire r s.newMark _), taken.exch⟩
    · have taken := State.liveEvent_stays no_switch no_revert
      have servo := taken.servo_eq ⟨rfl, rfl, rfl⟩ (s.servo.remarked_eq r s.newMark)
      have condition : t.servo.condition = s.servo.condition := by rw [servo]; rfl
      have last : t.servo.lastChange = s.servo.lastChange := taken.lastChange.trans (if_pos condition)
      refine ⟨taken.exch, servo.trans ?_⟩
      rw [Servo.withMarksOf, last]

end
end

section
/-! The servo's commands and settings (R71, R97 to R102): the end of holdover, the revert, the mode commands, ALIGN, SET RATE and
SET TIME. -/

namespace Sys2Proof.Machine

/-! ### Answers -/

/-- An item that is answered by cases is finished by cases. -/
theorem State.finishItem_ite {c : Prop} [Decidable c] (a b : State × ItemResult) (r : Request) :
    (if c then a else b).1.finishItem r (if c then a else b).2 =
      if c then a.1.finishItem r a.2 else b.1.finishItem r b.2 := by
  split <;> rfl

/-! ### The end of holdover (R97) -/

/-- The servo after the end of holdover, as the event leaves it. -/
def Servo.holdoverEnded (v : Servo) (now : BitVec 32) : Servo :=
  { v with
    state := if v.state = .holdover then .free else v.state
    memory := false
    active := if v.state = .holdover ∧ v.held = false then .none else v.active
    entryU := none
    holdTime := none
    lastChange := some now }

theorem Servo.endHoldover_ended {v : Servo} (form : v.state = .holdover ∨ (v.state = .acquire ∧ v.memory = true))
    (now : BitVec 32) : { v.endHoldover with lastChange := some now } = v.holdoverEnded now := by
  rcases form with state | ⟨state, -⟩
  · cases held : v.held <;> simp [Servo.endHoldover, Servo.holdoverEnded, state, held]
  · simp [Servo.endHoldover, Servo.holdoverEnded, state]

theorem Servo.endHoldover_condition_ne {v : Servo} (form : v.state = .holdover ∨ (v.state = .acquire ∧ v.memory = true)) :
    v.endHoldover.condition ≠ v.condition := by
  rcases form with state | ⟨state, memory⟩
  · simp [Servo.endHoldover, Servo.condition, state]
  · simp [Servo.endHoldover, Servo.condition, state, memory]

theorem Servo.endHoldover_uncertainty {v : Servo} (form : v.state = .holdover ∨ (v.state = .acquire ∧ v.memory = true)) :
    v.endHoldover.uncertainty = 4294967295 := by
  rcases form with state | ⟨state, -⟩
  · exact Servo.uncertainty_unbounded (.inl (by simp [Servo.endHoldover, state]))
  · exact Servo.uncertainty_unbounded (.inr (by simp [Servo.endHoldover, state]))

theorem State.endHoldover_ownClass {s : State}
    (form : s.servo.state = .holdover ∨ (s.servo.state = .acquire ∧ s.servo.memory = true)) :
    (s.setServo s.servo.endHoldover).ownClass = if s.servo.state = .holdover then 15 else 14 := by
  rcases form with state | ⟨state, -⟩ <;> simp [State.ownClass, Servo.endHoldover, state]

/-- The end of holdover gives one transition, from the condition before it. -/
theorem State.endHoldover_eq {s : State}
    (form : s.servo.state = .holdover ∨ (s.servo.state = .acquire ∧ s.servo.memory = true)) :
    s.endHoldover = (s.setServo (s.servo.holdoverEnded s.clock.runCounter)).transition .servo (.servo s.servo.condition)
      (.servo (s.servo.holdoverEnded s.clock.runCounter).condition)
      (.condition 4294967295 (if s.servo.state = .holdover then 15 else 14)) := by
  have ended := Servo.endHoldover_ended form s.clock.runCounter
  have condition : (s.servo.holdoverEnded s.clock.runCounter).condition = s.servo.endHoldover.condition := by
    rw [← ended]; rfl
  rw [State.endHoldover, State.tracked_changed (Servo.endHoldover_condition_ne form), condition, ← ended,
    ← State.endHoldover_ownClass form, ← Servo.endHoldover_uncertainty form]
  rfl

theorem State.ceilingDue_iff (s : State) : s.ceilingDue = true ↔
    (s.servo.state = .holdover ∨ (s.servo.state = .acquire ∧ s.servo.memory = true)) ∧
      4294967294 ≤ s.servo.entryU.getD 0 + (s.servo.holdBound * (s.servo.holdTime.getD 0).toNat + 999999) / 1000000 := by
  rw [State.ceilingDue, Bool.and_eq_true, Servo.holdForm_iff, beq_iff_eq, Servo.heldU_eq_ceiling_iff]

theorem State.holdoverLimitDue_iff (s : State) : s.holdoverLimitDue = true ↔
    (s.servo.state = .holdover ∨ (s.servo.state = .acquire ∧ s.servo.memory = true)) ∧
      s.servo.holdoverLimit * 1000 ≤ (s.servo.holdTime.getD 0).toNat := by
  rw [State.holdoverLimitDue, Bool.and_eq_true, Servo.holdForm_iff, decide_eq_true_eq]

theorem Servo.not_held_form {v : Servo}
    (other : v.state = .free ∨ v.state = .locked ∨ (v.state = .acquire ∧ v.memory = false)) :
    ¬(v.state = .holdover ∨ (v.state = .acquire ∧ v.memory = true)) := by
  rcases other with state | state | ⟨state, memory⟩ <;> simp [*]

theorem State.setHoldLimit_of_not_due {s : State} {x : Nat}
    (early : ¬(s.setServo { s.servo with holdoverLimit := x }).holdoverLimitDue = true) :
    s.setHoldLimit x = s.setServo { s.servo with holdoverLimit := x } := if_neg early

theorem State.setHoldBound_of_not_due {s : State} {x : Nat}
    (early : ¬(s.setServo { s.servo with holdBound := x }).ceilingDue = true) :
    s.setHoldBound x = s.setServo { s.servo with holdBound := x } := if_neg early

/-! ### The revert (R98) -/

theorem State.revertPasses_iff (s : State) : s.revertPasses = true ↔
    s.servo.held = false ∧ s.servo.state = .locked ∧ s.servo.active = s.servo.effectiveSecondary ∧
      s.servo.revertEnable = true ∧ s.available s.servo.primary = true ∧
      ∃ m, s.servo.mark s.servo.primary = some m ∧ s.servo.revertTime * 1000 ≤ m.age.toNat := by
  unfold State.revertPasses
  cases s.servo.mark s.servo.primary <;> simp [and_assoc]

theorem State.revertTest_of_memory {s : State} (passes : s.revertPasses = true) (memory : s.servo.memory = true) :
    s.revertTest = { s with
      servo := { s.servo with
        state := .acquire, active := s.servo.primary, lockCounter := 0, unlockCounter := 0, stepPending := false
        entryU := some s.servo.lockedU, holdTime := some 0 }
      exch := s.exch.setWindow s.servo.primary [] } := by
  obtain ⟨-, locked, -⟩ := s.revertPasses_iff.mp passes
  rw [State.revertTest_passes passes, State.startAcquire, Servo.enterAcquire, if_pos memory, if_pos memory, Servo.uncertainty_locked locked]
  rfl

/-! ### The modes (R99) -/

/-- SERVO HELD takes the servo to HOLDOVER where it has a memory of the rate, and otherwise to FREE. -/
theorem Servo.hold_eq (v : Servo) :
    let toHoldover : Bool := v.state == .locked || (v.state == .acquire && v.memory)
    v.hold = { v with
      state := if toHoldover || v.state == .holdover then .holdover else .free
      held := true, lockCounter := 0, unlockCounter := 0, stepPending := false
      entryU := if toHoldover then some v.uncertainty else v.entryU
      holdTime := if toHoldover then some 0 else v.holdTime } := by
  cases state : v.state with
  | free => simp [Servo.hold, state]
  | holdover => simp [Servo.hold, state]
  | locked => simp [Servo.hold, state, Servo.enterHoldover]
  | acquire => cases memory : v.memory <;> simp [Servo.hold, state, memory, Servo.enterHoldover]

theorem State.setTime_eq (s : State) (target : Int) : s.setTime target = s.tracked fun t =>
    let stepped := t.applyStep (target - s.clock.value) .setTime
    if s.servo.state = .holdover then
      { stepped with servo := { stepped.servo with state := .free, memory := false, entryU := none, holdTime := none } }
    else stepped := by
  refine State.tracked_congr ?_
  have state : (s.applyStep (target - s.clock.value) .setTime).servo.state = s.servo.state := by
    rw [State.applyStep_servo]; rfl
  simp only [state]
  rfl

end Sys2Proof.Machine

section

open Sys2Proof Sys2Proof.Machine

/-- Settles O45, the form of U in use deciding whether an end can be reached. -/
theorem holdoverEndsByLimitOrCeiling : Obligations.HoldoverEndsByLimitOrCeiling := by
  refine ⟨fun stored value => rfl, fun s dt r v other => ?_, fun s form => ?_⟩
  · intro limit value stored
    have no_form := Servo.not_held_form other
    refine ⟨fun item => ?_, fun item => ?_⟩
    · have early : ¬((s.runBy dt).setServo { s.servo with holdoverLimit := limit.toNat }).holdoverLimitDue = true := by
        rw [State.holdoverLimitDue_iff]
        exact fun due => no_form due.1
      have stays : (s.runBy dt).setHoldLimit limit.toNat = stored { s.servo with holdoverLimit := limit.toNat } :=
        State.setHoldLimit_of_not_due early
      rw [← stays]
      exact congrArg Host.Outcome.next (State.carryOut_runBy (p := (s.runBy dt).writeHoldLimit v) item dt rfl)
    · have early : ¬((s.runBy dt).setServo { s.servo with holdBound := value.toNat }).ceilingDue = true := by
        rw [State.ceilingDue_iff]
        exact fun due => no_form due.1
      have stays : (s.runBy dt).setHoldBound value.toNat = stored { s.servo with holdBound := value.toNat } :=
        State.setHoldBound_of_not_due early
      rw [← stays]
      exact congrArg Host.Outcome.next (State.carryOut_runBy (p := (s.runBy dt).writeHoldBound v) item dt rfl)
  · intro ended figures finished th grown
    refine ⟨fun running reached => ?_, fun running reached => ?_, fun dt r v item => ?_, fun dt r v item => ?_⟩
    · exact congrArg Host.Outcome.next ((State.takeIf_of_due s _ _ running
        (s.holdoverLimitDue_iff.mpr ⟨form, reached⟩)).trans (State.endHoldover_eq form))
    · exact congrArg Host.Outcome.next ((State.takeIf_of_due s _ _ running
        (s.ceilingDue_iff.mpr ⟨form, reached⟩)).trans (State.endHoldover_eq form))
    · intro x t
      have due : t.holdoverLimitDue = true ↔ x.toNat * 1000 ≤ th :=
        t.holdoverLimitDue_iff.trans (and_iff_right form)
      have written : (s.runBy dt).setHoldLimit x.toNat = if x.toNat * 1000 ≤ th then finished t else t := by
        rw [← if_congr due rfl rfl]
        exact congrArg (fun e => if t.holdoverLimitDue then e else t) (State.endHoldover_eq (s := t) form)
      rw [← written]
      exact congrArg Host.Outcome.next (State.carryOut_runBy (p := (s.runBy dt).writeHoldLimit v) item dt rfl)
    · intro x t
      have due : t.ceilingDue = true ↔ 4294967294 ≤ grown x.toNat := t.ceilingDue_iff.trans (and_iff_right form)
      have written : (s.runBy dt).setHoldBound x.toNat = if 4294967294 ≤ grown x.toNat then finished t else t := by
        rw [← if_congr due rfl rfl]
        exact congrArg (fun e => if t.ceilingDue then e else t) (State.endHoldover_eq (s := t) form)
      rw [← written]
      exact congrArg Host.Outcome.next (State.carryOut_runBy (p := (s.runBy dt).writeHoldBound v) item dt rfl)

/-- Settles O46. -/
theorem revertReturnsToThePrimary : Obligations.RevertReturnsToThePrimary := by
  refine ⟨fun s event => ⟨State.tracked_same, State.tracked_changed⟩, fun v old => ⟨Servo.reschedule_stands, fun changed => ?_⟩,
    fun s => ?_⟩
  · have anew := Servo.reschedule_anew changed
    refine ⟨fun unmarked => ?_, fun m marked => ⟨fun young => ?_, fun reached => ?_⟩⟩
    · rw [anew, Servo.revertDistance_none unmarked]
    · rw [anew, Servo.revertDistance_some marked, if_pos young]
    · rw [anew, Servo.revertDistance_some marked, if_neg (Nat.not_lt.mpr reached)]
  · intro primary
    refine ⟨s.revertPasses_iff, State.revertTest_fails, State.revertTest_of_memory, fun running due => ?_, fun dt r v => ?_⟩
    · exact congrArg Host.Outcome.next (State.takeIf_of_due s _ _ running (by simp [State.revertDue, due]))
    · intro test
      refine ⟨fun item => ?_, fun item => ?_⟩
      · refine (congrArg Host.Outcome.next (State.carryOut_runBy (p := (s.runBy dt).writeRevertEnable v) item dt rfl)).trans ?_
        exact congrArg Host.Outcome.next (State.finishItem_ite _ _ r)
      · exact congrArg Host.Outcome.next (State.carryOut_runBy (p := (s.runBy dt).writeRevertTime v) item dt rfl)

/-- Settles O47. -/
theorem servoModeCommands : Obligations.ServoModeCommands := by
  intro s dt r u ok v toHoldover secondary choice
  have held_item (item : s.currentItem = some (r, .servoHeld)) :
      exec (.servoHeld dt) s = .next ((if v.held then u else u.tracked fun t => t.setServo t.servo.hold).finishItem r ok) :=
    congrArg Host.Outcome.next (State.carryOut_runBy (p := u.servoHeld) item dt rfl)
  have auto_item (item : s.currentItem = some (r, .servoAuto)) :
      exec (.servoAuto dt) s = .next ((if v.held then u.tracked State.release else u).finishItem r ok) :=
    congrArg Host.Outcome.next (State.carryOut_runBy (p := u.servoAuto) item dt rfl)
  refine ⟨fun item held => ?_, fun item auto => ?_, fun item auto => ?_, fun item held => ?_⟩
  · rw [held_item item, if_pos held]
  · have work : (u.tracked fun t => t.setServo t.servo.hold) = u.tracked fun t => t.setServo v.hold :=
      State.tracked_congr rfl
    rw [held_item item, auto, work, v.hold_eq]
    rfl
  · rw [auto_item item, auto]
    rfl
  · rw [auto_item item, if_pos held]
    exact congrArg (fun t => Host.Outcome.next (State.finishItem t r ok)) (State.tracked_congr rfl)

/-- Settles O48. -/
theorem alignSetRateAndSetTime : Obligations.AlignSetRateAndSetTime := by
  intro s dt r u
  refine ⟨fun item => ?_, fun rate item => ?_, fun target item => ?_⟩
  · exact (congrArg Host.Outcome.next (State.carryOut_runBy (p := u.servoAlign) item dt rfl)).trans
      (congrArg Host.Outcome.next (State.finishItem_ite _ _ r))
  · intro x
    exact (congrArg Host.Outcome.next (State.carryOut_runBy (p := u.servoSetRate rate) item dt rfl)).trans
      (congrArg Host.Outcome.next (State.finishItem_ite _ _ r))
  · have carried : exec (.setTime dt) s = .next ((u.setTimeItem target).1.finishItem r (u.setTimeItem target).2) :=
      congrArg Host.Outcome.next (State.carryOut_runBy (p := u.setTimeItem target) item dt rfl)
    have instant (low : target.nanos < 1000000000) : ¬target.isInstant = false := by simp [RawStamp.isInstant, low]
    refine ⟨fun late => ?_, fun low state auto => ?_, fun low allowed => ?_⟩
    · have no_instant : target.isInstant = false := by simpa [RawStamp.isInstant] using late
      rw [carried, State.setTimeItem, if_pos no_instant]
      rfl
    · have closed : ¬(u.servo.state = .free ∨ u.servo.held = true) :=
        fun h => h.elim state fun held => Bool.false_ne_true (auto.symm.trans held)
      rw [carried, State.setTimeItem, if_neg (instant low), if_neg closed]
      rfl
    · have opened : u.servo.state = .free ∨ u.servo.held = true := allowed
      rw [carried, State.setTimeItem, if_neg (instant low), if_pos opened]
      exact congrArg (fun t => Host.Outcome.next (State.finishItem t r { status := .ok, content := [] }))
        (State.setTime_eq u target.fineUnits)

end
end

section
/-! What the servo does at each sample (R64, R75 to R78, R92 to R94, R100, R105). -/

namespace Sys2Proof.Machine

/-! ### The selection (R76) -/

/-- A sample of a window is the newest of those of least d. -/
def IsSelected (w : List Sample) (x : Sample) : Prop :=
  ∃ before after, w = before ++ x :: after ∧ (∀ y ∈ before, x.delay ≤ y.delay) ∧ ∀ y ∈ after, x.delay < y.delay

theorem IsSelected.append_worse {w : List Sample} {x y : Sample} (h : IsSelected w x) (worse : x.delay < y.delay) :
    IsSelected (w ++ [y]) x := by
  obtain ⟨before, after, rfl, least, newest⟩ := h
  refine ⟨before, after ++ [y], by simp, least, fun z mem => ?_⟩
  rcases List.mem_append.mp mem with mem | mem
  · exact newest z mem
  · rw [List.mem_singleton.mp mem]; exact worse

theorem IsSelected.append_better {w : List Sample} {x y : Sample} (h : IsSelected w x) (better : y.delay ≤ x.delay) :
    IsSelected (w ++ [y]) y := by
  obtain ⟨before, after, rfl, least, newest⟩ := h
  refine ⟨before ++ x :: after, [], rfl, fun z mem => ?_, by simp⟩
  rcases List.mem_append.mp mem with mem | mem
  · exact better.trans (least z mem)
  · rcases List.mem_cons.mp mem with rfl | mem
    · exact better
    · exact better.trans (newest z mem).le

theorem selectSample_append (w : List Sample) (y : Sample) :
    selectSample (w ++ [y]) = betterSample (selectSample w) y := by simp [selectSample]

theorem selectSample_of_ne_nil {w : List Sample} (some_ : w ≠ []) : ∃ x, selectSample w = some x ∧ IsSelected w x := by
  induction w using List.reverseRecOn with
  | nil => contradiction
  | append_singleton w y ih =>
    rw [selectSample_append]
    by_cases empty : w = []
    · subst empty
      exact ⟨y, rfl, [], [], rfl, by simp, by simp⟩
    · obtain ⟨x, chosen, selected⟩ := ih empty
      rw [chosen, betterSample]
      split
      · rename_i better; exact ⟨y, rfl, selected.append_better better⟩
      · rename_i worse; exact ⟨x, rfl, selected.append_worse (Nat.not_le.mp worse)⟩

/-! ### The step test (R77) -/

theorem stepTest_two (w : List Sample) (y x : Sample) (limit : Nat) : stepTest (w ++ [y, x]) limit =
    if x.theta.natAbs ≤ limit then .steer
    else if limit < y.theta.natAbs ∧ (x.theta - y.theta).natAbs ≤ limit then .step else .hold := by
  simp [stepTest]

theorem stepTest_one (x : Sample) (limit : Nat) :
    stepTest [x] limit = if x.theta.natAbs ≤ limit then .steer else .hold := rfl

/-! ### A sample of the active reference -/

theorem State.sampleEntered_eq (s : State) (r : Ref) :
    s.sampleEntered r = s.tracked fun s => (if s.servo.active = r then s.select else s).sampleWork r := rfl

theorem State.select_eq (s : State) : ∃ c, s.select = s.setServo { s.servo with leaderClass := c } := by
  unfold State.select
  split
  · exact ⟨_, rfl⟩
  · exact ⟨s.servo.leaderClass, rfl⟩

/-- The state in which the selection over a window has been made. -/
def State.chosen (s : State) (x : Sample) : State := s.setServo { s.servo with leaderClass := some x.leaderClass }

section

variable {s : State} {r : Ref} {old : List Sample} {newest x : Sample}

theorem State.select_of_window (window : s.activeWindow = old ++ [newest]) (selected : selectSample (old ++ [newest]) = some x) :
    s.select = s.chosen x := by
  simp [State.select, State.selected, window, selected, State.chosen]

theorem State.chosen_selected (window : s.activeWindow = old ++ [newest])
    (selected : selectSample (old ++ [newest]) = some x) : (s.chosen x).selected = some x := by
  rw [State.selected, show (s.chosen x).activeWindow = s.activeWindow from rfl, window, selected]

theorem State.newestTheta_eq (window : s.activeWindow = old ++ [newest]) : s.newestTheta = newest.theta := by
  simp [State.newestTheta, window]

/-- What a sample of the active reference makes of the state in which the selection has been made. -/
theorem State.sampleEntered_active (active : s.servo.active = r) (window : s.activeWindow = old ++ [newest])
    (selected : selectSample (old ++ [newest]) = some x) :
    s.sampleEntered r = s.tracked fun _ => (s.chosen x).sampleWork r := by
  rw [State.sampleEntered_eq]
  refine State.tracked_congr ?_
  rw [if_pos active, State.select_of_window window selected]

theorem State.sampleWork_acquire (auto : s.servo.held = false) (state : s.servo.state = .acquire) (active : s.servo.active = r) :
    s.sampleWork r = s.acquireSample := by simp [State.sampleWork, auto, state, active]

theorem State.sampleWork_locked (auto : s.servo.held = false) (state : s.servo.state = .locked) (active : s.servo.active = r) :
    s.sampleWork r = s.lockedSample := by simp [State.sampleWork, auto, state, active]

theorem State.sampleWork_held (held : s.servo.held = true) (active : s.servo.active = r) :
    s.sampleWork r = s.alignTest := by simp [State.sampleWork, held, active]

theorem State.sampleWork_free (auto : s.servo.held = false) (state : s.servo.state = .free ∨ s.servo.state = .holdover) :
    s.sampleWork r = s.leadOut r := by
  rcases state with state | state <;> simp [State.sampleWork, auto, state]

theorem State.sampleWork_other (active : s.servo.active ≠ r)
    (state : s.servo.held = true ∨ s.servo.state = .acquire ∨ s.servo.state = .locked) : s.sampleWork r = s := by
  unfold State.sampleWork
  rcases state with held | state | state <;> simp [*]

theorem State.acquireSample_step (step : stepTest s.activeWindow (fuPerNs * s.servo.stepLimit) = .step) : s.acquireSample =
    (s.setServo { s.servo with stepOutcome := some .step, lockCounter := 0 }).applyStep (-s.newestTheta) .acquire := by
  simp [State.acquireSample, step]

theorem State.acquireSample_hold (hold : stepTest s.activeWindow (fuPerNs * s.servo.stepLimit) = .hold) : s.acquireSample =
    s.setServo { s.servo with stepOutcome := some .hold, stepPending := true, lockCounter := 0 } := by
  simp [State.acquireSample, hold]

theorem State.acquireSample_steer (steer : stepTest s.activeWindow (fuPerNs * s.servo.stepLimit) = .steer)
    (selected : s.selected = some x) : s.acquireSample = s.steer x := by
  simp [State.acquireSample, steer, selected]

/-- The state after the PI update of a STEER outcome, before the lock test. -/
def State.steered (s : State) (x : Sample) : State :=
  (s.piUpdate x).setServo { (s.piUpdate x).servo with
    stepOutcome := some .steer, stepPending := false, lockCounter := s.servo.movedLockCounter x }

theorem State.steer_eq (s : State) (x : Sample) : s.steer x =
    if (s.steered x).lockPasses then ((s.steered x).setServo ((s.steered x).servo.enterLocked x)).revertTest
    else s.steered x := rfl

theorem State.steered_lockPasses (window : s.activeWindow = old ++ [newest]) : (s.steered x).lockPasses = true ↔
    old.length + 1 = s.exch.windowSize ∧ 4 ≤ s.servo.movedLockCounter x := by
  have same : (s.steered x).activeWindow = s.activeWindow := rfl
  have pending : (s.steered x).servo.stepPending = false := rfl
  have counter : (s.steered x).servo.lockCounter = s.servo.movedLockCounter x := rfl
  have size : (s.steered x).exch.windowSize = s.exch.windowSize := rfl
  simp [State.lockPasses, same, pending, counter, size, window]

theorem State.lockedSample_eq (selected : s.selected = some x) :
    s.lockedSample = ((s.piUpdate x).setServo { (s.piUpdate x).servo with lockedU := lockedForm x }).unlockTest x := by
  simp [State.lockedSample, selected]

theorem State.unlockTest_within (within : ¬fuPerNs * s.servo.effectiveUnlock < x.theta.natAbs) :
    s.unlockTest x = s.setServo { s.servo with unlockCounter := 0 } := if_neg within

theorem State.unlockTest_counts (beyond : fuPerNs * s.servo.effectiveUnlock < x.theta.natAbs)
    (few : s.servo.unlockCounter < 2) :
    s.unlockTest x = s.setServo { s.servo with unlockCounter := s.servo.unlockCounter + 1 } := by
  rw [State.unlockTest, if_pos beyond, if_pos (by omega)]

theorem State.unlockTest_unlocks (beyond : fuPerNs * s.servo.effectiveUnlock < x.theta.natAbs)
    (third : 2 ≤ s.servo.unlockCounter) : s.unlockTest x = s.setServo (s.servo.enterAcquire s.servo.active) := by
  rw [State.unlockTest, if_pos beyond, if_neg (by omega)]

/-- In LOCKED an entry into ACQUIRE takes the locked form into U_entry. -/
theorem Servo.enterAcquire_of_locked {v : Servo} (state : v.state = .locked) (r : Ref) : v.enterAcquire r =
    { v with
      state := .acquire, active := r, lockCounter := 0, unlockCounter := 0, stepPending := false
      entryU := if v.memory then some v.lockedU else none
      holdTime := if v.memory then some 0 else none } := by
  rw [Servo.enterAcquire, Servo.uncertainty_locked state]

theorem State.alignTest_pending (pending : s.servo.alignPending = true) : s.alignTest =
    (s.applyStep (-s.newestTheta) .align).setServo
      { (s.applyStep (-s.newestTheta) .align).servo with alignPending := false } := by
  simp [State.alignTest, pending]

theorem State.alignTest_idle (idle : s.servo.alignPending = false) : s.alignTest = s := by simp [State.alignTest, idle]

theorem State.applyStep_condition (s : State) (sigma : Int) (source : StepSource) :
    (s.applyStep sigma source).servo.condition = s.servo.condition := by
  rw [State.applyStep_servo]
  rfl

theorem State.leadOut_leads (leads : s.available r = true ∧ (r = s.servo.primary ∨ s.available s.servo.primary = false)) :
    s.leadOut r = s.startAcquire r := by
  obtain ⟨available, first⟩ := leads
  rcases first with rfl | none
  · simp [State.leadOut, available]
  · simp [State.leadOut, available, none]

theorem State.leadOut_stays (stays : ¬(s.available r = true ∧ (r = s.servo.primary ∨ s.available s.servo.primary = false))) :
    s.leadOut r = s := by
  unfold State.leadOut
  refine if_neg fun both => stays ?_
  simpa using both

end

end Sys2Proof.Machine

section

open Sys2Proof Sys2Proof.Machine

/-- Settles O43: the selection is made first, and then the mode and the state say what the sample does. -/
theorem selectionAndStepTest : Obligations.SelectionAndStepTest := by
  refine ⟨fun w => ⟨fun empty => by rw [empty]; rfl, fun some_ => ?_⟩, fun w x y limit => ⟨?_, ?_, ?_, ?_⟩, fun s r x => rfl,
    fun s r old newest x active window selected => ?_, fun s r => ?_⟩
  · obtain ⟨x, chosen, before, after, parts, least, newest⟩ := selectSample_of_ne_nil some_
    exact ⟨before, x, after, parts, chosen, least, newest⟩
  · rw [stepTest_two]
    split_ifs <;> simp_all
  · rw [stepTest_two]
    split_ifs <;> simp_all
  · rw [stepTest_one]
    split_ifs <;> simp_all
  · rw [stepTest_one]
    split_ifs <;> simp_all
  · intro v chosen t outcome steered counter moved locks judged beyond
    have entered : t = s.tracked fun _ => chosen.sampleWork r := State.sampleEntered_active active window selected
    have chosen_active : chosen.servo.active = r := active
    have chosen_window : chosen.activeWindow = old ++ [newest] := window
    have chosen_selected : chosen.selected = some x := State.chosen_selected window selected
    have newest_theta : chosen.newestTheta = newest.theta := State.newestTheta_eq chosen_window
    -- an event that leaves the condition is its work
    have is_work {w : State} (work : chosen.sampleWork r = w) (same : w.servo.condition = s.servo.condition) : t = w := by
      rw [entered, work]
      exact State.tracked_same same
    refine ⟨fun auto state => ?_, fun auto state => ?_, fun held idle => ?_, fun held pending => ?_⟩
    · have acquires : chosen.sampleWork r = chosen.acquireSample := State.sampleWork_acquire auto state chosen_active
      have outcome_eq : stepTest chosen.activeWindow (fuPerNs * chosen.servo.stepLimit) = outcome := by rw [chosen_window]; rfl
      have passes := State.steered_lockPasses (x := x) chosen_window
      refine ⟨fun step => ?_, fun hold => ?_, fun steer opened => ?_, fun steer locked => ?_⟩
      · have work := acquires.trans (State.acquireSample_step (outcome_eq.trans step))
        rw [newest_theta] at work
        exact is_work work (State.applyStep_condition _ _ _)
      · exact is_work (acquires.trans (State.acquireSample_hold (outcome_eq.trans hold))) rfl
      · have work := acquires.trans (State.acquireSample_steer (outcome_eq.trans steer) chosen_selected)
        rw [State.steer_eq, if_neg (fun h => opened (passes.mp h))] at work
        exact is_work work rfl
      · have work := acquires.trans (State.acquireSample_steer (outcome_eq.trans steer) chosen_selected)
        rw [State.steer_eq, if_pos (passes.mpr locked)] at work
        rw [entered, work]
        rfl
    · have work := (State.sampleWork_locked (s := chosen) auto state chosen_active).trans (State.lockedSample_eq chosen_selected)
      refine ⟨fun within => ?_, fun beyond_ few => ?_, fun beyond_ third => ?_⟩
      · exact is_work (work.trans (State.unlockTest_within (s := judged) within)) rfl
      · exact is_work (work.trans (State.unlockTest_counts (s := judged) beyond_ few)) rfl
      · have enters := Servo.enterAcquire_of_locked (v := judged.servo) state judged.servo.active
        rw [entered, work.trans ((State.unlockTest_unlocks (s := judged) beyond_ third).trans (congrArg judged.setServo enters))]
        rfl
    · exact is_work ((State.sampleWork_held (s := chosen) held chosen_active).trans (State.alignTest_idle (s := chosen) idle)) rfl
    · intro stepped
      have work := (State.sampleWork_held (s := chosen) held chosen_active).trans (State.alignTest_pending (s := chosen) pending)
      rw [newest_theta] at work
      exact is_work work (State.applyStep_condition chosen (-newest.theta) .align)
  · intro chosen t leads
    obtain ⟨c, choice⟩ : ∃ c, chosen = s.setServo { s.servo with leaderClass := c } := by
      by_cases active : s.servo.active = r
      · obtain ⟨c, choice⟩ := s.select_eq
        exact ⟨c, (if_pos active).trans choice⟩
      · exact ⟨s.servo.leaderClass, if_neg active⟩
    have entered : t = s.tracked fun _ => chosen.sampleWork r := rfl
    refine ⟨fun auto state => ?_, fun active busy => ?_⟩
    · have available (q : Ref) : chosen.available q = s.available q := by rw [choice]; cases q <;> rfl
      have primary : chosen.servo.primary = s.servo.primary := by rw [choice]; rfl
      have work : chosen.sampleWork r = chosen.leadOut r := by
        rw [choice]
        exact State.sampleWork_free auto state
      rw [entered, work]
      refine ⟨fun first => ?_, fun stays => ?_⟩
      · rw [State.leadOut_leads (by rw [available, available, primary]; exact first), choice]
        rfl
      · rw [State.leadOut_stays (by rw [available, available, primary]; exact stays), choice]
        exact State.tracked_same rfl
    · have same : chosen = s := if_neg active
      rw [entered, same, State.sampleWork_other active busy]
      exact State.tracked_same rfl

end
end

section
/-! The north exchange at a Reply (R60 to R62, R175, R176). -/

namespace Sys2Proof.Machine

/-! ### Fields at their places -/

/-- A signed field of eight bytes, from the number its bytes spell. -/
def signedOf (n : Nat) : Int := if n < 2 ^ 63 then n else (n : Int) - 2 ^ 64

/-- The timing stamp whose fields the bytes at a place spell. -/
def stampOf (p : List Byte) (offset : Nat) : RawStamp where
  seconds := beNat ((p.drop offset).take 6)
  nanos := beNat ((p.drop (offset + 6)).take 4)
  fraction := beNat ((p.drop (offset + 10)).take 2)

theorem intAt_of_le {p : List Byte} {offset : Nat} (inside : offset + 8 ≤ p.length) :
    intAt p offset 8 = some (signedOf (beNat ((p.drop offset).take 8))) := by
  have length : ((p.drop offset).take 8).length = 8 := by rw [List.length_take, List.length_drop]; omega
  rw [intAt, bytesAt_of_le inside, Option.map_some, beInt, length]
  rfl

theorem stampAt_of_le {p : List Byte} {offset : Nat} (inside : offset + 12 ≤ p.length) :
    stampAt p offset = some (stampOf p offset) := by
  rw [stampAt, natAt_of_le (by omega), natAt_of_le (by omega), natAt_of_le (by omega)]
  rfl

theorem stampAt_of_lt {p : List Byte} {offset : Nat} (outside : p.length < offset + 12) : stampAt p offset = none := by
  simp [stampAt, natAt_of_lt (bytes := p) (offset := offset + 10) (width := 2) (by decide) (by omega)]

theorem payloadOf_eq (bytes : List Byte) : payloadOf bytes =
    (bytes.take (bytes.length - 4)).drop (if (bytes.drop 12).take 2 = [0x81, 0x00] then 18 else 14) := by
  rw [payloadOf, payloadStart_eq]
  rfl

/-! ### The reading of a Reply -/

theorem readReply_eq_none {bytes : List Byte}
    (unread : (payloadOf bytes).length < 67 ∨ (payloadOf bytes)[0]? ≠ some 2) : readReply bytes = none := by
  rcases unread with short | version
  · simp [readReply, natAt_of_lt (bytes := payloadOf bytes) (offset := 63) (width := 4) (by decide) (by omega)]
  · cases first : (payloadOf bytes)[0]? with
    | none => simp [readReply, first]
    | some v =>
      have other : v ≠ timingVersion := fun same => version (by rw [first, same]; rfl)
      simp [readReply, first, other]

theorem readReply_eq_some {bytes : List Byte} (p : List Byte) (payload : payloadOf bytes = p) (long : 67 ≤ p.length)
    (version : p[0]? = some 2) : readReply bytes = some
      { seq := BitVec.ofNat 16 (beNat ((p.drop 4).take 2))
        correction := signedOf (beNat ((p.drop 14).take 8))
        requester := BitVec.ofNat 64 (beNat ((p.drop 22).take 8))
        t2 := stampOf p 30, t3 := stampOf p 42
        cFwd := signedOf (beNat ((p.drop 54).take 8))
        leaderClass := beNat ((p.drop 62).take 1), leaderU := beNat ((p.drop 63).take 4) } := by
  simp [readReply, payload, version, timingVersion, natAt_of_le (bytes := p), intAt_of_le (p := p), stampAt_of_le (p := p), long,
    show 6 ≤ p.length by omega, show 22 ≤ p.length by omega, show 30 ≤ p.length by omega, show 42 ≤ p.length by omega,
    show 54 ≤ p.length by omega, show 62 ≤ p.length by omega, show 63 ≤ p.length by omega]

/-! ### The taking of a Reply -/

variable {s : State} {bytes : List Byte} {t1 t4 : Int} {f : ReplyFields} {e : Exchange}

theorem State.takeReplyFrame_refused
    (fails : ∀ f, readReply bytes = some f → ¬(sourceOf bytes = some s.exch.leader ∧ f.requester.toNat = s.senderId)) :
    s.takeReplyFrame bytes t4 = s.strayReply := by
  unfold State.takeReplyFrame
  split
  next f read => exact if_neg (fails f read)
  next => rfl

theorem State.takeReplyFrame_classified (read : readReply bytes = some f) (source : sourceOf bytes = some s.exch.leader)
    (requester : f.requester.toNat = s.senderId) : s.takeReplyFrame bytes t4 =
      match s.exch.classify f.seq with
      | .matching t1 => s.matchReply t1 t4 f
      | .late => s.setExch { s.exch with late := min 65535 (s.exch.late + 1) }
      | .stray => s.strayReply := by
  rw [State.takeReplyFrame, read]
  exact if_pos ⟨source, requester⟩

theorem Exchange.classify_opened {x : BitVec 16} {expiry : BitVec 32} (record : e.record = .opened x t1 expiry) :
    e.classify x = .matching t1 := by simp [Exchange.classify, record]

theorem Exchange.classify_waiting {x : BitVec 16} (record : e.record = .waiting x) : e.classify x = .stray := by
  simp [Exchange.classify, record]

/-- A sequence that is not the record's is LATE among the last ones issued, and else STRAY_REPLY. -/
theorem Exchange.classify_other {x : BitVec 16} (opened : ∀ t1 expiry, e.record ≠ .opened x t1 expiry)
    (waiting : e.record ≠ .waiting x) :
    e.classify x = if 0 < e.issued ∧ (e.nextSeq - 1 - x).toNat < e.issued then .late else .stray := by
  cases record : e.record with
  | empty => simp [Exchange.classify, record]
  | waiting seq => simp [Exchange.classify, record, show x ≠ seq from fun same => waiting (same ▸ record)]
  | opened seq t1 expiry =>
    simp [Exchange.classify, record, show x ≠ seq from fun same => opened t1 expiry (same ▸ record)]

theorem Servo.remarked_alpha (v : Servo) (r : Ref) (m : Option LiveMark) : (v.remarked r m).alpha = v.alpha := by
  rw [Servo.remarked_eq]

/-- A LIVE event leaves the asymmetry, the clock and the count of rejected round trips. -/
theorem State.liveEvent_keeps (s : State) (r : Ref) : (s.liveEvent r).servo.alpha = s.servo.alpha ∧
    (s.liveEvent r).clock = s.clock ∧ (s.liveEvent r).exch.badDelay = s.exch.badDelay := by
  have of_taken {v : Servo} {e : Exchange} (taken : TakenEvent s (s.liveEvent r) v e) (alpha : v.alpha = s.servo.alpha)
      (bad : e.badDelay = s.exch.badDelay) : (s.liveEvent r).servo.alpha = s.servo.alpha ∧
      (s.liveEvent r).clock = s.clock ∧ (s.liveEvent r).exch.badDelay = s.exch.badDelay := by
    refine ⟨?_, by rw [taken.rest], by rw [taken.exch, bad]⟩
    rw [taken.servo]
    exact alpha
  have marked := s.servo.remarked_alpha r s.newMark
  have emptied (q : Ref) : (s.exch.setWindow q []).badDelay = s.exch.badDelay := by cases q <;> rfl
  by_cases switch : (s.servo.held = false ∧ s.configured r = true) ∧ s.servo.state = .acquire ∧ s.servo.active ≠ r ∧
      s.live s.servo.active = false
  · obtain ⟨⟨auto, configured⟩, acquire, other, lost⟩ := switch
    exact of_taken (State.liveEvent_switches auto configured acquire other lost) marked (emptied r)
  · by_cases revert : (s.servo.held = false ∧ s.configured r = true) ∧ s.servo.state = .locked ∧
        (s.marked r).revertPasses = true
    · obtain ⟨⟨auto, configured⟩, locked, passes⟩ := revert
      exact of_taken (State.liveEvent_reverts auto configured locked passes) marked (emptied _)
    · exact of_taken (State.liveEvent_stays switch revert) marked rfl

theorem State.useReply_keeps (s : State) : s.useReply.servo.alpha = s.servo.alpha ∧ s.useReply.clock = s.clock ∧
    s.useReply.exch.badDelay = s.exch.badDelay := by
  unfold State.useReply
  split
  · exact ⟨rfl, rfl, rfl⟩
  · exact State.liveEvent_keeps (s.setExch { s.exch with missed := 0, liveN := true }) .north

/-- The state in which a matching Reply has closed the record. -/
def State.recordClosed (s : State) : State := s.setExch { s.exch with record := .empty }

theorem State.matchReply_missed (high : 15 ≤ f.leaderClass) : s.matchReply t1 t4 f = s.recordClosed.countMiss := if_pos high

theorem State.matchReply_bad (low : f.leaderClass < 15) (bad : roundTrip t1 t4 s.servo.alpha f = none) :
    s.matchReply t1 t4 f = s.recordClosed.useReply.setExch
      { s.recordClosed.useReply.exch with badDelay := min 65535 (s.exch.badDelay + 1) } := by
  obtain ⟨alpha, -, count⟩ := s.recordClosed.useReply_keeps
  have trip : roundTrip t1 t4 s.recordClosed.useReply.servo.alpha f = none := alpha ▸ bad
  have counted : s.exch.badDelay = s.recordClosed.useReply.exch.badDelay := count.symm
  rw [counted]
  refine (if_neg (Nat.not_le.mpr low)).trans ?_
  dsimp only
  split
  next x other => cases trip.symm.trans other
  next => rfl

theorem State.matchReply_sample {x : RoundTrip} (low : f.leaderClass < 15) (good : roundTrip t1 t4 s.servo.alpha f = some x) :
    s.matchReply t1 t4 f = s.recordClosed.useReply.enterSample .north
      { theta := x.theta, delay := x.delay, leaderClass := f.leaderClass, leaderU := f.leaderU
        runCounter := s.clock.runCounter } := by
  obtain ⟨alpha, clock, -⟩ := s.recordClosed.useReply_keeps
  have trip : roundTrip t1 t4 s.recordClosed.useReply.servo.alpha f = some x := alpha ▸ good
  have now : s.clock.runCounter = s.recordClosed.useReply.clock.runCounter := by rw [clock]; rfl
  refine (if_neg (Nat.not_le.mpr low)).trans ?_
  rw [now]
  dsimp only
  split
  next y same =>
    obtain rfl := Option.some.inj (trip.symm.trans same)
    rfl
  next other => cases trip.symm.trans other

end Sys2Proof.Machine
end

section

open Sys2Proof Sys2Proof.Machine

/-- Settles O41: what is readable is read at its places, and then the sequence decides against the record. -/
theorem repliesAreMatchedBySequence : Obligations.RepliesAreMatchedBySequence := by
  refine ⟨fun bytes => ?_, fun s bytes t4 => ?_⟩
  · intro p field signed stamp
    have payload : payloadOf bytes = p := payloadOf_eq bytes
    exact ⟨fun unread => readReply_eq_none (payload ▸ unread), fun long version => readReply_eq_some p payload long version⟩
  · intro stray
    refine ⟨fun fails => State.takeReplyFrame_refused fun f read => ?_, fun f read source => ⟨fun other => ?_, fun requester => ?_⟩⟩
    · rintro ⟨source, -⟩
      rcases fails with unread | elsewhere
      · rw [unread] at read
        contradiction
      · exact elsewhere source
    · refine State.takeReplyFrame_refused fun g again => ?_
      rw [read] at again
      obtain rfl := Option.some.inj again
      exact fun both => other both.2
    · have classified := State.takeReplyFrame_classified (t4 := t4) read source requester
      refine ⟨fun t1 expiry record => ?_, fun record => ?_, fun opened waiting => ?_⟩
      · intro closed used live
        have matched : s.takeReplyFrame bytes t4 = s.matchReply t1 t4 f := by
          rw [classified, Exchange.classify_opened record]
        exact ⟨fun high => matched.trans (State.matchReply_missed high),
          fun low bad => matched.trans (State.matchReply_bad low bad),
          fun x low good => matched.trans (State.matchReply_sample low good)⟩
      · rw [classified, Exchange.classify_waiting record]
        rfl
      · rw [classified, Exchange.classify_other opened waiting]
        by_cases late : 0 < s.exch.issued ∧ (s.exch.nextSeq - 1 - f.seq).toNat < s.exch.issued
        · rw [if_pos late, if_pos late]
          rfl
        · rw [if_neg late, if_neg late]
          rfl

end

section
/-! Queries at the south server and samples at the drift monitor (R109, R110, R113, R136, R140 to R142, R175, R176). -/

namespace Sys2Proof.Machine

/-! ### The reading of a Query -/

theorem readQuery_eq_none {bytes : List Byte}
    (unread : (payloadOf bytes).length < 34 ∨ (payloadOf bytes)[0]? ≠ some 2) : readQuery bytes = none := by
  rcases unread with short | version
  · simp [readQuery, stampAt_of_lt (p := payloadOf bytes) (offset := 22) (by omega)]
  · cases first : (payloadOf bytes)[0]? with
    | none => simp [readQuery, first]
    | some v =>
      have other : v ≠ timingVersion := fun same => version (by rw [first, same]; rfl)
      simp [readQuery, first, other]

theorem readQuery_eq_some {bytes : List Byte} {p : List Byte} {flags : Byte} (payload : payloadOf bytes = p)
    (long : 34 ≤ p.length) (version : p[0]? = some 2) (flag : p[3]? = some flags) : readQuery bytes = some
      { seq := BitVec.ofNat 16 (beNat ((p.drop 4).take 2))
        senderId := BitVec.ofNat 64 (beNat ((p.drop 6).take 8))
        correction := signedOf (beNat ((p.drop 14).take 8))
        t1 := stampOf p 22
        reported := if flags.getLsbD 0 then natAt p 34 4 else none } := by
  simp [readQuery, payload, version, timingVersion, flag, natAt_of_le (bytes := p), intAt_of_le (p := p),
    stampAt_of_le (p := p), long, show 6 ≤ p.length by omega, show 14 ≤ p.length by omega, show 22 ≤ p.length by omega]

theorem beNat_byteAt {p : List Byte} {i : Nat} {b : Byte} (byte : p[i]? = some b) : beNat ((p.drop i).take 1) = b.toNat := by
  obtain ⟨inside, rfl⟩ := List.getElem?_eq_some_iff.mp byte
  rw [List.drop_eq_getElem_cons inside, List.take_succ_cons, List.take_zero]
  simp [beNat]

theorem getLsbD_zero_iff (b : Byte) : b.getLsbD 0 = true ↔ b.toNat % 2 = 1 := by
  simp [BitVec.getLsbD, Nat.testBit_zero]

/-! ### The origin table -/

variable {m : Monitor} {e : OriginEntry}

/-- An address is held by the first enabled entry with it. -/
theorem Monitor.lookup_eq_some {a : Address} {j : Nat} : m.lookup a = some j ↔
    (∃ e, m.origins[j]? = some e ∧ e.enabled = true ∧ e.source = a) ∧
      ∀ i e, i < j → m.origins[i]? = some e → ¬(e.enabled = true ∧ e.source = a) := by
  rw [Monitor.lookup, List.findIdx?_eq_some_iff_getElem]
  constructor
  · rintro ⟨inside, holds, first⟩
    refine ⟨⟨m.origins[j], List.getElem?_eq_getElem inside, by simpa using holds⟩, fun i e before entry => ?_⟩
    obtain ⟨within, rfl⟩ := List.getElem?_eq_some_iff.mp entry
    simpa using first i before
  · rintro ⟨⟨e, entry, holds⟩, first⟩
    obtain ⟨inside, rfl⟩ := List.getElem?_eq_some_iff.mp entry
    refine ⟨inside, by simpa using holds, fun i before => ?_⟩
    simpa using first i _ before (List.getElem?_eq_getElem (before.trans inside))

/-! ### Samples (R142) -/

/-- In UNSEEN and SILENT a sample starts F and the sample count. -/
def OriginEntry.starts (e : OriginEntry) : Bool := e.state == .unseen || e.state == .silent

theorem OriginEntry.take_eq {settle : Nat} (low : 1 ≤ settle) (e : OriginEntry) (w : Nat) (query : Bool) (x : Int)
    (now : BitVec 32) : e.take w settle query x now =
      { e with
        filtered := some (if e.starts then x else e.filtered.getD 0 + roundDiv (x - e.filtered.getD 0) (2 ^ w))
        sampleCount := if e.starts then 1 else min 65535 (e.sampleCount + 1)
        state := if e.starts || e.state == .settling then
            (if settle ≤ if e.starts then 1 else min 65535 (e.sampleCount + 1) then .tracking else .settling) else e.state
        lastSample := some x, lastAt := some now
        queryCount := if query then min 65535 (e.queryCount + 1) else e.queryCount
        storageCount := if query then e.storageCount else min 65535 (e.storageCount + 1) } := by
  have one : settle = 1 ↔ settle ≤ 1 := by omega
  unfold OriginEntry.take OriginEntry.learn OriginEntry.starts
  split <;> rename_i state <;> simp [state, one, filterStep, count16, satIncr]

theorem Monitor.takeQuerySample_taken {j : Nat} {x : Int} {now : BitVec 32}
    (taken : (m.origin j).enabled = true ∧ (m.rack (m.origin j).rack).config.enabled = true) :
    m.takeQuerySample j x now = m.applySample j true x now := if_pos (by simpa using taken)

theorem Monitor.takeQuerySample_ignored {j : Nat} {x : Int} {now : BitVec 32}
    (refused : ¬((m.origin j).enabled = true ∧ (m.rack (m.origin j).rack).config.enabled = true)) :
    m.takeQuerySample j x now = m.ignore := if_neg (by simpa using refused)

theorem Monitor.takesStorage_iff {j : Nat} : m.takesStorage j = true ↔
    (m.rack (m.origin j).rack).config.enabled = true ∧ (m.rack (m.origin j).rack).config.storageSamples = true := by
  simp [Monitor.takesStorage]

theorem Monitor.sampleHandoff_unknown {line : Line} {a : Address} {issue : RawStamp} {arrival : Int} (unknown : m.lookup a = none) :
    m.sampleHandoff line a issue arrival = { m with unknownStorage := min 65535 (m.unknownStorage + 1) } := by
  rw [Monitor.sampleHandoff, unknown]
  rfl

theorem Monitor.sampleHandoff_of_lookup {line : Line} {a : Address} {issue : RawStamp} {arrival : Int} {j : Nat}
    (held : m.lookup a = some j) : m.sampleHandoff line a issue arrival =
      if m.takesStorage j then m.setHeldSample line (some
        { index := j, source := a, residual := issue.fineUnits - arrival
          sample := m.storageOffset j (issue.fineUnits - arrival) })
      else m.ignore := by
  rw [Monitor.sampleHandoff, held]

theorem Monitor.frameEnd_of_held {line : Line} {good : Bool} {now : BitVec 32} {h : HeldSample}
    (held : m.heldSample line = some h) : m.frameEnd line good now =
      if good = true ∧ (m.origin h.index).enabled = true ∧ (m.origin h.index).source = h.source ∧
          m.takesStorage h.index = true then
        (m.setHeldSample line none).applySample h.index false (m.storageOffset h.index h.residual) now
      else (m.setHeldSample line none).ignore := by
  have freed : (m.setHeldSample line none).takesStorage h.index = m.takesStorage h.index ∧
      (m.setHeldSample line none).origin h.index = m.origin h.index ∧
      (m.setHeldSample line none).storageOffset h.index h.residual = m.storageOffset h.index h.residual := by
    cases line <;> exact ⟨rfl, rfl, rfl⟩
  obtain ⟨stores, origin, offset⟩ := freed
  rw [Monitor.frameEnd, held]
  simp [stores, origin, offset, and_assoc]

/-! ### The taking of a Query -/

variable {s : State} {bytes : List Byte} {t2 : Int} {f : QueryFields} {source : Address}

theorem State.takeQueryFrame_read (read : readQuery bytes = some f) (sender : sourceOf bytes = some source) :
    s.takeQueryFrame bytes t2 = if source.getLsbD 40 then s.setSouth { s.south with badQuery := min 65535 (s.south.badQuery + 1) }
      else (s.sampleQuery f source t2).queueReply (s.replyEntry bytes f source t2) := by
  rw [State.takeQueryFrame, read, sender]
  rfl

theorem State.sampleQuery_south (s : State) (f : QueryFields) (source : Address) (t2 : Int) :
    (s.sampleQuery f source t2).south.queue = s.south.queue ∧
      (s.sampleQuery f source t2).south.droppedQuery = s.south.droppedQuery := by
  unfold State.sampleQuery
  split
  · exact ⟨rfl, rfl⟩
  · split
    · exact ⟨rfl, rfl⟩
    · split <;> exact ⟨rfl, rfl⟩

theorem State.queueReply_of_room {l : List ReplyEntry} {r : ReplyEntry} (queue : s.south.queue = l) (room : l.length < 16) :
    s.queueReply r = (s.setSouth { s.south with queue := l ++ [r] }).fill .south := by
  rw [State.queueReply, queue, if_pos room]

theorem State.queueReply_of_full {l : List ReplyEntry} {r : ReplyEntry} {n : Nat} (queue : s.south.queue = l)
    (dropped : s.south.droppedQuery = n) (full : 16 ≤ l.length) :
    s.queueReply r = s.setSouth { s.south with droppedQuery := min 65535 (n + 1) } := by
  rw [State.queueReply, queue, dropped, if_neg (Nat.not_lt.mpr full)]
  rfl

end Sys2Proof.Machine

section

open Sys2Proof Sys2Proof.Machine

/-- Settles O42: a Query is read at its places, sampled and queued, and the monitor applies, holds or ignores each sample. -/
theorem queriesAreSampledAndQueued : Obligations.QueriesAreSampledAndQueued := by
  refine ⟨fun bytes => ?_, fun m a => ⟨fun j => Monitor.lookup_eq_some, fun j e entry => ?_, fun k q entry => ?_, rfl, rfl,
    fun h => ⟨rfl, rfl⟩⟩, fun m now low => ?_, fun s bytes t2 => ?_⟩
  · intro p field signed stamp flagged
    have payload : payloadOf bytes = p := payloadOf_eq bytes
    refine ⟨fun unread => readQuery_eq_none (payload ▸ unread), fun long version room => ?_⟩
    obtain ⟨flags, flag⟩ : ∃ b, p[3]? = some b := ⟨_, List.getElem?_eq_getElem (by omega)⟩
    have marks : flags.getLsbD 0 = true ↔ flagged := by
      rw [getLsbD_zero_iff, ← beNat_byteAt flag]
      rfl
    refine ⟨_, readQuery_eq_some payload long version flag, rfl, rfl, rfl, rfl, fun set => ?_, fun clear => ?_⟩
    · exact (if_pos (marks.mpr set)).trans (natAt_of_le (room set))
    · exact if_neg fun set => clear (marks.mp set)
  · rw [Monitor.origin, List.getD_eq_getElem?_getD, entry]
    rfl
  · rw [Monitor.rack, List.getD_eq_getElem?_getD, entry]
    rfl
  · intro rackOf limited ignored learned applied formed stores
    have takes (e : OriginEntry) (query : Bool) (x : Int) : e.take m.filterExp m.settleCount query x now = learned query x e :=
      e.take_eq low ..
    have applies (n : Monitor) (j : Nat) (query : Bool) (x : Int)
        (same : n.origins = m.origins ∧ n.racks = m.racks ∧ n.filterExp = m.filterExp ∧ n.settleCount = m.settleCount) :
        n.applySample j query x now = applied n j query x := by
      obtain ⟨origins, racks, exponent, settle⟩ := same
      have drilled : saturateOffset (x + (n.rack (n.origin j).rack).config.drillOffset) = limited (x + (rackOf j).drillOffset) := by
        rw [Monitor.rack, Monitor.origin, origins, racks]
        rfl
      have learns : (fun e : OriginEntry => e.take n.filterExp n.settleCount query
          (saturateOffset (x + (n.rack (n.origin j).rack).config.drillOffset)) now) =
          learned query (limited (x + (rackOf j).drillOffset)) := by
        funext e
        rw [drilled, exponent, settle]
        exact takes e query _
      refine (congrArg (fun l => { n with origins := l }) ?_ : _ = ({ n with origins := _ } : Monitor))
      rw [learns, origins]
    refine ⟨fun j sample => ?_, fun line source issue arrival => ?_, fun line good => ⟨fun none_ => ?_, fun h held => ?_⟩⟩
    · intro taken
      exact ⟨fun yes => (Monitor.takeQuerySample_taken yes).trans (applies m j true sample ⟨rfl, rfl, rfl, rfl⟩),
        fun no => Monitor.takeQuerySample_ignored no⟩
    · intro t
      refine ⟨fun unknown => Monitor.sampleHandoff_unknown unknown, fun j held => ⟨fun no => ?_, fun yes => ?_⟩⟩
      · exact (Monitor.sampleHandoff_of_lookup held).trans (if_neg fun takes => no (Monitor.takesStorage_iff.mp takes))
      · exact (Monitor.sampleHandoff_of_lookup held).trans (if_pos (Monitor.takesStorage_iff.mpr yes))
    · rw [Monitor.frameEnd, none_]
    · intro freed taken
      have ends := Monitor.frameEnd_of_held (good := good) (now := now) held
      have tests : (good = true ∧ (m.origin h.index).enabled = true ∧ (m.origin h.index).source = h.source ∧
          m.takesStorage h.index = true) ↔ taken := by rw [Monitor.takesStorage_iff]
      have kept : freed.origins = m.origins ∧ freed.racks = m.racks ∧ freed.filterExp = m.filterExp ∧
          freed.settleCount = m.settleCount := by cases line <;> exact ⟨rfl, rfl, rfl, rfl⟩
      refine ⟨fun yes => (ends.trans (if_pos (tests.mpr yes))).trans (applies freed h.index false _ kept), fun no => ?_⟩
      refine (ends.trans (if_neg fun both => no (tests.mp both))).trans ?_
      cases line <;> rfl
  · intro bad
    refine ⟨fun unread => ?_, fun f source read sender => ⟨fun group => ?_, fun individual => ?_⟩⟩
    · rw [State.takeQueryFrame, unread]
      rfl
    · exact (State.takeQueryFrame_read read sender).trans (if_pos group)
    · intro sampled entry
      have work : s.takeQueryFrame bytes t2 = (s.sampleQuery f source t2).queueReply entry :=
        (State.takeQueryFrame_read read sender).trans (if_neg (Bool.eq_false_iff.mp individual))
      have samples : s.sampleQuery f source t2 = sampled := by
        cases held : s.mon.lookup source with
        | none => simp only [State.sampleQuery, sampled, held]; rfl
        | some j =>
          cases report : f.reported with
          | none => simp only [State.sampleQuery, sampled, held, report]
          | some d =>
            have late : (10000000 < d ∨ f.t1.isInstant = false) ↔ (10000000 < d ∨ 1000000000 ≤ f.t1.nanos) := by
              simp [RawStamp.isInstant]
            simp only [State.sampleQuery, sampled, held, report, late]
            rfl
      obtain ⟨queue, dropped⟩ := s.sampleQuery_south f source t2
      rw [samples] at work queue dropped
      exact ⟨fun room => work.trans (State.queueReply_of_room queue room),
        fun full => work.trans (State.queueReply_of_full queue dropped full)⟩

end
end

section
/-! The report engine's timers, the readiness of what it sends, and the notice set (R115, R116, R131, R154 to R158). -/

namespace Sys2Proof.Machine

/-! ### The notice set (R154, R155) -/

section

variable {r : ReportEngine} {osc : Nat} {subject : Subject} {old new : SubjectState} {x : Snapshot}

theorem ReportEngine.transition_held {before after : List NoticeEntry} {e : NoticeEntry}
    (parts : r.notices = before ++ e :: after) (held : e.subject = subject)
    (others : ∀ f ∈ before ++ after, f.subject ≠ subject) : r.transition osc subject old new x =
      { r with notices := before ++ { e with latestNew := new, snapshot := x, count := min 255 (e.count + 1) } :: after } := by
  have known : (r.notices.any (·.subject == subject)) = true := by simp [parts, held]
  have kept (l : List NoticeEntry) (sub : ∀ f ∈ l, f ∈ before ++ after) :
      l.map (fun f => if f.subject = subject then f.coalesce new x else f) = l :=
    (List.map_congr_left fun f mem => if_neg (others f (sub f mem))).trans (List.map_id _)
  rw [ReportEngine.transition, if_pos known, parts, List.map_append, List.map_cons, if_pos held,
    kept before fun f mem => List.mem_append_left _ mem, kept after fun f mem => List.mem_append_right _ mem]
  rfl

theorem ReportEngine.transition_fresh (fresh : ∀ f ∈ r.notices, f.subject ≠ subject) : r.transition osc subject old new x =
    if r.notices.length < 64 then
      { r with notices := r.notices ++
        [{ subject := subject, firstOld := old, latestNew := new, snapshot := x, count := 1, createdAt := osc }] }
    else { r with noticeOverflow := true, noticeDropped := min 65535 (r.noticeDropped + 1) } := by
  have unknown : ¬(r.notices.any (·.subject == subject)) = true := by simpa using fresh
  rw [ReportEngine.transition, if_neg unknown]
  rfl

end

/-! ### Readiness (R131, R156) -/

variable {s : State}

theorem State.dateReady_iff (s : State) : s.dateReady = true ↔ s.rep.collector ≠ 0 ∧ ∃ q rest, s.dater.queue = q :: rest ∧
    (s.dater.batch ≤ s.dater.queue.length ∨ q.createdAt + 1000 * 65536 * s.dater.latency ≤ s.clock.osc) := by
  cases queue : s.dater.queue with
  | nil => simp [State.dateReady, queue]
  | cons q rest =>
    simp only [State.dateReady, queue, Bool.and_eq_true, Bool.or_eq_true, bne_iff_ne, decide_eq_true_eq, List.cons.injEq]
    exact and_congr_right fun _ => ⟨fun due => ⟨q, rest, ⟨rfl, rfl⟩, due⟩, fun ⟨_, _, ⟨same, _⟩, due⟩ => same ▸ due⟩

theorem State.noticeReady_iff (s : State) : s.noticeReady = true ↔ s.rep.collector ≠ 0 ∧ ∃ e rest, s.rep.notices = e :: rest ∧
    e.createdAt + 1000000 * 65536 * s.rep.holdoff ≤ s.clock.osc := by
  cases notices : s.rep.notices with
  | nil => simp [State.noticeReady, notices]
  | cons e rest =>
    simp only [State.noticeReady, notices, Bool.and_eq_true, bne_iff_ne, decide_eq_true_eq, List.cons.injEq]
    exact and_congr_right fun _ => ⟨fun due => ⟨e, rest, ⟨rfl, rfl⟩, due⟩, fun ⟨_, _, ⟨same, _⟩, due⟩ => same ▸ due⟩

theorem State.latencyIn_eq {q : DateRecord} {rest : List DateRecord} (queue : s.dater.queue = q :: rest)
    (collector : s.rep.collector ≠ 0) (idle : s.rep.dateReportWaiting = false) :
    s.latencyIn = some (q.createdAt + 1000 * 65536 * s.dater.latency - s.clock.osc) := by
  rw [State.latencyIn, queue, idle]
  exact if_neg fun shut => shut.elim collector Bool.false_ne_true

theorem State.holdoffIn_eq {e : NoticeEntry} {rest : List NoticeEntry} (notices : s.rep.notices = e :: rest)
    (collector : s.rep.collector ≠ 0) (idle : s.rep.noticeWaiting = false) :
    s.holdoffIn = some (e.createdAt + 1000000 * 65536 * s.rep.holdoff - s.clock.osc) := by
  rw [State.holdoffIn, notices, idle]
  exact if_neg fun shut => shut.elim collector Bool.false_ne_true

/-- At its latency the queue is ready, and so the Date Report waits. -/
theorem State.refreshDateReport_of_ready (ready : s.dateReady = true) :
    s.refreshDateReport = (s.setRep { s.rep with dateReportWaiting := true }).fill s.rep.collectorLine := by
  rw [State.refreshDateReport, ready]

theorem State.refreshNotice_of_ready (ready : s.noticeReady = true) :
    s.refreshNotice = (s.setRep { s.rep with noticeWaiting := true }).fill s.rep.collectorLine := by
  rw [State.refreshNotice, ready]

/-! ### Writes -/

theorem ReportEngine.setSummary_eq (r : ReportEngine) {x : Int} (low : 0 ≤ x) : r.setSummary x.toNat =
    { r with
      summaryInterval := x.toNat
      summaryIn := if x = 0 then none else if r.summaryInterval = 0 then some (x.toNat * 1000) else r.summaryIn
      summaryWaiting := r.summaryWaiting && x != 0 } := by
  have zero : x.toNat = 0 ↔ x = 0 := by omega
  have some_ : (x.toNat != 0) = (x != 0) := by rw [Bool.eq_iff_iff]; simp; omega
  rw [ReportEngine.setSummary, some_]
  simp only [zero]

end Sys2Proof.Machine

section

open Sys2Proof Sys2Proof.Machine

/-- Settles O51: each timer's effect, readiness, and the writes that apply it. -/
theorem ownFrameTimersAndReadiness : Obligations.OwnFrameTimersAndReadiness := by
  refine ⟨fun r osc subject old new x => ?_, fun s running near => ?_, fun s running due => ?_,
    fun s q rest running queue collector idle => ?_, fun s e rest running notices collector idle => ?_,
    fun s => ⟨s.dateReady_iff, s.noticeReady_iff⟩, fun s dt r v => ?_⟩
  · exact ⟨fun before e after parts held others => ReportEngine.transition_held parts held others,
      fun fresh room => (ReportEngine.transition_fresh fresh).trans (if_pos room),
      fun fresh full => (ReportEngine.transition_fresh fresh).trans (if_neg (Nat.not_lt.mpr full))⟩
  · exact congrArg Host.Outcome.next (s.takeTimed_of_le s.gradeIn State.gradeTimer running near)
  · exact congrArg Host.Outcome.next (State.takeIf_of_due s _ _ running (by simp [State.summaryDue, due]))
  · intro d u near
    have ready : u.dateReady = true := by
      refine u.dateReady_iff.mpr ⟨collector, q, rest, queue, .inr ?_⟩
      change q.createdAt + 1000 * 65536 * s.dater.latency ≤ s.clock.osc + d
      omega
    have timed : s.takeTimed s.latencyIn State.refreshDateReport = u.refreshDateReport := by
      rw [State.latencyIn_eq queue collector idle]
      exact s.takeTimed_of_le d _ running near
    exact congrArg Host.Outcome.next (timed.trans (State.refreshDateReport_of_ready ready))
  · intro d u near
    have ready : u.noticeReady = true := by
      refine u.noticeReady_iff.mpr ⟨collector, e, rest, notices, ?_⟩
      change e.createdAt + 1000000 * 65536 * s.rep.holdoff ≤ s.clock.osc + d
      omega
    have timed : s.takeTimed s.holdoffIn State.refreshNotice = u.refreshNotice := by
      rw [State.holdoffIn_eq notices collector idle]
      exact s.takeTimed_of_le d _ running near
    exact congrArg Host.Outcome.next (timed.trans (State.refreshNotice_of_ready ready))
  · intro u ok drained
    refine ⟨fun item => ?_, fun item => ?_, fun item => ?_, fun item => ?_, fun item => ?_⟩
    · exact congrArg Host.Outcome.next (State.carryOut_runBy (p := u.writeBatch v) item dt rfl)
    · exact congrArg Host.Outcome.next (State.carryOut_runBy (p := u.writeLatency v) item dt rfl)
    · exact congrArg Host.Outcome.next (State.carryOut_runBy (p := u.writeCollector v) item dt rfl)
    · intro line
      have named : (if v.toNat = 0 then Line.north else .south) = line := if_congr (BitVec.toNat_inj (y := 0#64)) rfl rfl
      have written : exec (.writeCollectorLine dt) s = .next (if v.toNat ≤ 1 then
          (State.fill { u with rep := { u.rep with collectorLine := if v.toNat = 0 then .north else .south } }
            (if v.toNat = 0 then .north else .south)).finishItem r ok
        else u.finishItem r { status := .badValue, content := [] }) :=
        (congrArg Host.Outcome.next (State.carryOut_runBy (p := u.writeCollectorLine v) item dt rfl)).trans
          (congrArg Host.Outcome.next (State.finishItem_ite _ _ r))
      rw [written, named]
    · intro x next
      have set := u.rep.setSummary_eq (x := x) (le_max_left _ _)
      refine (congrArg Host.Outcome.next (State.carryOut_runBy (p := u.writeSummaryInterval v) item dt rfl)).trans ?_
      exact congrArg (fun e => Host.Outcome.next ((u.setRep e).finishItem r (clampResult x v.toInt))) set

end
end

section
/-! The pulse lines (R160 to R162). -/

namespace Sys2Proof.Machine

variable {s : State} {p : PulseLine}

/-! ### Levels -/

theorem BitVec.and_ne_zero_iff {w : Nat} (a b : BitVec w) :
    a &&& b ≠ 0#w ↔ ∃ i < w, a.getLsbD i = true ∧ b.getLsbD i = true := by
  rw [Ne, BitVec.eq_of_getLsbD_eq_iff]
  simp

/-- In ALARM a line is asserted while a condition it subscribes to holds. -/
theorem State.asserted_alarm_iff (mode : p.mode = .alarm) :
    s.asserted p = true ↔ ∃ i < 8, p.subscriptions.getLsbD i = true ∧ s.conditions.getD i false = true := by
  have flags : s.conditionByte = flagByte s.conditions := rfl
  rw [State.asserted, mode]
  refine bne_iff_ne.trans ((BitVec.and_ne_zero_iff _ _).trans (exists_congr fun i => and_congr_right fun low => ?_))
  rw [flags, flagByte_getLsbD _ low, and_comm]

theorem exists_lt_eight {f : Nat → Prop} : (∃ i < 8, f i) ↔ f 0 ∨ f 1 ∨ f 2 ∨ f 3 ∨ f 4 ∨ f 5 ∨ f 6 ∨ f 7 := by
  constructor
  · rintro ⟨i, low, holds⟩
    interval_cases i <;> simp [holds]
  · rintro (h | h | h | h | h | h | h | h) <;> exact ⟨_, by decide, h⟩

theorem LineState.faulty_iff (l : LineState) : l.faulty = true ↔ 0 < l.badCheck ∨ 0 < l.lengthErrors ∨ 0 < l.overruns := by
  simp [LineState.faulty, or_assoc]

/-! ### Starts and ends (R161) -/

theorem List.modify_congr {α : Type} {l : List α} {k : Nat} {f g : α → α} (same : ∀ x, l[k]? = some x → f x = g x) :
    l.modify k f = l.modify k g := by
  apply List.ext_getElem?
  intro i
  rw [List.getElem?_modify, List.getElem?_modify]
  by_cases here : k = i
  · subst here
    cases entry : l[k]? with
    | none => simp
    | some x => simp [same x entry]
  · simp [here]

theorem ReportEngine.pulseLine_of_getElem? {r : ReportEngine} {k : Nat} (line : r.pulseLines[k]? = some p) :
    r.pulseLine k = p := by rw [ReportEngine.pulseLine, List.getD_eq_getElem?_getD, line]; rfl

/-- Where the timescale has run as far as a line's nearest start, that start stands at 0, before the others. -/
theorem PulseLine.begin_advance {x gain osc : Nat} (nearest : p.starts.min? = some x) (reached : x ≤ gain) :
    (p.advance gain).begin osc = { p.advance gain with
      starts := (p.advance gain).starts.erase 0
      pulseEnd := some (osc + (if p.width = 0 then 500000000 else p.width) * 65536) } := by
  have first : (p.advance gain).nextStart = some 0 := by
    rw [PulseLine.nextStart, List.min?_eq_some_iff]
    refine ⟨List.mem_map.mpr ⟨x, List.min?_mem nearest, Nat.sub_eq_zero_of_le reached⟩, fun _ _ => Nat.zero_le _⟩
  simp only [PulseLine.begin, first]
  rfl

/-- A flag read as low is the negation of the flag. -/
theorem low_flag {v : BitVec 64} (flag : v.toNat ≤ 1) : (!(v.toNat == 1)) = (v == 0) := by
  have zero : v = 0 ↔ v.toNat = 0 := (BitVec.toNat_inj (y := 0#64)).symm
  rw [Bool.eq_iff_iff]
  simp only [Bool.not_eq_true', beq_eq_false_iff_ne, beq_iff_eq, zero]
  omega

/-! ### Writes of the mode and the polarity (R160) -/

theorem State.writePulseMode_mode (s : State) (k : Nat) (v : BitVec 64) : s.writePulseMode (46 + 5 * k) v =
    writeChoice s 2 v fun n => s.setRep (s.rep.modifyPulse k fun p => p.remode (pulseModeAt n) p.activeHigh) := by
  have line : (46 + 5 * k - 46) / 5 = k := by omega
  rw [State.writePulseMode, line]
  exact if_pos (by omega)

theorem State.writePulseMode_polarity (s : State) (k : Nat) (v : BitVec 64) : s.writePulseMode (47 + 5 * k) v =
    writeFlag s v fun low => s.setRep (s.rep.modifyPulse k fun p => p.remode p.mode (!low)) := by
  have line : (47 + 5 * k - 46) / 5 = k := by omega
  rw [State.writePulseMode, line]
  exact if_neg (by omega)

end Sys2Proof.Machine

section

open Sys2Proof Sys2Proof.Machine

/-- Settles O52. -/
theorem pulseLinesStartEndAndRemode : Obligations.PulseLinesStartEndAndRemode := by
  refine ⟨fun s p => ?_, fun s k p x figures line nearest near => ?_, fun s k p e line ends near => ?_, fun s dt k r v low => ?_⟩
  · intro holds anyRack faults
    refine ⟨fun mode => by rw [State.asserted, mode], fun mode => by rw [State.asserted, mode], fun mode => ?_, ?_⟩
    · have watch : s.mon.anyWatch = true ↔ anyRack fun q => q.state = .watch ∨ q.state = .drifting := by
        simp [Monitor.anyWatch, anyRack]
      have drifting : s.mon.anyDrifting = true ↔ anyRack fun q => q.state = .drifting := by simp [Monitor.anyDrifting, anyRack]
      have split_ : s.mon.anySplit = true ↔ anyRack fun q => q.split = true := by simp [Monitor.anySplit, anyRack]
      have faulty : s.lines.faulty = true ↔ faults s.lines.north ∨ faults s.lines.south := by
        rw [LinePair.faulty, Bool.or_eq_true, LineState.faulty_iff, LineState.faulty_iff]
      rw [State.asserted_alarm_iff mode, exists_lt_eight, ← watch, ← drifting, ← split_, ← faulty]
      simp [State.conditions, holds]
    · rw [State.levelHigh, beq_iff_eq]
  · intro u width
    have rate : -1000000000000 < s.clock.rateA := by
      obtain ⟨-, -, -, most, -, within, -⟩ := figures
      omega
    have reached : x ≤ s.clock.gain (s.clock.timeFor x) :=
      Nat.le_of_not_lt (mt (Clock.lt_timeFor_iff rate x (s.clock.timeFor x)).mpr (Nat.lt_irrefl _))
    refine ⟨reached, ?_⟩
    have next : (s.rep.pulseLine k).nextStart = some x := by
      rw [ReportEngine.pulseLine_of_getElem? line]
      exact nearest
    have taken : s.takeStart k = u.setRep (u.rep.modifyPulse k fun p => p.begin u.clock.osc) := by
      rw [State.takeStart, next]
      exact s.takeAt_of_le _ _ near
    refine congrArg Host.Outcome.next (taken.trans (congrArg (fun l => u.setRep { u.rep with pulseLines := l }) ?_))
    refine List.modify_congr fun q entry => ?_
    have ran : u.rep.pulseLines[k]? = some (p.advance (s.clock.gain (s.clock.timeFor x))) := by
      rw [State.runFor_rep, List.getElem?_map, line]
      rfl
    obtain rfl := Option.some.inj (ran.symm.trans entry)
    exact PulseLine.begin_advance nearest reached
  · intro u
    have end_ : s.pulseEndIn (s.rep.pulseLine k) = some (e - s.clock.osc) := by
      rw [ReportEngine.pulseLine_of_getElem? line, State.pulseEndIn, ends]
      rfl
    have taken : s.takeEnd k = u.setRep (u.rep.modifyPulse k fun p => { p with pulseEnd := none }) := by
      rw [State.takeEnd, end_]
      exact s.takeAt_of_le _ _ near
    exact congrArg Host.Outcome.next taken
  · intro u wrote
    have written {id : Nat} (item : s.currentItem = some (r, .writeSetting id v)) (own : 46 ≤ id ∧ id ≤ 65 ∧ (id - 46) % 5 ≤ 1) :
        exec (.writePulseLineMode dt) s = .next ((u.writePulseMode id v).1.finishItem r (u.writePulseMode id v).2) :=
      congrArg Host.Outcome.next (State.carryOut_runBy (p := u.writePulseMode id v) item dt (if_pos own))
    refine ⟨fun item => ?_, fun item => ?_⟩
    · intro mode
      have named : pulseModeAt v.toNat = mode :=
        if_congr (BitVec.toNat_inj (y := 0#64)) rfl (if_congr (BitVec.toNat_inj (y := 1#64)) rfl rfl)
      rw [written item (by omega), State.writePulseMode_mode, writeChoice, State.finishItem_ite, named]
      rfl
    · rw [written item (by omega), State.writePulseMode_polarity, writeFlag, writeChoice, State.finishItem_ite]
      by_cases flag : v.toNat ≤ 1
      · rw [if_pos flag, if_pos flag, low_flag flag]
        rfl
      · rw [if_neg flag, if_neg flag]
        rfl

end
end

section
/-! COPY, SWAP, CLEAR and SUMMARY (R46, R47, R159, R163). -/

namespace Sys2Proof.Machine

/-- COPY puts the active bank into the shadow bank and touches nothing else. -/
theorem Classifier.copied_bank0 {c : Classifier} (active : c.active = .bank0) :
    c.setEntries c.active.other (c.entries c.active) = { c with bank1 := c.bank0 } :=
  congrArg (fun b => c.setEntries b.other (c.entries b)) active

theorem Classifier.copied_bank1 {c : Classifier} (active : c.active = .bank1) :
    c.setEntries c.active.other (c.entries c.active) = { c with bank0 := c.bank1 } :=
  congrArg (fun b => c.setEntries b.other (c.entries b)) active

/-- A latch stands unless it is named. -/
theorem latch_cleared (latch named : Bool) : (latch && !named) = if named then false else latch := by cases named <;> simp

end Sys2Proof.Machine

section

open Sys2Proof Sys2Proof.Machine

/-- Settles O60. -/
theorem copySwapClearAndSummary : Obligations.CopySwapClearAndSummary := by
  intro s dt r u answer
  refine ⟨fun item => ?_, fun item => ?_, fun dateGap noticeOverflow item => ?_, rateBytes,
    fun x => ⟨rateBytes_length x, rateBytes_inside⟩, ?_⟩
  · refine (congrArg Host.Outcome.next (State.carryOut_runBy (p := u.copyBank) item dt rfl)).trans ?_
    refine (congrArg Host.Outcome.next (State.finishItem_ite _ _ r)).trans ?_
    by_cases pending : s.cls.swapPending = true
    · exact (congrArg Host.Outcome.next (if_pos pending)).trans (if_pos pending).symm
    · refine (congrArg Host.Outcome.next (if_neg pending)).trans (Eq.trans ?_ (if_neg pending).symm)
      refine congrArg (fun c => answer { u with cls := c } .ok []) ?_
      split
      next active => exact Classifier.copied_bank0 active
      next active => exact Classifier.copied_bank1 active
  · refine (congrArg Host.Outcome.next (State.carryOut_runBy (p := u.requestSwap) item dt rfl)).trans ?_
    refine (congrArg Host.Outcome.next (State.finishItem_ite _ _ r)).trans ?_
    by_cases pending : s.cls.swapPending = true
    · exact (congrArg Host.Outcome.next (if_pos pending)).trans (if_pos pending).symm
    · exact (congrArg Host.Outcome.next (if_neg pending)).trans (if_neg pending).symm
  · have carried : exec (.clear dt) s = answer { u with rep := { u.rep with
        dateGap := s.rep.dateGap && !dateGap, noticeOverflow := s.rep.noticeOverflow && !noticeOverflow } } .ok [] :=
      congrArg Host.Outcome.next (State.carryOut_runBy (p := u.clearLatches dateGap noticeOverflow) item dt rfl)
    rw [carried, latch_cleared, latch_cleared]
  · intro place bits condition rack faults conditions item
    have flags (l : List Bool) : flagByte l = bits l := flagByte_eq_flagSum l
    have racks : (s.mon.racks.map Rack.summaryBytes).flatten = s.mon.racks.flatMap rack := by
      rw [List.flatMap_def]
      congr 2
      funext q
      rw [Rack.summaryBytes, q.state.code_eq, flags, optBytes_signed, optBytes_eq_elim]
    have byte : s.conditionByte = bits conditions := flags s.conditions
    have summary : s.summaryBytes = [1, 19] ++ beBytes 2 s.rep.summarySeq.toNat ++
        beBytes 8 (s.agent.address.toNat * 65536 + 1) ++ [32, condition] ++ beBytes 1 s.ownClass ++
        beBytes 4 s.servo.uncertainty ++ signedBytes 4 s.clock.rateA ++ beBytes 2 s.dater.queue.length ++ [bits conditions] ++
        s.mon.racks.flatMap rack := by
      rw [State.summaryBytes, racks, byte, s.servo.condition.code_eq]
      simp only [List.append_assoc]
      rfl
    have carried : exec (.summary dt) s =
        answer { u with rep := { u.rep with summarySeq := s.rep.summarySeq + 1 } } .ok s.summaryBytes :=
      congrArg Host.Outcome.next (State.carryOut_runBy (p := u.requestSummary) item dt rfl)
    rw [carried, summary]

end
end

section
/-! The settings whose write acts at once on its own block (R11, R12, R64, R71, R142, R143, R146, R151). -/

namespace Sys2Proof.Machine

/-! ### The window size (R64, R76, R83) -/

section

variable {s : State} {w : Nat} {y : Sample}

/-- A window shortened by its oldest samples. -/
def newestOf (w : Nat) (l : List Sample) : List Sample := l.drop (l.length - w)

/-- The state whose windows have been shortened, before the selection is made again. -/
def State.shortened (s : State) (w : Nat) : State :=
  s.setExch { s.exch with
    windowSize := w, windowN := newestOf w s.exch.windowN, windowP := newestOf w s.exch.windowP }

theorem State.shortened_activeWindow (s : State) (w : Nat) : (s.shortened w).activeWindow = newestOf w s.activeWindow := by
  change (s.shortened w).exch.window s.servo.active = newestOf w (s.exch.window s.servo.active)
  cases s.servo.active with
  | north => rfl
  | pulse => rfl
  | none => exact List.drop_nil.symm

/-- U in LOCKED follows a selection made again. -/
def State.reselected (s : State) : State :=
  match s.selected with
  | some x => if s.servo.state = .locked then s.setServo { s.servo with lockedU := lockedForm x } else s
  | none => s

theorem State.shortenWindows_eq (s : State) (w : Nat) : s.shortenWindows w =
    if w < s.activeWindow.length then (s.shortened w).select.reselected else s.shortened w := rfl

theorem State.select_of_selected (selected : s.selected = some y) : s.select = s.chosen y := by
  rw [State.select, selected]
  rfl

theorem State.reselected_of_selected (selected : s.selected = some y) : s.reselected =
    s.setServo { s.servo with lockedU := if s.servo.state = .locked then lockedForm y else s.servo.lockedU } := by
  rw [State.reselected, selected]
  by_cases locked : s.servo.state = .locked
  · rw [if_pos locked]
    exact if_pos locked
  · rw [if_neg locked]
    exact if_neg locked

theorem State.shortenWindows_again (shorter : w < s.activeWindow.length)
    (chosen : selectSample (newestOf w s.activeWindow) = some y) : s.shortenWindows w =
      (s.shortened w).setServo { s.servo with
        leaderClass := some y.leaderClass
        lockedU := if s.servo.state = .locked then lockedForm y else s.servo.lockedU } := by
  have selected : (s.shortened w).selected = some y := by rw [State.selected, State.shortened_activeWindow, chosen]
  have again : ((s.shortened w).chosen y).selected = some y := selected
  rw [State.shortenWindows_eq, if_pos shorter, State.select_of_selected selected, State.reselected_of_selected again]
  rfl

theorem State.shortenWindows_stands (stands : ¬w < s.activeWindow.length ∨ selectSample (newestOf w s.activeWindow) = none) :
    s.shortenWindows w = s.shortened w := by
  rw [State.shortenWindows_eq]
  split
  · rename_i shorter
    have none_ : (s.shortened w).selected = none := by
      rw [State.selected, State.shortened_activeWindow]
      exact stands.resolve_left (not_not_intro shorter)
    have select : (s.shortened w).select = s.shortened w := by rw [State.select, none_]
    rw [select, State.reselected, none_]
  · rfl

end

/-! ### n_s (R142, R151) -/

theorem OriginEntry.resettle_eq (e : OriginEntry) (settle : Nat) : e.resettle settle =
    if (e.state = .tracking ∨ e.state = .stray) ∧ e.sampleCount < settle then .settling
    else if e.state = .settling ∧ settle ≤ e.sampleCount then .tracking else e.state := by
  unfold OriginEntry.resettle
  cases e.state <;> simp

/-- An entry in STRAY with fewer samples than n_s leaves it; no other entry enters or leaves it. -/
theorem OriginEntry.resettle_stray (e : OriginEntry) (settle : Nat) :
    (e.state ≠ e.resettle settle ∧ (e.state = .stray ∨ e.resettle settle = .stray)) ↔ e.state = .stray ∧ e.sampleCount < settle := by
  rw [OriginEntry.resettle_eq]
  cases state : e.state <;> simp
  all_goals split_ifs <;> simp_all

/-- What an entry's departure from STRAY at a write of n_s tells the report engine. -/
def ReportEngine.resettled (rep : ReportEngine) (osc settle j : Nat) (e : OriginEntry) : ReportEngine :=
  if e.state = .stray ∧ e.sampleCount < settle then
    rep.transition osc (.server j) (.server .stray) (.server .settling) (.server e.filtered e.rack)
  else rep

theorem State.setServer_resettle (s : State) (settle j : Nat) : s.setServer j ((s.mon.origin j).resettle settle) =
    { s with
      mon := s.mon.modifyOrigin j fun _ => { s.mon.origin j with state := (s.mon.origin j).resettle settle }
      rep := s.rep.resettled s.clock.osc settle j (s.mon.origin j) } := by
  have tells := (s.mon.origin j).resettle_stray settle
  have leaves : (s.mon.origin j).state = .stray ∧ (s.mon.origin j).sampleCount < settle →
      (s.mon.origin j).resettle settle = .settling := fun h => by
    rw [OriginEntry.resettle_eq, if_pos ⟨.inr h.1, h.2⟩]
  unfold State.setServer State.replaceOrigin ReportEngine.resettled
  by_cases leaving : (s.mon.origin j).state = .stray ∧ (s.mon.origin j).sampleCount < settle
  · refine (if_pos (tells.mpr leaving)).trans ?_
    rw [if_pos leaving, leaving.1, leaves leaving]
    rfl
  · refine (if_neg fun h => leaving (tells.mp h)).trans ?_
    rw [if_neg leaving]
    rfl

/-- The transitions that the first entries give, by index, and what the write leaves. -/
theorem State.resettle_tells (settle n : Nat) (s : State) :
    let t := (List.range n).foldl (fun t j => t.setServer j ((t.mon.origin j).resettle settle)) s
    t = { s with mon := { s.mon with origins := t.mon.origins }, rep := t.rep } ∧
      t.rep = (List.range n).foldl (fun rep j => rep.resettled s.clock.osc settle j (s.mon.origin j)) s.rep := by
  induction n with
  | zero => exact ⟨rfl, rfl⟩
  | succ n ih =>
    have before := s.resettle_upTo settle n
    revert before ih
    simp only [List.range_succ, List.foldl_append, List.foldl_cons, List.foldl_nil]
    generalize (List.range n).foldl (fun t j => State.setServer t j ((t.mon.origin j).resettle settle)) s = t
    rintro ⟨frame, told⟩ ⟨-, -, -, entries⟩
    have same : t.mon.origin n = s.mon.origin n := (entries n).trans (if_neg fun h => Nat.lt_irrefl n h.1)
    have osc : t.clock.osc = s.clock.osc := by rw [frame]
    rw [State.setServer_resettle, same, osc, ← told]
    refine ⟨?_, rfl⟩
    rw [frame]
    rfl

theorem State.writeSettle_origin (s : State) (settle j : Nat) : (s.writeSettle settle).mon.origin j =
    { s.mon.origin j with state := (s.mon.origin j).resettle settle } := by
  obtain ⟨-, -, -, entries⟩ := (s.setMon { s.mon with settleCount := settle }).resettle_upTo settle s.mon.origins.length
  refine (entries j).trans ?_
  by_cases inside : j < s.mon.origins.length
  · exact if_pos ⟨inside, inside⟩
  · have blank : s.mon.origin j = .initial := by simp [Monitor.origin, inside]
    refine (if_neg fun both => inside both.1).trans ?_
    change s.mon.origin j = _
    rw [blank]
    rfl

end Sys2Proof.Machine

section

open Sys2Proof Sys2Proof.Machine

/-- Settles O57. -/
theorem settingsThatActAtOnce : Obligations.SettingsThatActAtOnce := by
  intro s dt r v u
  refine ⟨fun item => ?_, fun item => ?_, fun item => ?_, fun item => ?_, fun item => ?_⟩
  · refine (congrArg Host.Outcome.next (State.carryOut_runBy (p := u.writePolarity v) item dt rfl)).trans ?_
    refine (congrArg Host.Outcome.next (State.finishItem_ite _ _ r)).trans ?_
    by_cases flag : v.toNat ≤ 1
    · have qualifier : (if (s.pulse.pinHigh == (v == 0)) = true then Qualifier.releasing else .waiting) =
          if s.pulse.pinHigh = (v == 0) then .releasing else .waiting := if_congr beq_iff_eq rfl rfl
      rw [if_pos flag, if_pos flag, ← qualifier, ← low_flag flag]
      rfl
    · rw [if_neg flag, if_neg flag]
      rfl
  · intro x limit
    have cast : (x.toNat : Int) = x := Int.toNat_of_nonneg (by omega)
    have limits (y : Int) : clampInt (-(x.toNat : Int)) x.toNat y = limit y := by rw [cast]; rfl
    rw [← limits, ← limits]
    exact congrArg Host.Outcome.next (State.carryOut_runBy (p := u.writeAMax v) item dt rfl)
  · exact congrArg Host.Outcome.next (State.carryOut_runBy (p := u.writeInterval v) item dt rfl)
  · intro x shorter active again servo
    have cast : (x : Int) = clampInt 1 16 v.toInt := Int.toNat_of_nonneg (by omega : (0 : Int) ≤ max 1 (min 16 v.toInt))
    rw [cast]
    refine (congrArg Host.Outcome.next (State.carryOut_runBy (p := u.writeWindow v) item dt rfl)).trans
      (congrArg (fun t => Host.Outcome.next (State.finishItem t r (clampResult (clampInt 1 16 v.toInt) v.toInt))) ?_)
    change u.shortenWindows x = _
    have window : s.activeWindow = u.activeWindow := rfl
    by_cases short : x < u.activeWindow.length
    · have made : again = selectSample (newestOf x u.activeWindow) := if_pos short
      cases chosen : selectSample (newestOf x u.activeWindow) with
      | none =>
        have kept : servo = s.servo := by simp only [servo, made, chosen]
        rw [kept, State.shortenWindows_stands (.inr chosen)]
        rfl
      | some y =>
        have moved : servo = { s.servo with
            leaderClass := some y.leaderClass
            lockedU := if s.servo.state = .locked then lockedForm y else s.servo.lockedU } := by
          simp only [servo, made, chosen]
        rw [moved, State.shortenWindows_again short chosen]
        rfl
    · have made : again = none := if_neg short
      have kept : servo = s.servo := by simp only [servo, made]
      rw [kept, State.shortenWindows_stands (.inl short)]
      rfl
  · intro x
    have cast : (x : Int) = clampInt 1 16 v.toInt := Int.toNat_of_nonneg (by omega : (0 : Int) ≤ max 1 (min 16 v.toInt))
    have tells := (u.setMon { u.mon with settleCount := x }).resettle_tells x s.mon.origins.length
    obtain ⟨frame, told⟩ := tells
    refine ⟨u.writeSettle x, ?_, frame, told, fun j => ?_⟩
    · rw [cast]
      exact congrArg Host.Outcome.next (State.carryOut_runBy (p := u.writeSettleCount v) item dt rfl)
    · intro e
      have entry : (u.writeSettle x).mon.origin j = { e with state := e.resettle x } := u.writeSettle_origin x j
      rw [entry, OriginEntry.resettle_eq]

end
end

section
/-! Writes of the tables (R38, R137 to R139, R151, R166). -/

namespace Sys2Proof.Machine

/-! ### The class table (R38) -/

theorem ClassEntry.legal_iff (e : ClassEntry) (line : Nat) : e.legal line = true ↔
    line ≤ 2 ∧ (∀ x ∈ e.terms, ∀ y, x = some y → y.offset ≤ 127) ∧ (∀ n, e.stampOffset = some n → n ≤ 9188) ∧
      (∀ n, e.issueOffset = some n → n ≤ 118) ∧ ¬(e.date = true ∧ e.line = .either) ∧
      ¬(e.sample = true ∧ e.issueOffset = none) := by
  have limit (x : Option Nat) (m : Nat) : x.getD 0 ≤ m ↔ ∀ n, x = some n → n ≤ m := by cases x <;> simp
  simp only [ClassEntry.legal, Bool.and_eq_true, decide_eq_true_eq, limit, and_assoc, Bool.not_eq_true',
    Bool.and_eq_false_iff]
  refine and_congr_right fun _ => and_congr ?_ (and_congr_right fun _ => and_congr_right fun _ => ?_)
  · refine List.all_eq_true.trans (forall₂_congr fun x mem => ?_)
    cases x <;> simp
  · cases e.date <;> cases e.sample <;> cases e.issueOffset <;> simp

theorem entryResult_beq {α : Type} [DecidableEq α] (stored given : α) (bytes : List Byte) :
    entryResult (stored == given) bytes =
      if stored = given then { status := .ok, content := [] } else { status := .clamped, content := bytes } :=
  if_congr beq_iff_eq rfl rfl

/-! ### The origin table (R137) -/

section

variable {s : State} {j : Nat} {e : OriginEntry}

theorem Monitor.duplicates_eq_true (m : Monitor) (j : Nat) (a : Address) : m.duplicates j a = true ↔
    ∃ i x, m.origins[i]? = some x ∧ i ≠ j ∧ x.enabled = true ∧ x.source = a := by
  simp only [Monitor.duplicates, List.any_eq_true, Prod.exists, List.mem_zipIdx_iff_getElem?, Bool.and_eq_true, beq_iff_eq,
    bne_iff_ne]
  exact ⟨fun ⟨x, i, entry, ⟨on, same⟩, other⟩ => ⟨i, x, entry, other, on, same⟩,
    fun ⟨i, x, entry, other, on, same⟩ => ⟨x, i, entry, ⟨on, same⟩, other⟩⟩

/-- An entry that returns to UNSEEN gives a transition where it leaves STRAY. -/
theorem State.replaceOrigin_unseen (unseen : e.state = .unseen) : s.replaceOrigin j e =
    if (s.mon.origin j).state = .stray then
      (s.setMon (s.mon.modifyOrigin j fun _ => e)).transition (.server j) (.server .stray) (.server .unseen)
        (.server e.filtered e.rack)
    else s.setMon (s.mon.modifyOrigin j fun _ => e) := by
  have tells : ((s.mon.origin j).state ≠ e.state ∧ ((s.mon.origin j).state = .stray ∨ e.state = .stray)) ↔
      (s.mon.origin j).state = .stray := by
    rw [unseen]
    constructor
    · rintro ⟨-, stray | stray⟩
      · exact stray
      · cases stray
    · intro stray
      rw [stray]
      exact ⟨by decide, .inl rfl⟩
  unfold State.replaceOrigin
  by_cases stray : (s.mon.origin j).state = .stray
  · refine (if_pos (tells.mpr stray)).trans ?_
    rw [if_pos stray, stray, unseen]
  · rw [if_neg stray]
    exact if_neg fun h => stray (tells.mp h)

end

/-! ### The rack table (R139) -/

/-- What the return of an entry to UNSEEN tells the report engine. -/
def ReportEngine.unseated (rep : ReportEngine) (osc j : Nat) (e : OriginEntry) : ReportEngine :=
  if e.state = .stray then
    rep.transition osc (.server j) (.server .stray) (.server .unseen) (.server none e.rack)
  else rep

theorem State.replaceOrigin_unseated (s : State) (j : Nat) : s.replaceOrigin j (s.mon.origin j).unseen =
    { s with
      mon := s.mon.modifyOrigin j fun _ => (s.mon.origin j).unseen
      rep := s.rep.unseated s.clock.osc j (s.mon.origin j) } := by
  rw [State.replaceOrigin_unseen rfl, ReportEngine.unseated]
  split <;> rfl

/-- Entries that return to UNSEEN one by one: their transitions, and what is left. -/
theorem State.foldl_unseen {l : List Nat} (distinct : l.Nodup) (s : State) :
    let t := l.foldl (fun t j => t.replaceOrigin j (t.mon.origin j).unseen) s
    t = { s with mon := { s.mon with origins := t.mon.origins }, rep := t.rep } ∧
      t.rep = l.foldl (fun rep j => rep.unseated s.clock.osc j (s.mon.origin j)) s.rep ∧
      t.mon.origins.length = s.mon.origins.length ∧
      ∀ i, t.mon.origin i = if i ∈ l then (s.mon.origin i).unseen else s.mon.origin i := by
  induction l using List.reverseRecOn with
  | nil => exact ⟨rfl, rfl, rfl, fun i => by simp⟩
  | append_singleton l j ih =>
    have parts := List.nodup_append.mp distinct
    have before := ih parts.1
    have fresh : j ∉ l := fun mem => parts.2.2 j mem j (by simp) rfl
    revert before
    simp only [List.foldl_append, List.foldl_cons, List.foldl_nil]
    generalize l.foldl (fun t j => State.replaceOrigin t j (t.mon.origin j).unseen) s = t
    rintro ⟨frame, told, length, entries⟩
    have same : t.mon.origin j = s.mon.origin j := (entries j).trans (if_neg fresh)
    have osc : t.clock.osc = s.clock.osc := by rw [frame]
    rw [State.replaceOrigin_unseated, same, osc, ← told]
    refine ⟨?_, rfl, ?_, fun i => ?_⟩
    · rw [frame]
      rfl
    · simpa [Monitor.modifyOrigin] using length
    · have blank : s.mon.origins.length ≤ i → s.mon.origin i = (s.mon.origin i).unseen := fun out => by
        simp [Monitor.origin, Nat.not_lt.mpr out, OriginEntry.unseen, OriginEntry.initial]
      simp only [Monitor.modifyOrigin_origin, length, entries, List.mem_append, List.mem_singleton]
      by_cases here : i = j
      · subst here
        by_cases inside : i < s.mon.origins.length
        · simp [inside]
        · simpa [inside, fresh] using blank (Nat.not_lt.mp inside)
      · simp [here]

/-- Every learned field of a rack clear, as its disabling leaves it, at the reading of its last transition. -/
def Rack.disabled (config : RackConfig) (last : Option (BitVec 32)) : Rack :=
  { Rack.cleared config with lastTransition := last }

/-- The members of a rack are distinct. -/
theorem Monitor.membersOf_nodup (m : Monitor) (k : Nat) : (m.membersOf k).Nodup := by
  have indices : (m.origins.zipIdx.map (·.2)).Nodup := by
    rw [List.zipIdx_map_snd]
    exact List.nodup_range'
  exact indices.sublist (List.filter_sublist.map _)

/-- Disabling a rack: its members return to UNSEEN, and then it becomes QUIET, with a transition where it was not. -/
theorem State.disableRack_eq (s : State) (k : Nat) (config : RackConfig) :
    let t := s.disableRack k config
    let old := s.mon.rack k
    let told := (s.mon.membersOf k).foldl (fun rep j => rep.unseated s.clock.osc j (s.mon.origin j)) s.rep
    t = { s with mon := { s.mon with origins := t.mon.origins, racks := t.mon.racks }, rep := t.rep } ∧
      t.mon.racks = s.mon.racks.modify k (fun _ => Rack.disabled config
        (if old.state = .quiet then old.lastTransition else some s.clock.runCounter)) ∧
      t.rep = (if old.state = .quiet then told
        else told.transition s.clock.osc (.rack k) (.rack old.state) (.rack .quiet) (.rack none none none 0 false false)) ∧
      ∀ j, t.mon.origin j = if j ∈ s.mon.membersOf k then (s.mon.origin j).unseen else s.mon.origin j := by
  intro t old told
  have unseated := s.foldl_unseen (s.mon.membersOf_nodup k)
  obtain ⟨u, is⟩ : ∃ u, (s.mon.membersOf k).foldl (fun t j => t.replaceOrigin j (t.mon.origin j).unseen) s = u := ⟨_, rfl⟩
  rw [is] at unseated
  obtain ⟨frame, rep, -, entries⟩ := unseated
  have racks : u.mon.racks = s.mon.racks := by rw [frame]
  have rack : u.mon.rack k = old := by rw [Monitor.rack, racks]; rfl
  have clock : u.clock = s.clock := by rw [frame]
  have made : t = u.replaceRack k (Rack.disabled config old.lastTransition) := by
    rw [← rack, ← is]
    rfl
  by_cases quiet : old.state = .quiet
  · have stays : t = u.setMon (u.mon.modifyRack k fun _ => Rack.disabled config old.lastTransition) :=
      made.trans (if_pos (by rw [rack]; exact quiet))
    rw [stays, if_pos quiet, if_pos quiet]
    refine ⟨?_, congrArg (List.modify · k _) racks, rep, entries⟩
    rw [frame]
    rfl
  · have moves : t = (u.setMon (u.mon.modifyRack k fun _ => Rack.disabled config (some u.clock.runCounter))).transition (.rack k)
        (.rack (u.mon.rack k).state) (.rack .quiet) (.rack none none none 0 false false) :=
      made.trans (if_neg (by rw [rack]; exact quiet))
    rw [moves, if_neg quiet, if_neg quiet, rack, clock]
    refine ⟨?_, congrArg (List.modify · k _) racks, ?_, entries⟩
    · rw [frame]
      rfl
    · change u.rep.transition u.clock.osc _ _ _ _ = _
      rw [clock, rep]

end Sys2Proof.Machine

section

open Sys2Proof Sys2Proof.Machine

/-- Settles O59: each write's tests in their order, and then what is stored. -/
theorem tableWritesTestThenStore : Obligations.TableWritesTestThenStore := by
  intro s dt r u ok refused
  refine ⟨fun index line e item => ?_, fun index enabled source rack item => ?_, fun index c item => ?_, fun index v item => ?_⟩
  · intro shadow kept legal
    have carried : exec (.writeClassEntry dt) s = .next ((u.writeClass index line e).1.finishItem r (u.writeClass index line e).2) :=
      congrArg Host.Outcome.next (State.carryOut_runBy (p := u.writeClass index line e) item dt rfl)
    have allowed : e.legal line = true ↔ legal := e.legal_iff line
    refine ⟨fun high => ?_, fun low pending => ?_, fun low free bad => ?_, fun low free good => ?_⟩
    · rw [carried, State.writeClass, if_pos high]
      rfl
    · rw [carried, State.writeClass, if_neg (Nat.not_lt.mpr low), if_pos (show u.cls.swapPending = true from pending)]
      rfl
    · rw [carried, State.writeClass, if_neg (Nat.not_lt.mpr low), if_neg (show ¬u.cls.swapPending = true from Bool.eq_false_iff.mp free),
        if_neg (mt allowed.mp bad)]
      rfl
    · rw [carried, State.writeClass, if_neg (Nat.not_lt.mpr low), if_neg (show ¬u.cls.swapPending = true from Bool.eq_false_iff.mp free),
        if_pos (allowed.mpr good), entryResult_beq]
      rfl
  · intro taken
    have carried : exec (.writeOriginEntry dt) s = .next ((u.writeOriginItem index enabled source rack).1.finishItem r
        (u.writeOriginItem index enabled source rack).2) :=
      congrArg Host.Outcome.next (State.carryOut_runBy (p := u.writeOriginItem index enabled source rack) item dt rfl)
    have doubled : (enabled && u.mon.duplicates index source) = true ↔ enabled = true ∧ taken := by
      rw [Bool.and_eq_true]
      exact and_congr_right fun _ => s.mon.duplicates_eq_true index source
    have inside (low : index ≤ 511) (rackLow : rack ≤ 31) : ¬(511 < index ∨ 31 < rack) := by omega
    refine ⟨fun high => ?_, fun low rackLow group => ?_, fun low rackLow individual on held => ?_,
      fun low rackLow individual free => ?_⟩
    · rw [carried, State.writeOriginItem, if_pos high]
      rfl
    · rw [carried, State.writeOriginItem, if_neg (inside low rackLow), if_pos (show isGroup _ = true from group)]
      rfl
    · rw [carried, State.writeOriginItem, if_neg (inside low rackLow), if_neg (show ¬isGroup _ = true from Bool.eq_false_iff.mp individual),
        if_pos (doubled.mpr ⟨on, held⟩)]
      rfl
    · intro stored
      have single : ¬(enabled && u.mon.duplicates index source) = true := fun h =>
        free.elim (fun off => Bool.false_ne_true (off.symm.trans (doubled.mp h).1)) fun none_ => none_ (doubled.mp h).2
      have written : u.writeOrigin index enabled source rack = if (s.mon.origin index).state = .stray then
          stored.transition (.server index) (.server .stray) (.server .unseen) (.server none rack) else stored :=
        State.replaceOrigin_unseen (s := u) rfl
      rw [carried, State.writeOriginItem, if_neg (inside low rackLow), if_neg (show ¬isGroup _ = true from Bool.eq_false_iff.mp individual), if_neg single,
        written]
      rfl
  · intro within level limit stored
    have carried : exec (.writeRackEntry dt) s = .next ((u.writeRackItem index c).1.finishItem r (u.writeRackItem index c).2) :=
      congrArg Host.Outcome.next (State.carryOut_runBy (p := u.writeRackItem index c) item dt rfl)
    refine ⟨fun high => ?_, fun low whole => ⟨u.writeRack index stored, ?_, ?_⟩⟩
    · rw [carried, State.writeRackItem, if_pos high]
      rfl
    · rw [carried, State.writeRackItem, if_neg (Nat.not_lt.mpr low), entryResult_beq]
      rfl
    · intro old disabling
      have off : (old.config.enabled && !stored.enabled) = true ↔ disabling := by simp [disabling, stored]
      refine ⟨fun keeps => if_neg (mt off.mp keeps), fun disables => ?_⟩
      have made : u.writeRack index stored = u.disableRack index stored := if_pos (off.mpr disables)
      obtain ⟨frame, racks, told, entries⟩ := u.disableRack_eq index stored
      have inside : index < u.mon.racks.length := by
        change index < s.mon.racks.length
        omega
      rw [made]
      refine ⟨frame, ?_, ?_, fun i other => ?_, fun j => ?_⟩
      · rw [Monitor.rack, racks, getD_modify, if_pos ⟨rfl, inside⟩]
        rfl
      · intro report
        have same : (u.mon.membersOf index).foldl (fun rep j => rep.unseated u.clock.osc j (u.mon.origin j)) u.rep = report := by
          refine List.foldl_ext _ _ _ fun rep j member => ?_
          rw [ReportEngine.unseated, (Monitor.mem_membersOf.mp member).2]
          rfl
        rw [told, same]
        rfl
      · rw [Monitor.rack, racks, getD_modify, if_neg fun here => other here.1]
        rfl
      · intro e
        have member : j ∈ u.mon.membersOf index ↔ e.enabled = true ∧ e.rack = index := Monitor.mem_membersOf
        rw [entries, if_congr member rfl rfl]
        by_cases inRack : e.enabled = true ∧ e.rack = index
        · rw [if_pos inRack, if_pos inRack, ← inRack.1, ← inRack.2]
          rfl
        · rw [if_neg inRack, if_neg inRack]
          rfl
  · intro address placed
    have carried : exec (.writeManagerPlace dt) s = .next ((u.writeManager index v).1.finishItem r (u.writeManager index v).2) :=
      congrArg Host.Outcome.next (State.carryOut_runBy (p := u.writeManager index v) item dt rfl)
    refine ⟨fun high => ?_, fun low empty => ?_, fun low present group => ?_, fun low present individual => ?_⟩
    · rw [carried, State.writeManager, if_pos high]
      rfl
    · rw [carried, State.writeManager, if_neg (Nat.not_lt.mpr low), if_pos empty]
      rfl
    · rw [carried, State.writeManager, if_neg (Nat.not_lt.mpr low), if_neg (Bool.eq_false_iff.mp present), if_pos (show isGroup (addressIn v) = true from group)]
      rfl
    · rw [carried, State.writeManager, if_neg (Nat.not_lt.mpr low), if_neg (Bool.eq_false_iff.mp present),
        if_neg (show ¬isGroup (addressIn v) = true from Bool.eq_false_iff.mp individual)]
      rfl

end
end

section
/-! A write of the leader address or of a reference as one event (R54, R84, R90, R91, R95, R98, R105). -/

namespace Sys2Proof.Machine

/-! ### What the write leaves before the configured references are looked at -/

section

/-- The servo as a write of its references leaves it. -/
def Servo.rewritten (v : Servo) (primary secondary : Ref) : Servo :=
  ({ v with primary := primary, secondary := secondary } : Servo).reschedule v

theorem Servo.rewritten_revertIn (v : Servo) (p q : Ref) : (v.rewritten p q).revertIn =
    if v.mark p = v.mark v.primary then v.revertIn
    else match v.mark p with
      | some m => if m.age.toNat < v.revertTime * 1000 then some (v.revertTime * 1000 - m.age.toNat) else none
      | none => none := by
  let w : Servo := { v with primary := p, secondary := q }
  have mark : w.mark w.primary = v.mark p := by
    change w.mark p = v.mark p
    cases p <;> rfl
  by_cases same : v.mark p = v.mark v.primary
  · rw [if_pos same]
    have stands : v.rewritten p q = w := Servo.reschedule_stands (v := w) (mark.trans same) rfl
    rw [stands]
  · rw [if_neg same]
    refine (congrArg Servo.revertIn (Servo.reschedule_anew (v := w) (.inl fun h => same (mark.symm.trans h)))).trans ?_
    cases marked : v.mark p with
    | none => exact Servo.revertDistance_none (mark.trans marked)
    | some m => exact Servo.revertDistance_some (mark.trans marked)

theorem Servo.mark_rewritten (v : Servo) (p q r : Ref) : (v.rewritten p q).mark r = v.mark r := by
  rw [Servo.rewritten, Servo.mark_reschedule]
  cases r <;> rfl

theorem Servo.rewritten_eq (v : Servo) (p q : Ref) : v.rewritten p q =
    { v with primary := p, secondary := q, revertIn := (v.rewritten p q).revertIn } := Servo.reschedule_eq_revertIn _ _

variable (s : State) (p q : Ref) (e : Exchange)

/-- The state as a write of the references and of the exchange leaves it. -/
def State.rewritten : State := (s.setServo (s.servo.rewritten p q)).setExch e

/-- NORTH is configured before the write and not after it. -/
def State.ceases : Prop := s.configured .north = true ∧ (s.rewritten p q e).configured .north = false

/-- NORTH is configured after the write and not before it. -/
def State.begins : Prop := s.configured .north = false ∧ (s.rewritten p q e).configured .north = true

/-- The state in which the exchange has met what the write does to NORTH. -/
def State.northMoved : State :=
  (s.rewritten p q e).northChange (s.configured .north) ((s.rewritten p q e).configured .north)

/-- The configured references are those of before the write. -/
def State.samelyConfigured : Prop :=
  (s.rewritten p q e).configured .north = s.configured .north ∧ (s.rewritten p q e).configured .pulse = s.configured .pulse

end

/-! ### NORTH begins or ceases to be configured (R54) -/

section

variable {s : State} {p q : Ref} {e : Exchange}

theorem State.northMoved_ceased (ceased : s.ceases p q e) : s.northMoved p q e = (s.rewritten p q e).unconfigureNorth := by
  obtain ⟨before, after⟩ := ceased
  simp [State.northMoved, State.northChange, before, after]

theorem State.northMoved_begun (begun : s.begins p q e) :
    s.northMoved p q e = (s.rewritten p q e).setExch { e with queryIn := some 0 } := by
  obtain ⟨before, after⟩ := begun
  simp only [State.northMoved, State.northChange, before, after]
  rfl

theorem State.northMoved_other (stays : ¬s.ceases p q e) (unbegun : ¬s.begins p q e) : s.northMoved p q e = s.rewritten p q e := by
  cases before : s.configured .north <;> cases after : (s.rewritten p q e).configured .north <;>
    simp_all [State.northMoved, State.northChange, State.ceases, State.begins]

theorem State.northMoved_same (same : s.samelyConfigured p q e) : s.northMoved p q e = s.rewritten p q e := by
  obtain ⟨north, -⟩ := same
  refine State.northMoved_other (fun ceased => ?_) fun begun => ?_
  · obtain ⟨before, after⟩ := ceased
    exact Bool.false_ne_true (after.symm.trans (north.trans before))
  · obtain ⟨before, after⟩ := begun
    exact Bool.false_ne_true (before.symm.trans (north.symm.trans after))

/-- The servo once NORTH has moved: what the write and the end of NORTH's configuration move, and nothing else. -/
theorem State.northMoved_servo [Decidable (s.ceases p q e)] : (s.northMoved p q e).servo = { s.servo with
    primary := p, secondary := q
    markN := if s.ceases p q e then none else s.servo.markN
    stepPending := if s.ceases p q e ∧ s.servo.active = .north then false else s.servo.stepPending
    lockCounter := if s.ceases p q e ∧ s.servo.active = .north then 0 else s.servo.lockCounter
    revertIn := (s.northMoved p q e).servo.revertIn } := by
  by_cases ceased : s.ceases p q e
  · have marked : (s.servo.rewritten p q).remarked .north none = { s.servo with
        primary := p, secondary := q, markN := none
        revertIn := ((s.servo.rewritten p q).remarked .north none).revertIn } := by
      rw [Servo.remarked, Servo.reschedule_eq_revertIn, Servo.rewritten_eq]
      rfl
    have marked_active : ((s.servo.rewritten p q).remarked .north none).active = s.servo.active := by rw [marked]
    rw [State.northMoved_ceased ceased, if_pos ceased]
    by_cases active : s.servo.active = .north
    · have emptied : (s.rewritten p q e).unconfigureNorth.servo =
          ((s.servo.rewritten p q).remarked .north none).windowEmptied := if_pos (marked_active.trans active)
      rw [if_pos ⟨ceased, active⟩, if_pos ⟨ceased, active⟩, emptied]
      exact congrArg Servo.windowEmptied marked
    · have stands : (s.rewritten p q e).unconfigureNorth.servo = (s.servo.rewritten p q).remarked .north none :=
        if_neg fun h => active (marked_active.symm.trans h)
      rw [if_neg fun h => active h.2, if_neg fun h => active h.2, stands]
      exact marked
  · have written : (s.northMoved p q e).servo = s.servo.rewritten p q := by
      by_cases begun : s.begins p q e
      · rw [State.northMoved_begun begun]
        rfl
      · rw [State.northMoved_other ceased begun]
        rfl
    rw [written, if_neg ceased, if_neg fun h => ceased h.1, if_neg fun h => ceased h.1]
    exact Servo.rewritten_eq ..

/-- The one mark that can go is NORTH's. -/
theorem State.northMoved_mark_ne (r : Ref) : (s.northMoved p q e).servo.mark r ≠ s.servo.mark r ↔
    s.ceases p q e ∧ r = .north ∧ s.servo.markN ≠ none := by
  classical
  rw [State.northMoved_servo]
  cases r with
  | north =>
    change (if s.ceases p q e then none else s.servo.markN) ≠ s.servo.markN ↔ _
    by_cases ceased : s.ceases p q e <;> simp [ceased, eq_comm]
  | pulse => exact ⟨fun h => absurd rfl h, fun h => by cases h.2.1⟩
  | none => exact ⟨fun h => absurd rfl h, fun h => by cases h.2.1⟩

theorem State.northMoved_exch_ceased (ceased : s.ceases p q e) : (s.northMoved p q e).exch =
    { e.void with queryIn := none, missed := 0, liveN := false, windowN := [] } := by
  rw [State.northMoved_ceased ceased]
  rfl

theorem State.northMoved_exch_begun (begun : s.begins p q e) : (s.northMoved p q e).exch = { e with queryIn := some 0 } := by
  rw [State.northMoved_begun begun]
  rfl

theorem State.northMoved_exch_other (stays : ¬s.ceases p q e) (unbegun : ¬s.begins p q e) : (s.northMoved p q e).exch = e := by
  rw [State.northMoved_other stays unbegun]
  rfl

theorem State.northMoved_rest : s.northMoved p q e =
    { s with servo := (s.northMoved p q e).servo, exch := (s.northMoved p q e).exch } := by
  by_cases ceased : s.ceases p q e
  · rw [State.northMoved_ceased ceased]
    rfl
  · by_cases begun : s.begins p q e
    · rw [State.northMoved_begun begun]
      rfl
    · rw [State.northMoved_other ceased begun]
      rfl

/-- What the end of NORTH's configuration does to the revert expiry: it goes with a mark of the primary. -/
theorem State.northMoved_revertIn [Decidable (s.ceases p q e)] : (s.northMoved p q e).servo.revertIn =
    if s.ceases p q e ∧ p = .north ∧ s.servo.markN ≠ none then none else (s.servo.rewritten p q).revertIn := by
  by_cases ceased : s.ceases p q e
  · have gone := (s.servo.rewritten p q).remarked_none_revertIn (r := .north) (by decide)
    have primary : (s.servo.rewritten p q).primary = p := by rw [Servo.rewritten_eq]
    have emptied : (s.rewritten p q e).unconfigureNorth.servo.revertIn =
        ((s.servo.rewritten p q).remarked .north none).revertIn := by
      unfold State.unconfigureNorth
      dsimp only
      split <;> rfl
    rw [State.northMoved_ceased ceased, emptied, gone, primary, Servo.mark_rewritten]
    exact if_congr (by simp [ceased, Servo.mark]) rfl rfl
  · have written : (s.northMoved p q e).servo = s.servo.rewritten p q := by
      by_cases begun : s.begins p q e
      · rw [State.northMoved_begun begun]
        rfl
      · rw [State.northMoved_other ceased begun]
        rfl
    rw [written, if_neg fun h => ceased h.1]

theorem State.northMoved_leader : (s.northMoved p q e).exch.leader = e.leader := by
  by_cases ceased : s.ceases p q e
  · rw [State.northMoved_exch_ceased ceased]
    rfl
  · by_cases begun : s.begins p q e
    · rw [State.northMoved_exch_begun begun]
    · rw [State.northMoved_exch_other ceased begun]

/-- Neither the write's servo items nor the exchange's other items decide which references are configured. -/
theorem State.northMoved_configured (r : Ref) : (s.northMoved p q e).configured r = (s.rewritten p q e).configured r := by
  classical
  have written : (s.rewritten p q e).servo.primary = p ∧ (s.rewritten p q e).servo.secondary = q := by
    change (s.servo.rewritten p q).primary = p ∧ (s.servo.rewritten p q).secondary = q
    rw [Servo.rewritten_eq]
    exact ⟨rfl, rfl⟩
  obtain ⟨primary, secondary⟩ := written
  rw [State.configured_eq, State.configured_eq]
  refine configuredBy_congr ?_ ?_ ?_ r
  · rw [State.northMoved_servo, primary]
  · rw [State.northMoved_servo, secondary]
  · exact State.northMoved_leader

/-- What the exchange keeps, as NORTH moves (R54, R55). -/
theorem State.northMoved_keptBy (kept : e.keptBy (s.configured .north)) :
    (s.northMoved p q e).exch.keptBy ((s.northMoved p q e).configured .north) := by
  rw [State.northMoved_configured]
  by_cases ceased : s.ceases p q e
  · rw [State.northMoved_exch_ceased ceased, ceased.2]
    exact ⟨rfl, fun open_ => absurd rfl open_, fun _ => ⟨rfl, rfl, rfl⟩⟩
  · by_cases begun : s.begins p q e
    · rw [State.northMoved_exch_begun begun, begun.2]
      exact Exchange.keptBy_of_running rfl
    · rw [State.northMoved_exch_other ceased begun]
      cases before : s.configured .north <;> cases after : (s.rewritten p q e).configured .north <;>
        simp_all [State.ceases, State.begins]

end

/-! ### The loss, the offer and the revert test of the event (R91) -/

section

variable {x : State} {before : Bool}

theorem State.dropActive_stays (stays : ¬(x.servo.active ≠ .none ∧ x.configured x.servo.active = false)) : x.dropActive = x := by
  refine if_pos ?_
  by_cases none_ : x.servo.active = .none
  · exact .inl none_
  · exact .inr (Bool.eq_true_of_not_eq_false fun off => stays ⟨none_, off⟩)

theorem State.dropActive_switches (named : x.servo.active ≠ .none) (lost : x.configured x.servo.active = false)
    (auto : x.servo.held = false) (state : x.servo.state = .locked ∨ x.servo.state = .acquire)
    (available : x.available x.servo.active.other = true) : x.dropActive = x.startAcquire x.servo.active.other := by
  have ground : (x.startAcquire x.servo.active.other).configured x.servo.active.other = true := by
    have configured : x.configured x.servo.active.other = true := (Bool.and_eq_true_iff.mp available).1
    rw [← configured]
    exact (State.setExch_configured (Exchange.setWindow_leader _ _ _) _).trans
      (State.setServo_configured (s := x) rfl rfl _)
  have shut : ¬(x.servo.active = .none ∨ x.configured x.servo.active = true) := fun h =>
    h.elim named fun on => Bool.false_ne_true (lost.symm.trans on)
  refine (if_neg shut).trans ?_
  rw [auto, if_neg Bool.false_ne_true, State.lose_switches state available]
  exact if_pos ground

theorem State.dropActive_falls (named : x.servo.active ≠ .none) (lost : x.configured x.servo.active = false)
    (auto : x.servo.held = false) (state : x.servo.state = .locked) (unavailable : x.available x.servo.active.other = false) :
    x.dropActive = x.setServo { x.servo.enterHoldover with active := .none } := by
  have shut : ¬(x.servo.active = .none ∨ x.configured x.servo.active = true) := fun h =>
    h.elim named fun on => Bool.false_ne_true (lost.symm.trans on)
  have unground : ¬(x.setServo x.servo.enterHoldover).configured x.servo.active = true := by
    rw [State.setServo_configured (s := x) (v := x.servo.enterHoldover) rfl rfl]
    exact Bool.eq_false_iff.mp lost
  refine (if_neg shut).trans ?_
  rw [auto, if_neg Bool.false_ne_true, State.lose_holds_over state unavailable]
  exact if_neg unground

theorem State.dropActive_drops (named : x.servo.active ≠ .none) (lost : x.configured x.servo.active = false)
    (still : x.servo.held = true ∨ (x.servo.state ≠ .locked ∧
      (x.servo.state = .acquire → x.available x.servo.active.other = false))) :
    x.dropActive = x.setServo { x.servo with active := .none } := by
  have shut : ¬(x.servo.active = .none ∨ x.configured x.servo.active = true) := fun h =>
    h.elim named fun on => Bool.false_ne_true (lost.symm.trans on)
  have same : (if x.servo.held then x else x.lose) = x := by
    by_cases held : x.servo.held = true
    · exact if_pos held
    · obtain ⟨locked, unavailable⟩ := still.resolve_left held
      exact (if_neg held).trans (State.lose_stays locked unavailable)
  refine (if_neg shut).trans ?_
  rw [same]
  exact if_neg (Bool.eq_false_iff.mp lost)

/-- The offer of PULSE is one that the servo takes up. -/
def State.offersPulse (x : State) (before : Bool) : Prop :=
  before = false ∧ x.available .pulse = true ∧ x.servo.held = false

theorem State.offerPulse_eq : x.offersPulse before → x.offerPulse before = x.acceptOffer .pulse := fun ⟨fresh, available, auto⟩ =>
  if_pos (by simp [fresh, available, auto])

theorem State.offerPulse_none (no : ¬x.offersPulse before) : x.offerPulse before = x :=
  if_neg fun h => no (by simpa [State.offersPulse, and_assoc] using h)

theorem State.revertTest_of_not_locked (state : x.servo.state ≠ .locked) : x.revertTest = x :=
  State.revertTest_fails (by simp [State.revertPasses, state])

/-- Outside LOCKED and ACQUIRE, and in HELD, neither an offer nor the revert test does anything. -/
theorem State.offers_idle (idle : x.servo.held = true ∨ (x.servo.state ≠ .locked ∧ x.servo.state ≠ .acquire)) :
    (x.offerPulse before).revertTest = x := by
  have none_ : x.offerPulse before = x := by
    by_cases offered : x.offersPulse before
    · obtain ⟨locked, acquire⟩ := idle.resolve_left (Bool.eq_false_iff.mp offered.2.2)
      exact (State.offerPulse_eq offered).trans (State.acceptOffer_other locked acquire)
    · exact State.offerPulse_none offered
  rw [none_]
  rcases idle with held | ⟨locked, -⟩
  · exact State.revertTest_fails (by simp [State.revertPasses, held])
  · exact State.revertTest_of_not_locked locked

theorem State.offers_taken (state : x.servo.state = .acquire) (offered : x.offersPulse before)
    (elsewhere : x.servo.active ≠ .pulse) (lost : x.live x.servo.active = false) :
    (x.offerPulse before).revertTest = x.startAcquire .pulse := by
  have free : ¬(x.servo.active = .pulse ∨ x.live x.servo.active = true) := fun h =>
    h.elim elsewhere fun on => Bool.false_ne_true (lost.symm.trans on)
  rw [State.offerPulse_eq offered, State.acceptOffer_acquire state, if_neg free]
  exact State.revertTest_of_not_locked (by simp [State.startAcquire, Servo.enterAcquire])

theorem State.offers_declined (state : x.servo.state = .acquire)
    (no : ¬(x.offersPulse before ∧ x.servo.active ≠ .pulse ∧ x.live x.servo.active = false)) :
    (x.offerPulse before).revertTest = x := by
  have none_ : x.offerPulse before = x := by
    by_cases offered : x.offersPulse before
    · have busy : x.servo.active = .pulse ∨ x.live x.servo.active = true := by
        by_contra free
        obtain ⟨elsewhere, lost⟩ := not_or.mp free
        exact no ⟨offered, elsewhere, Bool.eq_false_iff.mpr lost⟩
      rw [State.offerPulse_eq offered, State.acceptOffer_acquire state, if_pos busy]
    · exact State.offerPulse_none offered
  rw [none_]
  exact State.revertTest_of_not_locked (by simp [state])

theorem State.offers_locked (state : x.servo.state = .locked) : (x.offerPulse before).revertTest = x.revertTest := by
  by_cases offered : x.offersPulse before
  · rw [State.offerPulse_eq offered, State.acceptOffer_locked state]
    by_cases passes : x.revertPasses = true
    · rw [State.revertTest_passes passes]
      exact State.revertTest_of_not_locked (by simp [State.startAcquire, Servo.enterAcquire])
    · rw [State.revertTest_fails (Bool.eq_false_iff.mpr passes), State.revertTest_fails (Bool.eq_false_iff.mpr passes)]
  · rw [State.offerPulse_none offered]

end

/-! ### What the loss, the offer and the revert leave -/

/-- A state whose references, marks and liveness are another's: only the entries of R92 to R95 lie between them. -/
structure SameReferences (x y : State) : Prop where
  primary : y.servo.primary = x.servo.primary
  secondary : y.servo.secondary = x.servo.secondary
  markN : y.servo.markN = x.servo.markN
  markP : y.servo.markP = x.servo.markP
  revertIn : y.servo.revertIn = x.servo.revertIn
  lastChange : y.servo.lastChange = x.servo.lastChange
  leader : y.exch.leader = x.exch.leader
  liveN : y.exch.liveN = x.exch.liveN
  liveP : y.exch.liveP = x.exch.liveP
  kept : ∀ north, x.exch.keptBy north → y.exch.keptBy north
  rest : y = { x with servo := y.servo, exch := y.exch }

namespace SameReferences

variable {x y z : State}

theorem refl (x : State) : SameReferences x x := ⟨rfl, rfl, rfl, rfl, rfl, rfl, rfl, rfl, rfl, fun _ h => h, rfl⟩

theorem trans (h : SameReferences x y) (k : SameReferences y z) : SameReferences x z where
  primary := k.primary.trans h.primary
  secondary := k.secondary.trans h.secondary
  markN := k.markN.trans h.markN
  markP := k.markP.trans h.markP
  revertIn := k.revertIn.trans h.revertIn
  lastChange := k.lastChange.trans h.lastChange
  leader := k.leader.trans h.leader
  liveN := k.liveN.trans h.liveN
  liveP := k.liveP.trans h.liveP
  kept := fun north kept => k.kept north (h.kept north kept)
  rest := by
    have := k.rest
    rw [h.rest] at this
    exact this

theorem startAcquire (x : State) (r : Ref) : SameReferences x (x.startAcquire r) := by
  refine ⟨rfl, rfl, rfl, rfl, rfl, rfl, Exchange.setWindow_leader _ _ _, ?_, ?_, fun _ kept => kept.setWindow_nil r, rfl⟩
  · cases r <;> rfl
  · cases r <;> rfl

theorem withoutActive (x : State) : SameReferences x (x.setServo { x.servo with active := .none }) :=
  ⟨rfl, rfl, rfl, rfl, rfl, rfl, rfl, rfl, rfl, fun _ h => h, rfl⟩

theorem lose (x : State) : SameReferences x x.lose := by
  unfold State.lose
  split
  · split
    · exact startAcquire x _
    · exact ⟨rfl, rfl, rfl, rfl, rfl, rfl, rfl, rfl, rfl, fun _ h => h, rfl⟩
  · split
    · exact startAcquire x _
    · exact refl x
  · exact refl x

theorem dropActive (x : State) : SameReferences x x.dropActive := by
  unfold State.dropActive
  split
  · exact refl x
  · have lost : SameReferences x (if x.servo.held then x else x.lose) := by
      split
      · exact refl x
      · exact lose x
    dsimp only
    generalize (if x.servo.held then x else x.lose) = y at lost ⊢
    split
    · exact lost
    · exact lost.trans (withoutActive y)

theorem revertTest (x : State) : SameReferences x x.revertTest := by
  unfold State.revertTest
  split
  · exact startAcquire x _
  · exact refl x

theorem offerPulse (x : State) (before : Bool) : SameReferences x (x.offerPulse before) := by
  unfold State.offerPulse State.acceptOffer
  split
  · split
    · exact revertTest x
    · split
      · exact refl x
      · exact startAcquire x _
    · exact refl x
  · exact refl x

theorem configured (h : SameReferences x y) (r : Ref) : y.configured r = x.configured r := by
  rw [State.configured_eq, State.configured_eq]
  exact configuredBy_congr h.primary h.secondary h.leader r

theorem live (h : SameReferences x y) (r : Ref) : y.live r = x.live r := by
  cases r with
  | north => exact h.liveN
  | pulse => exact h.liveP
  | none => rfl

theorem mark (h : SameReferences x y) (r : Ref) : y.servo.mark r = x.servo.mark r := by
  cases r with
  | north => exact h.markN
  | pulse => exact h.markP
  | none => rfl

theorem available (h : SameReferences x y) (r : Ref) : y.available r = x.available r := by
  rw [State.available, State.available, h.configured, h.live]

end SameReferences

/-- A write of the references as one event: the loss, the offer and the revert test come after NORTH's move, where the
configured references change. -/
theorem State.reconfigure_eq {s : State} {p q : Ref} {e : Exchange} {write : State → State} [Decidable (s.samelyConfigured p q e)]
    (written : write s = (s.setServo { s.servo with primary := p, secondary := q }).setExch e) :
    s.reconfigure write = s.tracked fun _ =>
      if s.samelyConfigured p q e then s.northMoved p q e
      else ((s.northMoved p q e).dropActive.offerPulse (s.configured .pulse)).revertTest := by
  refine State.tracked_congr ?_
  dsimp only
  rw [written]
  by_cases same : s.samelyConfigured p q e
  · rw [if_pos same, State.northMoved_same same]
    exact if_pos same
  · rw [if_neg same]
    exact if_neg same

/-- The state the event leaves, told from the one in which NORTH has moved: by the loss of the active reference, the offer of
PULSE and the revert test, each where the configured references change. -/
structure Reconfigured (x z : State) (changed : Prop) (pulseBefore : Bool) : Prop where
  refs : SameReferences x z
  switches : changed → x.servo.active ≠ .none → x.configured x.servo.active = false → x.servo.held = false →
    x.servo.state = .locked ∨ x.servo.state = .acquire → x.available x.servo.active.other = true →
    z = x.startAcquire x.servo.active.other
  falls : changed → x.servo.active ≠ .none → x.configured x.servo.active = false → x.servo.held = false →
    x.servo.state = .locked → x.available x.servo.active.other = false →
    z = x.setServo { x.servo.enterHoldover with active := .none }
  drops : changed → x.servo.active ≠ .none → x.configured x.servo.active = false →
    x.servo.held = true ∨ (x.servo.state ≠ .locked ∧ (x.servo.state = .acquire → x.available x.servo.active.other = false)) →
    z = x.setServo { x.servo with active := .none }
  offers : changed → ¬(x.servo.active ≠ .none ∧ x.configured x.servo.active = false) → x.servo.state = .acquire →
    x.offersPulse pulseBefore → x.servo.active ≠ .pulse → x.live x.servo.active = false → z = x.startAcquire .pulse
  reverts : changed → ¬(x.servo.active ≠ .none ∧ x.configured x.servo.active = false) → x.revertPasses = true →
    z = x.startAcquire x.servo.primary
  stays : ¬changed ∨ (¬(x.servo.active ≠ .none ∧ x.configured x.servo.active = false) ∧ x.revertPasses = false ∧
    ¬(x.servo.state = .acquire ∧ x.offersPulse pulseBefore ∧ x.servo.active ≠ .pulse ∧ x.live x.servo.active = false)) →
    z = x

theorem State.reconfigured_of_changed (x : State) (pulseBefore : Bool) :
    Reconfigured x ((x.dropActive.offerPulse pulseBefore).revertTest) True pulseBefore where
  refs := ((SameReferences.dropActive x).trans (.offerPulse _ _)).trans (.revertTest _)
  switches := fun _ named lost auto state available => by
    rw [State.dropActive_switches named lost auto state available]
    refine State.offers_declined rfl fun offered => ?_
    obtain ⟨-, -, dead⟩ := offered
    have live : x.live x.servo.active.other = true := (Bool.and_eq_true_iff.mp available).2
    have same := (SameReferences.startAcquire x x.servo.active.other).live x.servo.active.other
    exact Bool.false_ne_true (dead.symm.trans (same.trans live))
  falls := fun _ named lost auto state unavailable => by
    rw [State.dropActive_falls named lost auto state unavailable]
    exact State.offers_idle (.inr ⟨by simp [Servo.enterHoldover], by simp [Servo.enterHoldover]⟩)
  drops := fun _ named lost still => by
    rw [State.dropActive_drops named lost still]
    have refs := SameReferences.withoutActive x
    by_cases held : x.servo.held = true
    · exact State.offers_idle (.inl held)
    · obtain ⟨locked, unavailable⟩ := still.resolve_left held
      by_cases acquire : x.servo.state = .acquire
      · refine State.offers_declined acquire fun offered => ?_
        obtain ⟨⟨-, available, -⟩, -⟩ := offered
        have pulse_available : x.available .pulse = true := (refs.available .pulse).symm.trans available
        cases active : x.servo.active with
        | north =>
          rw [active] at unavailable
          exact Bool.false_ne_true ((unavailable acquire).symm.trans pulse_available)
        | pulse =>
          rw [active] at lost
          exact Bool.false_ne_true (lost.symm.trans (Bool.and_eq_true_iff.mp pulse_available).1)
        | none => exact named active
      · exact State.offers_idle (.inr ⟨locked, acquire⟩)
  offers := fun _ stands state offered elsewhere dead => by
    rw [State.dropActive_stays stands]
    exact State.offers_taken state offered elsewhere dead
  reverts := fun _ stands passes => by
    obtain ⟨-, locked, -⟩ := x.revertPasses_iff.mp passes
    rw [State.dropActive_stays stands, State.offers_locked locked, State.revertTest_passes passes]
  stays := fun still => by
    obtain ⟨stands, fails, no⟩ := still.resolve_left (not_not_intro trivial)
    rw [State.dropActive_stays stands]
    by_cases locked : x.servo.state = .locked
    · rw [State.offers_locked locked, State.revertTest_fails fails]
    · by_cases acquire : x.servo.state = .acquire
      · exact State.offers_declined acquire fun offered => no ⟨acquire, offered⟩
      · exact State.offers_idle (.inr ⟨locked, acquire⟩)

/-- A write of the references as one event. -/
theorem State.reconfigure_taken {s : State} {p q : Ref} {e : Exchange} {write : State → State}
    (written : write s = (s.setServo { s.servo with primary := p, secondary := q }).setExch e) :
    ∃ z, TakenEvent s (s.reconfigure write) z.servo z.exch ∧
      Reconfigured (s.northMoved p q e) z (¬s.samelyConfigured p q e) (s.configured .pulse) := by
  classical
  let x := s.northMoved p q e
  let y := (x.dropActive.offerPulse (s.configured .pulse)).revertTest
  have event : s.reconfigure write = s.tracked fun _ => if s.samelyConfigured p q e then x else y := State.reconfigure_eq written
  have moved : x = { s with servo := x.servo, exch := x.exch } := State.northMoved_rest
  have last : x.servo.lastChange = s.servo.lastChange := by
    change (s.northMoved p q e).servo.lastChange = _
    rw [State.northMoved_servo]
  have taken {z : State} (is : (if s.samelyConfigured p q e then x else y) = z) (refs : SameReferences x z) :
      TakenEvent s (s.reconfigure write) z.servo z.exch := by
    rw [event, is]
    refine State.tracked_taken ?_ (refs.lastChange.trans last)
    have rest := refs.rest
    rw [moved] at rest
    exact rest
  by_cases same : s.samelyConfigured p q e
  · refine ⟨x, taken (if_pos same) (.refl x), ⟨.refl x, ?_, ?_, ?_, ?_, ?_, fun _ => rfl⟩⟩ <;>
      exact fun changed => absurd same changed
  · have work := x.reconfigured_of_changed (s.configured .pulse)
    refine ⟨y, taken (if_neg same) work.refs, ⟨work.refs, fun _ => work.switches trivial, fun _ => work.falls trivial,
      fun _ => work.drops trivial, fun _ => work.offers trivial, fun _ => work.reverts trivial, fun still => ?_⟩⟩
    exact work.stays (.inr (still.resolve_left (not_not_intro same)))

namespace TakenEvent

variable {s t z : State} (h : TakenEvent s t z.servo z.exch)

include h

theorem configured (r : Ref) : t.configured r = z.configured r := by
  rw [State.configured_eq, State.configured_eq]
  exact configuredBy_congr (by rw [h.servo]) (by rw [h.servo]) (by rw [h.exch]) r

theorem live (r : Ref) : t.live r = z.live r := by
  cases r with
  | north => exact congrArg Exchange.liveN h.exch
  | pulse => exact congrArg Exchange.liveP h.exch
  | none => rfl

theorem available (r : Ref) : t.available r = z.available r := by
  rw [State.available, State.available, h.configured, h.live]

theorem mark (r : Ref) : t.servo.mark r = z.servo.mark r := by
  rw [h.servo]
  cases r <;> rfl

end TakenEvent

/-- What a write of a reference or of the leader address comes to. -/
theorem exec_referenceWrite {s : State} {r : Request} {id : Nat} {v : BitVec 64} (dt : Nat)
    (item : s.currentItem = some (r, .writeSetting id v)) (ids : id = 9 ∨ id = 23 ∨ id = 24) :
    let u := s.runBy dt
    let c := if id = 9 then Instr.writeLeaderAddress dt else Instr.writeReference dt
    let named : Ref := if v = 0 then .north else if v = 1 then .pulse else .none
    let legal : Prop := if id = 9 then (v.setWidth 48).getLsbD 40 = false else v.toNat ≤ 2
    let taken : Exchange := { s.exch with leader := if id = 9 then v.setWidth 48 else s.exch.leader }
    ∃ write : State → State,
      write u = (u.setServo { s.servo with
        primary := if id = 23 then named else s.servo.primary
        secondary := if id = 24 then named else s.servo.secondary }).setExch
          (if id = 9 ∧ s.configured .north = true then taken.void else taken) ∧
      (¬legal → exec c s = .next (u.finishItem r { status := .badValue, content := [] })) ∧
      (legal → exec c s = .next ((u.reconfigure write).finishItem r { status := .ok, content := [] })) := by
  intro u c named legal taken
  have refs : refAt v.toNat = named :=
    if_congr (BitVec.toNat_inj (y := 0#64)) rfl (if_congr (BitVec.toNat_inj (y := 1#64)) rfl rfl)
  rcases ids with rfl | rfl | rfl
  · refine ⟨fun t => t.setLeader (addressIn v), ?_, fun bad => ?_, fun good => ?_⟩
    · by_cases north : s.configured .north = true
      · exact (congrArg (fun e => u.setExch e) (if_pos north)).trans
          (congrArg (fun e => u.setExch e) (if_pos ⟨rfl, north⟩).symm)
      · exact (congrArg (fun e => u.setExch e) (if_neg north)).trans
          (congrArg (fun e => u.setExch e) (if_neg fun both => north both.2).symm)
    · refine (congrArg Host.Outcome.next (State.carryOut_runBy (p := u.writeLeader v) item dt rfl)).trans ?_
      rw [State.writeLeader, writeAddress, if_neg (show ¬isGroup (addressIn v) = false from bad)]
      rfl
    · refine (congrArg Host.Outcome.next (State.carryOut_runBy (p := u.writeLeader v) item dt rfl)).trans ?_
      rw [State.writeLeader, writeAddress, if_pos (show isGroup (addressIn v) = false from good)]
      rfl
  · refine ⟨fun t => t.setServo { t.servo with primary := refAt v.toNat }, ?_, fun bad => ?_, fun good => ?_⟩
    · rw [refs]
      rfl
    · refine (congrArg Host.Outcome.next (State.carryOut_runBy (p := u.writeRef true v) item dt rfl)).trans ?_
      rw [State.writeRef, writeChoice, if_neg (show ¬v.toNat ≤ 2 from bad)]
      rfl
    · refine (congrArg Host.Outcome.next (State.carryOut_runBy (p := u.writeRef true v) item dt rfl)).trans ?_
      rw [State.writeRef, writeChoice, if_pos (show v.toNat ≤ 2 from good)]
      rfl
  · refine ⟨fun t => t.setServo { t.servo with secondary := refAt v.toNat }, ?_, fun bad => ?_, fun good => ?_⟩
    · rw [refs]
      rfl
    · refine (congrArg Host.Outcome.next (State.carryOut_runBy (p := u.writeRef false v) item dt rfl)).trans ?_
      rw [State.writeRef, writeChoice, if_neg (show ¬v.toNat ≤ 2 from bad)]
      rfl
    · refine (congrArg Host.Outcome.next (State.carryOut_runBy (p := u.writeRef false v) item dt rfl)).trans ?_
      rw [State.writeRef, writeChoice, if_pos (show v.toNat ≤ 2 from good)]
      rfl

end Sys2Proof.Machine

section

open Sys2Proof Sys2Proof.Machine

/-- Settles O58. -/
theorem referencesAreReconfigured : Obligations.ReferencesAreReconfigured := by
  classical
  refine ⟨fun s => ?_, fun s dt r id v item kept => ?_⟩
  · intro named
    have names (x : Ref) (some_ : x ≠ .none) : s.servo.names x = true ↔ named x := by
      simp only [Servo.names, Servo.effectiveSecondary, named, Bool.or_eq_true, beq_iff_eq]
      by_cases same : s.servo.secondary = s.servo.primary
      · rw [if_pos same]
        simp [same, Ne.symm some_]
      · rw [if_neg same]
        simp [same]
    refine ⟨?_, names .pulse (by decide), rfl, rfl, rfl, rfl, fun x => Bool.and_eq_true_iff⟩
    rw [← names .north (by decide), ← bne_iff_ne, ← Bool.and_eq_true_iff]
    rfl
  · intro u c named legal leader primary secondary active other ids
    obtain ⟨write, written, refuses, takes⟩ := exec_referenceWrite dt item ids
    refine ⟨refuses, fun good => ⟨u.reconfigure write, takes good, ?_⟩⟩
    generalize exch_eq : (if id = 9 ∧ s.configured .north = true then
      ({ s.exch with leader := leader } : Exchange).void else { s.exch with leader := leader }) = e at written
    obtain ⟨z, taken, outcome⟩ := State.reconfigure_taken written
    generalize u.reconfigure write = t at taken ⊢
    generalize moved : u.northMoved primary secondary e = x at outcome
    have refs := outcome.refs
    have x_servo := State.northMoved_servo (s := u) (p := primary) (q := secondary) (e := e)
    rw [moved] at x_servo
    have configured (q : Ref) : t.configured q = x.configured q := (taken.configured q).trans (refs.configured q)
    have live (q : Ref) : t.live q = x.live q := (taken.live q).trans (refs.live q)
    have available (q : Ref) : t.available q = x.available q := (taken.available q).trans (refs.available q)
    have mark (q : Ref) : t.servo.mark q = x.servo.mark q := (taken.mark q).trans (refs.mark q)
    have written_configured (q : Ref) : t.configured q = (u.rewritten primary secondary e).configured q := by
      rw [configured, ← moved, State.northMoved_configured]
    have leader_e : e.leader = leader := by
      rw [← exch_eq]
      split <;> rfl
    have kept_e : e.keptBy (u.configured .north) := by
      rw [← exch_eq]
      split
      · exact Exchange.keptBy.void (e := { s.exch with leader := leader }) kept
      · exact kept
    refine ⟨taken.rest, ?_, ?_, ?_, ?_, ?_, taken.lastChange, taken.rep⟩
    · rw [taken.exch, refs.leader, ← leader_e, ← moved, State.northMoved_leader]
    · rw [taken.servo]
      exact refs.primary.trans (by rw [x_servo])
    · rw [taken.servo]
      exact refs.secondary.trans (by rw [x_servo])
    · have x_kept := State.northMoved_keptBy (p := primary) (q := secondary) kept_e
      rw [moved, ← configured] at x_kept
      have t_kept := refs.kept _ x_kept
      rw [← taken.exch] at t_kept
      exact t_kept
    · intro changed ceased begun voided exch emptied base entered lost auto switch falls offer revert
      have ceases : u.ceases primary secondary e ↔ ceased :=
        Iff.of_eq (congrArg (fun b => s.configured .north = true ∧ b = false) (written_configured .north).symm)
      have begins : u.begins primary secondary e ↔ begun :=
        Iff.of_eq (congrArg (fun b => s.configured .north = false ∧ b = true) (written_configured .north).symm)
      have changes : ¬u.samelyConfigured primary secondary e ↔ changed := by
        have same : u.samelyConfigured primary secondary e ↔ ∀ q, t.configured q = s.configured q := by
          refine ⟨fun same q => ?_, fun same => ⟨?_, ?_⟩⟩
          · rw [written_configured]
            cases q with
            | north => exact same.1
            | pulse => exact same.2
            | none => rfl
          · exact (written_configured .north).symm.trans (same .north)
          · exact (written_configured .pulse).symm.trans (same .pulse)
        rw [same, not_forall]
      have x_exch : x.exch = exch := by
        rw [← moved]
        by_cases isCeased : ceased
        · have cleared : e.void = voided := by
            rw [← exch_eq]
            split <;> rfl
          rw [State.northMoved_exch_ceased (ceases.mpr isCeased), cleared]
          exact (if_pos isCeased).symm
        · by_cases isBegun : begun
          · have fresh : e = { s.exch with leader := leader } :=
              exch_eq.symm.trans (if_neg fun both => Bool.false_ne_true (isBegun.1.symm.trans both.2))
            rw [State.northMoved_exch_begun (begins.mpr isBegun), fresh]
            exact ((if_neg isCeased).trans (if_pos isBegun)).symm
          · rw [State.northMoved_exch_other (mt ceases.mp isCeased) (mt begins.mp isBegun), ← exch_eq]
            exact ((if_neg isCeased).trans (if_neg isBegun)).symm
      have revert_t : t.servo.revertIn = x.servo.revertIn := by
        rw [taken.servo]
        exact refs.revertIn
      have x_base : { x.servo with lastChange := t.servo.lastChange } = base := by
        have marks : (if u.ceases primary secondary e then none else u.servo.markN) = if ceased then none else s.servo.markN :=
          if_congr ceases rfl rfl
        have emptiesIf : (u.ceases primary secondary e ∧ u.servo.active = .north) ↔ emptied := and_congr_left fun _ => ceases
        have pendings : (if u.ceases primary secondary e ∧ u.servo.active = .north then false else u.servo.stepPending) =
            if emptied then false else s.servo.stepPending := if_congr emptiesIf rfl rfl
        have counters : (if u.ceases primary secondary e ∧ u.servo.active = .north then 0 else u.servo.lockCounter) =
            if emptied then 0 else s.servo.lockCounter := if_congr emptiesIf rfl rfl
        refine (congrArg (fun w : Servo => { w with lastChange := t.servo.lastChange }) x_servo).trans ?_
        rw [← revert_t, marks, pendings, counters]
        rfl
      have x_entered (q : Ref) : { x.servo.enterAcquire q with lastChange := t.servo.lastChange } = entered q :=
        congrArg (Servo.enterAcquire · q) x_base
      have x_state : x.servo.state = s.servo.state ∧ x.servo.held = s.servo.held ∧ x.servo.active = active ∧
          x.servo.revertEnable = s.servo.revertEnable ∧ x.servo.revertTime = s.servo.revertTime ∧
          x.servo.primary = primary ∧ x.servo.secondary = secondary := by
        rw [x_servo]
        exact ⟨rfl, rfl, rfl, rfl, rfl, rfl, rfl⟩
      obtain ⟨state, held, is_active, enable, time, is_primary, is_secondary⟩ := x_state
      obtain ⟨-, switches, fallsOver, drops, offers, reverts, stays⟩ := outcome
      rw [is_active, ← configured, ← available, state, held, changes] at switches fallsOver drops
      have enters {q : Ref} (is : z = x.startAcquire q) : t.servo = entered q ∧ t.exch = exch.setWindow q [] := by
        rw [is] at taken
        exact ⟨taken.servo.trans (x_entered q), taken.exch.trans (congrArg (·.setWindow q []) x_exch)⟩
      have stands (unlost : ¬lost) (isChanged : changed) : ¬(x.servo.active ≠ .none ∧ x.configured x.servo.active = false) := by
        rw [is_active, ← configured]
        exact fun h => unlost ⟨isChanged, h⟩
      have passes_iff : x.revertPasses = true ↔ auto ∧ s.servo.state = .locked ∧
          active = (if secondary = primary then .none else secondary) ∧ s.servo.revertEnable = true ∧
          t.available primary = true ∧
          ∃ m, t.servo.mark primary = some m ∧ s.servo.revertTime * 1000 ≤ m.age.toNat := by
        rw [x.revertPasses_iff, Servo.effectiveSecondary, state, held, is_active, enable, time, is_primary, is_secondary,
          ← available, ← mark]
      have offer_iff : (x.servo.state = .acquire ∧ x.offersPulse (u.configured .pulse) ∧ x.servo.active ≠ .pulse ∧
          x.live x.servo.active = false) ↔ s.servo.state = .acquire ∧ (s.configured .pulse = false ∧
          t.available .pulse = true ∧ auto) ∧ active ≠ .pulse ∧ t.live active = false := by
        rw [State.offersPulse, state, held, is_active, ← available, ← live]
        rfl
      refine ⟨fun ⟨isAuto, ⟨isChanged, named, dead⟩, states, room⟩ => ?_, fun ⟨isAuto, ⟨isChanged, named, dead⟩, locked, shut⟩ => ?_,
        fun ⟨isChanged, named, dead⟩ noSwitch noFall => ?_, fun ⟨isAuto, unlost, fresh, room, acquire, elsewhere, still⟩ => ?_,
        fun ⟨isAuto, unlost, isChanged, locked, second, on, room, aged⟩ => ?_, fun unlost noOffer noRevert => ?_, ?_⟩
      · exact enters (switches isChanged named dead isAuto states room)
      · have is := fallsOver isChanged named dead isAuto locked shut
        rw [is] at taken
        exact ⟨taken.exch.trans x_exch,
          taken.servo.trans (congrArg (fun w : Servo => { w.enterHoldover with active := .none }) x_base)⟩
      · have rests : s.servo.held = true ∨
            (s.servo.state ≠ .locked ∧ (s.servo.state = .acquire → t.available other = false)) := by
          by_cases isAuto : auto
          · refine .inr ⟨fun locked => ?_, fun acquire => ?_⟩
            · cases room : t.available other with
              | true => exact noSwitch ⟨isAuto, ⟨isChanged, named, dead⟩, .inl locked, room⟩
              | false => exact noFall ⟨isAuto, ⟨isChanged, named, dead⟩, locked, room⟩
            · exact Bool.eq_false_iff.mpr fun room => noSwitch ⟨isAuto, ⟨isChanged, named, dead⟩, .inr acquire, room⟩
          · exact .inl (Bool.eq_true_of_not_eq_false isAuto)
        have is := drops isChanged named dead rests
        rw [is] at taken
        exact ⟨taken.exch.trans x_exch, taken.servo.trans (congrArg (fun w : Servo => { w with active := .none }) x_base)⟩
      · have isChanged : changed :=
          ⟨.pulse, fun same => Bool.false_ne_true (fresh.symm.trans (same.symm.trans (Bool.and_eq_true_iff.mp room).1))⟩
        obtain ⟨x_acquire, offered, x_elsewhere, x_still⟩ := offer_iff.mpr ⟨acquire, ⟨fresh, room, isAuto⟩, elsewhere, still⟩
        exact enters (offers (changes.mpr isChanged) (stands unlost isChanged) x_acquire offered x_elsewhere x_still)
      · have is := reverts (changes.mpr isChanged) (stands unlost isChanged)
          (passes_iff.mpr ⟨isAuto, locked, second, on, room, aged⟩)
        rw [is_primary] at is
        exact enters is
      · have is : z = x := by
          by_cases isChanged : changed
          · refine stays (.inr ⟨stands unlost isChanged, Bool.eq_false_iff.mpr fun passes => ?_, fun offered => ?_⟩)
            · obtain ⟨isAuto, locked, second, on, room, aged⟩ := passes_iff.mp passes
              exact noRevert ⟨isAuto, unlost, isChanged, locked, second, on, room, aged⟩
            · obtain ⟨acquire, ⟨fresh, room, isAuto⟩, elsewhere, still⟩ := offer_iff.mp offered
              exact noOffer ⟨isAuto, unlost, fresh, room, acquire, elsewhere, still⟩
          · exact stays (.inl (mt changes.mp isChanged))
        rw [is] at taken
        exact ⟨taken.exch.trans x_exch, taken.servo.trans x_base⟩
      · have gone : t.servo.mark primary ≠ s.servo.mark primary ↔
            u.ceases primary secondary e ∧ primary = .north ∧ s.servo.markN ≠ none := by
          rw [mark, ← moved]
          exact State.northMoved_mark_ne primary
        have expiry := State.northMoved_revertIn (s := u) (p := primary) (q := secondary) (e := e)
        rw [moved, Servo.rewritten_revertIn] at expiry
        rw [revert_t, expiry]
        exact if_congr gone.symm rfl rfl

end

end

section
/-! The evaluation of the racks (R142 to R151). -/

namespace Sys2Proof.Machine

/-! ### Members, offsets and their spread (R138, R145) -/

theorem Monitor.membersOf_eq (m : Monitor) (k : Nat) : m.membersOf k =
    (List.range m.origins.length).filter fun j => (m.origin j).enabled && (m.origin j).rack == k := by
  have indexed : m.origins.zipIdx = (List.range m.origins.length).map fun j => (m.origin j, j) :=
    List.ext_getElem (by simp) fun i low _ => by
      have inside : i < m.origins.length := by simpa using low
      simp [Monitor.origin, inside]
  rw [Monitor.membersOf, indexed, List.filter_map, List.map_map]
  exact List.map_id' _

theorem Monitor.lt_of_mem_membersOf {m : Monitor} {k j : Nat} (member : j ∈ m.membersOf k) : j < m.origins.length := by
  rw [Monitor.membersOf_eq] at member
  exact List.mem_range.mp (List.mem_filter.mp member).1

theorem foldl_max_eq {hi : Int} (l : List Int) (x : Int) (bound : ∀ y ∈ x :: l, y ≤ hi) (attained : hi ∈ x :: l) :
    l.foldl max x = hi := by
  induction l generalizing x with
  | nil => exact (List.mem_singleton.mp attained).symm
  | cons y l ih =>
    have first := bound x (by simp)
    have second := bound y (by simp)
    refine ih (max x y) (fun z mem => ?_) ?_
    · rcases List.mem_cons.mp mem with rfl | later
      · exact max_le first second
      · exact bound z (by simp [later])
    · rcases List.mem_cons.mp attained with rfl | later
      · exact List.mem_cons.mpr (.inl (max_eq_left second).symm)
      · rcases List.mem_cons.mp later with rfl | last
        · exact List.mem_cons.mpr (.inl (max_eq_right first).symm)
        · exact List.mem_cons.mpr (.inr last)

theorem foldl_min_eq {lo : Int} (l : List Int) (x : Int) (bound : ∀ y ∈ x :: l, lo ≤ y) (attained : lo ∈ x :: l) :
    l.foldl min x = lo := by
  induction l generalizing x with
  | nil => exact (List.mem_singleton.mp attained).symm
  | cons y l ih =>
    have first := bound x (by simp)
    have second := bound y (by simp)
    refine ih (min x y) (fun z mem => ?_) ?_
    · rcases List.mem_cons.mp mem with rfl | later
      · exact le_min first second
      · exact bound z (by simp [later])
    · rcases List.mem_cons.mp attained with rfl | later
      · exact List.mem_cons.mpr (.inl (min_eq_left second).symm)
      · rcases List.mem_cons.mp later with rfl | last
        · exact List.mem_cons.mpr (.inl (min_eq_right first).symm)
        · exact List.mem_cons.mpr (.inr last)

theorem spreadOf_eq {l : List Int} {hi lo : Int} (largest : hi ∈ l) (smallest : lo ∈ l) (between : ∀ x ∈ l, lo ≤ x ∧ x ≤ hi) :
    spreadOf l = some (hi - lo) := by
  cases l with
  | nil => cases largest
  | cons x l =>
    rw [spreadOf, foldl_max_eq l x (fun y mem => (between y mem).2) largest,
      foldl_min_eq l x (fun y mem => (between y mem).1) smallest]

/-! ### Server states set one by one (R144, R145, R151) -/

/-- What an entry's change of state tells the report engine: an entry into STRAY or a departure from it. -/
def ReportEngine.serverTold (rep : ReportEngine) (osc j : Nat) (e : OriginEntry) (after : ServerState) : ReportEngine :=
  if e.state ≠ after ∧ (e.state = .stray ∨ after = .stray) then
    rep.transition osc (.server j) (.server e.state) (.server after) (.server e.filtered e.rack)
  else rep

theorem State.setServer_eq (s : State) (j : Nat) (x : ServerState) : s.setServer j x =
    { s with
      mon := s.mon.modifyOrigin j fun _ => { s.mon.origin j with state := x }
      rep := s.rep.serverTold s.clock.osc j (s.mon.origin j) x } := by
  unfold State.setServer State.replaceOrigin ReportEngine.serverTold
  by_cases tells : (s.mon.origin j).state ≠ x ∧ ((s.mon.origin j).state = .stray ∨ x = .stray)
  · refine (if_pos tells).trans ?_
    rw [if_pos tells]
    rfl
  · refine (if_neg tells).trans ?_
    rw [if_neg tells]
    rfl

/-- A state that differs in the states of its servers, given by index, and in what the report engine was told. -/
structure State.ServersSet (s t : State) (stateOf : Nat → ServerState) : Prop where
  frame : t = { s with mon := { s.mon with origins := t.mon.origins }, rep := t.rep }
  length : t.mon.origins.length = s.mon.origins.length
  entries : ∀ i, t.mon.origin i = { s.mon.origin i with state := stateOf i }

section

variable {s t : State} {stateOf : Nat → ServerState}

theorem State.ServersSet.membersOf (set : s.ServersSet t stateOf) (k : Nat) : t.mon.membersOf k = s.mon.membersOf k := by
  simp only [Monitor.membersOf_eq, set.length, set.entries]

theorem State.ServersSet.offsetOf (set : s.ServersSet t stateOf) : t.mon.offsetOf = s.mon.offsetOf :=
  funext fun j => by simp only [Monitor.offsetOf, set.entries]

theorem State.ServersSet.rack (set : s.ServersSet t stateOf) (k : Nat) : t.mon.rack k = s.mon.rack k := by
  rw [set.frame]
  rfl

/-- Distinct servers whose states are set one by one: their transitions, and what is left. -/
theorem State.setServers_tells {l : List Nat} (distinct : l.Nodup) (inside : ∀ j ∈ l, j < s.mon.origins.length)
    (choice : Nat → ServerState) :
    let t := l.foldl (fun t j => t.setServer j (choice j)) s
    s.ServersSet t (fun i => if i ∈ l then choice i else (s.mon.origin i).state) ∧
      t.rep = l.foldl (fun rep j => rep.serverTold s.clock.osc j (s.mon.origin j) (choice j)) s.rep := by
  induction l using List.reverseRecOn with
  | nil => exact ⟨⟨rfl, rfl, fun i => by simp⟩, rfl⟩
  | append_singleton l j ih =>
    have parts := List.nodup_append.mp distinct
    have before := ih parts.1 fun i mem => inside i (List.mem_append.mpr (.inl mem))
    have fresh : j ∉ l := fun mem => parts.2.2 j mem j (by simp) rfl
    have within := inside j (by simp)
    revert before
    simp only [List.foldl_append, List.foldl_cons, List.foldl_nil]
    generalize l.foldl (fun t j => State.setServer t j (choice j)) s = t
    rintro ⟨⟨frame, length, entries⟩, told⟩
    have same : t.mon.origin j = s.mon.origin j := (entries j).trans (by rw [if_neg fresh])
    have osc : t.clock.osc = s.clock.osc := by rw [frame]
    rw [State.setServer_eq, same, osc, ← told]
    refine ⟨⟨?_, ?_, fun i => ?_⟩, rfl⟩
    · rw [frame]
      rfl
    · simpa [Monitor.modifyOrigin] using length
    · simp only [Monitor.modifyOrigin_origin, length, entries, List.mem_append, List.mem_singleton]
      by_cases here : i = j
      · subst here
        simp [within]
      · simp [here]

/-! ### The silence test (R144) -/

theorem OriginEntry.fallsSilent_eq (e : OriginEntry) (silence : Nat) (now : BitVec 32) : e.fallsSilent silence now =
    (e.state != .unseen && e.state != .silent && e.lastAt.any fun x => silence * 1000 ≤ (now - x).toNat) := by
  unfold OriginEntry.fallsSilent
  cases e.state <;> cases e.lastAt <;> rfl

/-- A member that an evaluation finds silent. -/
def State.isSilent (s : State) (j : Nat) : Bool := (s.mon.origin j).fallsSilent s.mon.silence s.clock.runCounter

/-- The silence test takes exactly the silent ones of some servers to SILENT. -/
theorem State.foldl_silenceMember {l : List Nat} (distinct : l.Nodup) (inside : ∀ j ∈ l, j < s.mon.origins.length) :
    l.foldl State.silenceMember s = (l.filter s.isSilent).foldl (fun t j => t.setServer j .silent) s := by
  induction l using List.reverseRecOn with
  | nil => rfl
  | append_singleton l j ih =>
    have parts := List.nodup_append.mp distinct
    have below : ∀ i ∈ l, i < s.mon.origins.length := fun i mem => inside i (List.mem_append.mpr (.inl mem))
    have fresh : j ∉ l.filter s.isSilent := fun mem => parts.2.2 j (List.mem_of_mem_filter mem) j (by simp) rfl
    have set := (State.setServers_tells (s := s) (parts.1.filter s.isSilent)
      (fun i mem => below i (List.mem_of_mem_filter mem)) fun _ => .silent).1
    rw [List.foldl_append, ih parts.1 below, List.filter_append, List.foldl_append]
    revert set
    generalize (l.filter s.isSilent).foldl (fun t j => State.setServer t j .silent) s = t
    intro set
    have same : t.mon.origin j = s.mon.origin j := (set.entries j).trans (by rw [if_neg fresh])
    have verdict : (t.mon.origin j).fallsSilent t.mon.silence t.clock.runCounter = s.isSilent j := by
      rw [same, set.frame]
      rfl
    by_cases silent : s.isSilent j = true
    · simp [State.silenceMember, verdict, silent]
    · simp [State.silenceMember, verdict, silent]

/-! ### Stray exclusion (R145) -/

/-- The servers among which an evaluation looks for strays. -/
def State.contenders (s : State) (k : Nat) : List Nat :=
  (s.mon.membersOf k).filter fun j => !s.isSilent j && (s.mon.origin j).isCandidate

/-- The offsets of the contenders. -/
def State.contended (s : State) (k : Nat) : List Int := (s.contenders k).map s.mon.offsetOf

/-- The state of a contender after stray exclusion. -/
def State.sortedState (s : State) (k j : Nat) : ServerState :=
  sortCandidate (s.contended k) (s.mon.rack k).config.strayLimit (s.mon.offsetOf j)

/-- The state of a server after an evaluation of a rack. -/
def State.evaluatedState (s : State) (k j : Nat) : ServerState :=
  if j ∈ (s.mon.membersOf k).filter s.isSilent then .silent
  else if j ∈ s.contenders k then s.sortedState k j
  else (s.mon.origin j).state

theorem State.loud_of_contends {s : State} {k j : Nat} (contends : j ∈ s.contenders k) :
    j ∉ (s.mon.membersOf k).filter s.isSilent := fun silent => by
  have loud := (Bool.and_eq_true_iff.mp (List.mem_filter.mp contends).2).1
  rw [(List.mem_filter.mp silent).2] at loud
  exact Bool.false_ne_true loud

theorem State.evaluatedState_of_contends {s : State} {k j : Nat} (contends : j ∈ s.contenders k) :
    s.evaluatedState k j = s.sortedState k j :=
  (if_neg (State.loud_of_contends contends)).trans (if_pos contends)

/-- S and SPLIT of a rack set from the offsets of its candidates. -/
def Rack.spreadFrom (r : Rack) (offsets : List Int) (config : RackConfig) : Rack :=
  { r with
    spread := spreadOf offsets
    split := tooFewRemain offsets config.strayLimit ||
      match spreadOf offsets with
      | some x => config.spreadLimit ≤ x
      | none => false }

theorem Rack.spreadFrom_split (r : Rack) (offsets : List Int) (config : RackConfig) :
    (r.spreadFrom offsets config).split = true ↔
      tooFewRemain offsets config.strayLimit = true ∨ ∃ x, spreadOf offsets = some x ∧ config.spreadLimit ≤ x := by
  rw [Rack.spreadFrom, Bool.or_eq_true]
  refine or_congr_right ?_
  cases spreadOf offsets <;> simp

/-- The silence test and stray exclusion on a rack's members: their transitions, and what is left. -/
theorem State.excludeStrays_tells (s : State) (k : Nat) :
    ∃ t, ((s.mon.membersOf k).foldl State.silenceMember s).excludeStrays k =
        t.setMon (t.mon.modifyRack k fun r => r.spreadFrom (s.contended k) (s.mon.rack k).config) ∧
      s.ServersSet t (s.evaluatedState k) ∧
      t.rep = (s.contenders k).foldl (fun rep j => rep.serverTold s.clock.osc j (s.mon.origin j) (s.sortedState k j))
        (((s.mon.membersOf k).filter s.isSilent).foldl
          (fun rep j => rep.serverTold s.clock.osc j (s.mon.origin j) .silent) s.rep) := by
  have within : ∀ j ∈ s.mon.membersOf k, j < s.mon.origins.length := fun _ => Monitor.lt_of_mem_membersOf
  have distinct := s.mon.membersOf_nodup k
  obtain ⟨set, told⟩ := State.setServers_tells (s := s) (distinct.filter s.isSilent)
    (fun i mem => within i (List.mem_of_mem_filter mem)) fun _ => .silent
  rw [State.foldl_silenceMember distinct within]
  revert set told
  generalize ((s.mon.membersOf k).filter s.isSilent).foldl (fun t j => State.setServer t j .silent) s = u
  intro set told
  have unsilenced : ∀ j ∈ s.mon.membersOf k, s.isSilent j = false → u.mon.origin j = s.mon.origin j := fun j _ loud => by
    rw [set.entries, if_neg fun mem => Bool.false_ne_true (loud.symm.trans (List.mem_filter.mp mem).2)]
  have contenders : u.mon.candidates k = s.contenders k := by
    rw [Monitor.candidates, set.membersOf]
    refine List.filter_congr fun j member => ?_
    by_cases silent : s.isSilent j = true
    · rw [set.entries, if_pos (List.mem_filter.mpr ⟨member, silent⟩), silent]
      rfl
    · have loud := Bool.eq_false_iff.mpr silent
      rw [unsilenced j member loud, loud]
      rfl
  have offsets : (u.mon.candidates k).map u.mon.offsetOf = s.contended k := by rw [contenders, set.offsetOf]; rfl
  have same : ∀ j ∈ s.contenders k, u.mon.origin j = s.mon.origin j := fun j mem => by
    obtain ⟨member, loud⟩ := List.mem_filter.mp mem
    exact unsilenced j member (by simpa using (Bool.and_eq_true_iff.mp loud).1)
  obtain ⟨sorted, sortedTold⟩ := State.setServers_tells (s := u) (l := s.contenders k) (distinct.filter _)
    (fun i mem => set.length ▸ within i (List.mem_of_mem_filter mem)) (s.sortedState k)
  refine ⟨_, ?_, ⟨?_, sorted.length.trans set.length, fun i => ?_⟩, sortedTold.trans ?_⟩
  · unfold State.excludeStrays
    dsimp only
    rw [offsets, contenders, set.rack, set.offsetOf]
    rfl
  · refine sorted.frame.trans ?_
    rw [set.frame]
  · have sorts := sorted.entries i
    have silences := set.entries i
    rw [silences] at sorts
    refine sorts.trans (congrArg (fun x => { s.mon.origin i with state := x }) ?_)
    unfold State.evaluatedState
    by_cases contends : i ∈ s.contenders k
    · rw [if_pos contends, if_neg (State.loud_of_contends contends), if_pos contends]
    · rw [if_neg contends, if_neg contends]
  · rw [told]
    refine List.foldl_ext _ _ _ fun rep j mem => ?_
    rw [same j mem, set.frame]

/-! ### A rack's figures and its judgement (R142, R146, R147, R149, R150) -/

/-- A rack's figures formed over the offsets of its TRACKING members. -/
def Rack.formedFrom (r : Rack) (figures : List Int) (interval : Nat) : Rack :=
  { r with
    members := figures.length
    mean := if figures = [] then none else some (meanOf figures)
    rate := if figures ≠ [] ∧ r.prevValid = true then some ((meanOf figures - r.prevMean).tdiv interval) else none
    drill := r.config.drillOffset != 0 }

/-- The offsets of a rack's TRACKING members. -/
def Monitor.figuresOf (m : Monitor) (k : Nat) : List Int :=
  ((m.membersOf k).filter fun j => (m.origin j).state == .tracking).map m.offsetOf

theorem Monitor.rackFigures_eq (m : Monitor) (k : Nat) :
    m.rackFigures k = (m.rack k).formedFrom (m.figuresOf k) m.interval := by
  unfold Monitor.rackFigures Rack.formedFrom Monitor.figuresOf
  dsimp only
  generalize (((m.membersOf k).filter fun j => (m.origin j).state == .tracking).map m.offsetOf) = figures
  cases figures <;> simp

theorem Rack.confirm_eq (r : Rack) (c : Level) : r.confirm c =
    { r with
      state := (r.confirm c).state, pending := (r.confirm c).pending, pendingCount := (r.confirm c).pendingCount } := by
  unfold Rack.confirm Rack.pend
  split_ifs <;> rfl

theorem Rack.closeEvaluation_unjudged (r : Rack) : r.closeEvaluation false = { r with prevValid := false } := by
  unfold Rack.closeEvaluation
  split <;> rfl

theorem Rack.closeEvaluation_judged {r : Rack} {x : Int} (mean : r.mean = some x) :
    r.closeEvaluation true = { r with prevMean := x, prevValid := true } := by
  unfold Rack.closeEvaluation
  split <;> simp_all

section

variable (r : Rack) {figures : List Int} (interval : Nat)

theorem Rack.judge_empty (closed : Bool) (none_ : figures = []) : (r.formedFrom figures interval).judge closed =
    { r.formedFrom figures interval with state := .quiet, pending := none, pendingCount := 0, prevValid := false } := by
  subst none_
  refine (if_pos rfl).trans ((Rack.closeEvaluation_unjudged _).trans ?_)
  simp [Rack.formedFrom]

theorem Rack.judge_closed (some_ : figures ≠ []) : (r.formedFrom figures interval).judge true =
    { r.formedFrom figures interval with state := .unjudged, pending := none, pendingCount := 0, prevValid := false } := by
  have members : (r.formedFrom figures interval).members ≠ 0 := mt List.length_eq_zero_iff.mp some_
  exact (if_neg members).trans ((if_pos rfl).trans (Rack.closeEvaluation_unjudged _))

theorem Rack.judge_opened (some_ : figures ≠ []) :
    let f := r.formedFrom figures interval
    f.judge false = { f.confirm f.candidate with prevMean := meanOf figures, prevValid := true } := by
  intro f
  have members : f.members ≠ 0 := mt List.length_eq_zero_iff.mp some_
  have mean : (f.confirm f.candidate).mean = some (meanOf figures) := by
    rw [Rack.confirm_eq]
    exact if_neg some_
  exact (if_neg members).trans ((if_neg Bool.false_ne_true).trans (Rack.closeEvaluation_judged mean))

/-- What a judgement leaves of a rack's figures. -/
theorem Rack.judge_eq (closed : Bool) :
    let f := r.formedFrom figures interval
    let j := f.judge closed
    j = { f with
      state := j.state, pending := j.pending, pendingCount := j.pendingCount, prevMean := j.prevMean, prevValid := j.prevValid } := by
  intro f j
  by_cases none_ : figures = []
  · simp only [j, f, r.judge_empty interval closed none_]
  · cases closed with
    | true => simp only [j, f, r.judge_closed interval none_]
    | false =>
      have opened : j = { f.confirm f.candidate with prevMean := meanOf figures, prevValid := true } := r.judge_opened interval none_
      rw [opened, Rack.confirm_eq]

end

theorem State.replaceRack_eq (s : State) (k : Nat) (r : Rack) : s.replaceRack k r =
    { s with
      mon := s.mon.modifyRack k fun _ => { r with
        lastTransition := if r.state = (s.mon.rack k).state then r.lastTransition else some s.clock.runCounter }
      rep := if r.state = (s.mon.rack k).state then s.rep
        else s.rep.transition s.clock.osc (.rack k) (.rack (s.mon.rack k).state) (.rack r.state) r.snapshot } := by
  unfold State.replaceRack
  by_cases same : r.state = (s.mon.rack k).state
  · refine (if_pos same.symm).trans ?_
    rw [if_pos same, if_pos same]
    rfl
  · refine (if_neg (Ne.symm same)).trans ?_
    rw [if_neg same, if_neg same]
    rfl

/-- The evaluation of an enabled rack: its transitions, its figures and judgement, and what is left. -/
theorem State.evaluateRack_tells {s : State} {k : Nat} (inside : k < s.mon.racks.length)
    (on : (s.mon.rack k).config.enabled = true) :
    let t := s.evaluateRack k
    let old := s.mon.rack k
    let judged := ((old.spreadFrom (s.contended k) old.config).formedFrom (t.mon.figuresOf k) s.mon.interval).judge s.gateClosed
    let sorted := (s.contenders k).foldl (fun rep j => rep.serverTold s.clock.osc j (s.mon.origin j) (s.sortedState k j))
      (((s.mon.membersOf k).filter s.isSilent).foldl
        (fun rep j => rep.serverTold s.clock.osc j (s.mon.origin j) .silent) s.rep)
    t = { s with mon := { s.mon with origins := t.mon.origins, racks := t.mon.racks }, rep := t.rep } ∧
      (∀ j, t.mon.origin j = { s.mon.origin j with state := s.evaluatedState k j }) ∧
      (∀ i, i ≠ k → t.mon.rack i = s.mon.rack i) ∧
      t.mon.rack k = { judged with
        lastTransition := if judged.state = old.state then judged.lastTransition else some s.clock.runCounter } ∧
      t.rep = if judged.state = old.state then sorted
        else sorted.transition s.clock.osc (.rack k) (.rack old.state) (.rack judged.state) judged.snapshot := by
  intro t old judged sorted
  obtain ⟨u, excluded, set, told⟩ := s.excludeStrays_tells k
  have inRange : k < u.mon.racks.length := by rw [set.frame]; exact inside
  obtain ⟨v, is⟩ : ∃ v, u.setMon (u.mon.modifyRack k fun r => r.spreadFrom (s.contended k) old.config) = v := ⟨_, rfl⟩
  have rack : v.mon.rack k = old.spreadFrom (s.contended k) old.config := by
    rw [← is]
    refine (Monitor.modifyRack_rack _ _ _ _).trans ((if_pos ⟨rfl, inRange⟩).trans ?_)
    rw [set.rack]
  have frame : v = { s with mon := { s.mon with origins := u.mon.origins, racks := v.mon.racks }, rep := u.rep } := by
    rw [← is]
    obtain ⟨origins, rep, shape⟩ : ∃ o r, u = { s with mon := { s.mon with origins := o }, rep := r } := ⟨_, _, set.frame⟩
    rw [shape]
    rfl
  have made : t = v.replaceRack k ((v.mon.rackFigures k).judge v.gateClosed) := by
    refine (if_pos on).trans ?_
    rw [excluded, is]
  have gate : v.gateClosed = s.gateClosed := by rw [frame]; rfl
  have interval : v.mon.interval = s.mon.interval := by rw [frame]
  have clock : v.clock = s.clock := by rw [frame]
  have told' : v.rep = sorted := by rw [frame]; exact told
  have within : k < v.mon.racks.length := by
    rw [← is]
    exact (List.length_modify ..).symm ▸ inRange
  have origins (j : Nat) : v.mon.origin j = u.mon.origin j := by rw [← is]; rfl
  rw [Monitor.rackFigures_eq, rack, State.replaceRack_eq, rack, gate, interval, clock, told'] at made
  have figures : t.mon.figuresOf k = v.mon.figuresOf k := by rw [made]; rfl
  rw [← figures] at made
  refine ⟨?_, fun j => ?_, fun i other => ?_, ?_, ?_⟩
  · obtain ⟨origins, racks, rep, shape⟩ : ∃ o x r, v = { s with mon := { s.mon with origins := o, racks := x }, rep := r } :=
      ⟨_, _, _, frame⟩
    rw [made, shape]
    rfl
  · rw [← set.entries, ← origins, made]
    rfl
  · refine (congrArg (fun x : State => x.mon.rack i) made).trans ((Monitor.modifyRack_rack _ _ _ _).trans
      ((if_neg fun here => other here.1).trans ?_))
    rw [← is]
    refine (Monitor.modifyRack_rack _ _ _ _).trans ((if_neg fun here => other here.1).trans (set.rack i))
  · exact (congrArg (fun x : State => x.mon.rack k) made).trans ((Monitor.modifyRack_rack _ _ _ _).trans (if_pos ⟨rfl, within⟩))
  · exact congrArg State.rep made

end

end Sys2Proof.Machine

section

open Sys2Proof Sys2Proof.Machine

/-- Settles O49. -/
theorem evaluationJudgesEachEnabledRack : Obligations.EvaluationJudgesEachEnabledRack := by
  refine ⟨fun m k => ⟨m.membersOf_eq k, fun j => rfl⟩, fun l => ⟨fun e => e ▸ rfl, fun hi top lo bottom => spreadOf_eq top bottom⟩,
    fun s running due => congrArg Host.Outcome.next (State.takeIf_of_due s _ _ running (by simp [State.evaluationDue, due])),
    fun s k off => if_neg (Bool.eq_false_iff.mp off), fun s k inside on => ?_⟩
  intro t old new member longAgo silent candidates offsets mean0 near few figures mean formed closed decided stateOf tells silenced
    sorted
  have silent_eq : s.isSilent = silent := funext fun j => OriginEntry.fallsSilent_eq _ _ _
  have candidates_eq : s.contenders k = candidates := List.filter_congr fun j _ => by rw [silent_eq]; rfl
  have offsets_eq : s.contended k = offsets := by rw [State.contended, candidates_eq]
  have sorted_eq : ∀ j, s.sortedState k j =
      if offsets.length < 3 ∨ few = true ∨ near (s.mon.offsetOf j) = true then .tracking else .stray := fun j => by
    rw [State.sortedState, offsets_eq]
    rfl
  have few_eq : tooFewRemain offsets old.config.strayLimit = few := rfl
  have state_eq : s.evaluatedState k = stateOf := funext fun j => by
    have isMember : j ∈ s.mon.membersOf k ↔ member j = true := by
      rw [Monitor.mem_membersOf]
      simp [member]
    unfold State.evaluatedState
    rw [candidates_eq, silent_eq, sorted_eq]
    by_cases inRack : member j = true
    · by_cases quiet : silent j = true
      · refine (if_pos (List.mem_filter.mpr ⟨isMember.mpr inRack, quiet⟩)).trans ?_
        exact ((if_neg (by simp [inRack])).trans (if_pos quiet)).symm
      · refine (if_neg fun mem => quiet (List.mem_filter.mp mem).2).trans ?_
        refine Eq.trans ?_ ((if_neg (by simp [inRack])).trans (if_neg quiet)).symm
        exact (ite_not _ _ _).symm
    · refine (if_neg fun mem => inRack (isMember.mp (List.mem_filter.mp mem).1)).trans ?_
      refine (if_neg fun mem => inRack (isMember.mp (List.mem_filter.mp mem).1)).trans ?_
      exact (if_pos (Bool.eq_false_iff.mpr inRack)).symm
  obtain ⟨frame, entries, racks, rack, told⟩ := State.evaluateRack_tells inside on
  have sorted_told : (s.contenders k).foldl (fun rep j => rep.serverTold s.clock.osc j (s.mon.origin j) (s.sortedState k j))
      (((s.mon.membersOf k).filter s.isSilent).foldl
        (fun rep j => rep.serverTold s.clock.osc j (s.mon.origin j) .silent) s.rep) = sorted := by
    rw [List.foldl_filter, silent_eq]
    refine (List.foldl_ext _ _ _ fun rep j contends => ?_).trans (congrArg (List.foldl _ silenced) candidates_eq)
    rw [← State.evaluatedState_of_contends contends, state_eq]
    rfl
  rw [sorted_told, offsets_eq] at told
  rw [offsets_eq] at rack
  obtain ⟨f, f_eq⟩ : ∃ f, (old.spreadFrom offsets old.config).formedFrom figures s.mon.interval = f := ⟨_, rfl⟩
  obtain ⟨j, j_eq⟩ : ∃ j, f.judge s.gateClosed = j := ⟨_, rfl⟩
  have kept : j = { f with
      state := j.state, pending := j.pending, pendingCount := j.pendingCount, prevMean := j.prevMean, prevValid := j.prevValid } := by
    rw [← j_eq, ← f_eq]
    exact Rack.judge_eq _ _ _
  have empty (none_ : figures = []) :
      j = { f with state := .quiet, pending := none, pendingCount := 0, prevValid := false } := by
    rw [← j_eq, ← f_eq]
    exact Rack.judge_empty _ _ _ none_
  have shut (some_ : figures ≠ []) (closes : s.gateClosed = true) :
      j = { f with state := .unjudged, pending := none, pendingCount := 0, prevValid := false } := by
    rw [← j_eq, ← f_eq, closes]
    exact Rack.judge_closed _ _ some_
  have opened (some_ : figures ≠ []) (opens : s.gateClosed = false) :
      j = { f.confirm f.candidate with prevMean := mean, prevValid := true } := by
    rw [← j_eq, ← f_eq, opens]
    exact Rack.judge_opened _ _ some_
  have last : j.lastTransition = old.lastTransition := by rw [kept, ← f_eq]; rfl
  have prev : f.prevMean = old.prevMean := by rw [← f_eq]; rfl
  have isNew : new = { j with
      lastTransition := if j.state = old.state then j.lastTransition else some s.clock.runCounter } := by
    rw [← j_eq, ← f_eq]
    exact rack
  have told' : t.rep = if j.state = old.state then sorted
      else sorted.transition s.clock.osc (.rack k) (.rack old.state) (.rack j.state) j.snapshot := by
    rw [← j_eq, ← f_eq]
    exact told
  have spread : new.spread = spreadOf offsets := by rw [isNew, kept, ← f_eq]; rfl
  have split_ : new.split = ((old.spreadFrom offsets old.config).split) := by rw [isNew, kept, ← f_eq]; rfl
  have isFormed : formed = f := by
    simp only [formed, spread, split_, ← f_eq]
    rfl
  have state : new.state = j.state := by rw [isNew]
  have gate : s.gateClosed = true ↔ closed := by simp [State.gateClosed, closed]
  refine ⟨?_, fun i => ?_, spread, ?_, ?_, ?_, fun none_ => ?_, fun some_ shuts => ?_, fun some_ opens => ?_, ?_, racks, frame⟩
  · rw [told', state, isNew]
    rfl
  · rw [← state_eq]
    exact entries i
  · rw [split_, Rack.spreadFrom_split, ← few_eq]
  · rw [isFormed, isNew, kept]
  · rw [isFormed, isNew, kept]
  · rw [isNew, empty none_]
    exact ⟨rfl, rfl, rfl, rfl, prev⟩
  · rw [isNew, shut some_ (gate.mpr shuts)]
    exact ⟨rfl, rfl, rfl, rfl, prev⟩
  · have confirmed : decided = f.confirm f.candidate := by rw [← isFormed]
    rw [isNew, opened some_ (Bool.eq_false_iff.mpr (mt gate.mp opens)), confirmed]
    exact ⟨rfl, rfl, rfl, rfl, rfl⟩
  · rw [state, isNew, last]

end
end

section
/-! Writes of the settings that have no step of their own (R168, R169). -/

namespace Sys2Proof.Machine

/-! ### What the settings read -/

/-- The stored values of the settings, in the order of their ids (R169). -/
def State.settings (s : State) : List Int := s.settingsLow ++ s.settingsMiddle ++ s.settingsHigh ++ s.settingsPulse

theorem State.settings_length (s : State) : s.settings.length = 65 := rfl

/-- One setting is stored, and every other reads as before. -/
def State.Stored (s t : State) (id : Nat) (x : Int) : Prop :=
  t.settingValue id = some x ∧ ∀ other, other ≠ id → t.settingValue other = s.settingValue other

section

variable {s t : State} {id : Nat} {x : Int}

theorem State.settingValue_congr (same : t.settings = s.settings) : t.settingValue = s.settingValue := by
  funext i
  change (if i = 0 then none else t.settings[i - 1]?) = if i = 0 then none else s.settings[i - 1]?
  rw [same]

theorem State.stored_of_set (set : t.settings = s.settings.set (id - 1) x) (named : (id != 0 && decide (id ≤ 65)) = true) : s.Stored t id x := by
  obtain ⟨low, high⟩ : id ≠ 0 ∧ id ≤ 65 := by simpa using named
  have inside : id - 1 < s.settings.length := by rw [State.settings_length]; omega
  refine ⟨?_, fun other ne => ?_⟩
  · refine (if_neg low).trans ?_
    change t.settings[id - 1]? = _
    rw [set, List.getElem?_set_self inside]
  · change (if other = 0 then none else t.settings[other - 1]?) = if other = 0 then none else s.settings[other - 1]?
    by_cases zero : other = 0
    · rw [if_pos zero, if_pos zero]
    · rw [if_neg zero, if_neg zero, set, List.getElem?_set_ne (by omega)]

theorem State.Stored.congr (stored : s.Stored t id x) {u : State} (same : u.settings = t.settings) : s.Stored u id x := by
  rw [State.Stored, State.settingValue_congr same]
  exact stored

theorem State.settings_setLine (s : State) (line : Line) (l : LineState) : (s.setLine line l).settings = s.settings := by
  cases line <;> rfl

theorem State.settings_join (s : State) (line : Line) (f : OwnFrame) : (s.join line f).settings = s.settings := by
  refine Eq.trans ?_ (s.settings_setLine line { s.lineAt line with origin := (s.lineAt line).origin ++ [f] })
  unfold State.join State.pickAtJoining
  split
  · exact State.settings_setLine _ _ _
  · rfl

theorem State.settings_fill (s : State) (line : Line) : (s.fill line).settings = s.settings := by
  refine State.fill_keeps (fun t => t.settings = s.settings) (fun t line f h _ => (t.settings_join line f).trans h)
    (fun t line f t' h offered => ?_) line s rfl
  rcases State.offer_cases offered with o | o | o | o | o | o
  · obtain ⟨e, rest, -, -, rfl⟩ := State.takeReply_eq o; exact h
  · obtain ⟨-, rfl⟩ := State.takeGrade_eq o; exact h
  · obtain ⟨-, rfl⟩ := State.takeQuery_eq o; exact h
  · obtain ⟨w, -, -, rfl⟩ := State.takeNotice_eq o; exact h
  · obtain ⟨w, -, -, rfl⟩ := State.takeDateReport_eq o; exact h
  · obtain ⟨-, -, rfl⟩ := State.takeSummary_eq o; exact h

end
/-! ### The pulse lines (R160) -/

/-- A setting of one pulse line is stored. -/
theorem State.settings_modifyPulse {s : State} {k field : Nat} {x : Int} {f : PulseLine → PulseLine} (line : k < 4)
    (four : s.rep.pulseLines.length = 4) (place : field < 5)
    (sets : ∀ p j, j < 5 → (f p).setting j = if j = field then x else p.setting j) :
    (s.setRep (s.rep.modifyPulse k f)).settings = s.settings.set (45 + (5 * k + field)) x := by
  have pulse : (s.setRep (s.rep.modifyPulse k f)).settingsPulse = s.settingsPulse.set (5 * k + field) x := by
    refine List.ext_getElem (by simp [State.settingsPulse]) fun n low _ => ?_
    have inside : n < 20 := by simpa [State.settingsPulse] using low
    have read (i : Nat) : (s.rep.modifyPulse k f).pulseLine i = if i = k then f (s.rep.pulseLine i) else s.rep.pulseLine i := by
      refine (getD_modify _ _ _ _ _).trans (if_congr ⟨And.left, fun here => ⟨here, by omega⟩⟩ rfl rfl)
    rw [List.getElem_set]
    simp only [State.settingsPulse, List.getElem_map, List.getElem_range, State.setRep_rep, read]
    by_cases here : 5 * k + field = n
    · have quotient : n / 5 = k := by omega
      have remainder : n % 5 = field := by omega
      rw [if_pos here, if_pos quotient, sets _ _ (by omega), if_pos remainder]
    · rw [if_neg here]
      by_cases quotient : n / 5 = k
      · rw [if_pos quotient, sets _ _ (by omega), if_neg (by omega)]
      · rw [if_neg quotient]
  unfold State.settings
  have before : (s.settingsLow ++ s.settingsMiddle ++ s.settingsHigh).length = 45 := rfl
  rw [pulse, List.set_append_right _ _ (by rw [before]; exact Nat.le_add_right _ _), before, Nat.add_sub_cancel_left]
  rfl

/-! ### The writes -/

theorem writeType_eq (s : State) (other : BitVec 16) (v : BitVec 64) (store : BitVec 16 → State) : writeType s other v store =
    if 0x0600 ≤ v.toNat ∧ v.toNat ≤ 0xFFFF ∧ v.toNat ≠ 0x8100 ∧ v.toNat ≠ other.toNat then accept (store (v.setWidth 16))
    else refuse s .badValue := by
  have complement : (v.toNat < 0x0600 ∨ 0xFFFF < v.toNat ∨ v.toNat = vlanType ∨ v.toNat = other.toNat) ↔
      ¬(0x0600 ≤ v.toNat ∧ v.toNat ≤ 0xFFFF ∧ v.toNat ≠ 0x8100 ∧ v.toNat ≠ other.toNat) := by
    simp only [vlanType]
    omega
  exact (if_congr complement rfl rfl).trans (ite_not _ _ _)

theorem tagValue_tagFrom {v : BitVec 64} (small : v.toNat < 32768) : tagValue (some (tagFrom v)) = v.toNat := by
  have bits : (tagFrom v).toNat = v.toNat / 4096 * 8192 + v.toNat % 4096 := by
    rw [tagFrom, BitVec.toNat_ofNat, Nat.mod_eq_of_lt (by omega)]
  rw [tagValue, bits]
  omega

/-- The settings of the blocks before the report engine's pulse lines end at 45. -/
theorem State.writePlain_of_pulse (s : State) {id : Nat} (v : BitVec 64) (outside : id = 0 ∨ 45 < id) :
    s.writePlain id v = (s.writePulseId id v).getD (refuse s .badIndex) := by
  have low : s.writeLow id v = none := by unfold State.writeLow; split <;> simp_all
  have exchange : s.writeExchange id v = none := by unfold State.writeExchange; split <;> simp_all
  have servo : s.writeServo id v = none := by unfold State.writeServo; split <;> simp_all
  have south : s.writeSouthMonitor id v = none := by unfold State.writeSouthMonitor; split <;> simp_all
  have report : s.writeReport id v = none := by unfold State.writeReport; split <;> simp_all
  rw [State.writePlain, low, exchange, servo, south, report]
  rfl

theorem State.writePlain_unnamed (s : State) {id : Nat} (v : BitVec 64) (unnamed : id = 0 ∨ 65 < id) :
    s.writePlain id v = refuse s .badIndex := by
  have pulse : s.writePulseId id v = none := if_neg (by omega)
  rw [s.writePlain_of_pulse v (by omega), pulse]
  rfl

/-- A pulse line's setting is found by its line and its place within it. -/
theorem State.writePlain_pulse (s : State) {k field : Nat} (v : BitVec 64) (line : k < 4) (place : field < 5) :
    s.writePlain (46 + (5 * k + field)) v = (s.writePulsePlain k field v).getD (refuse s .badIndex) := by
  have quotient : (46 + (5 * k + field) - 46) / 5 = k := by omega
  have remainder : (46 + (5 * k + field) - 46) % 5 = field := by omega
  have found : s.writePulseId (46 + (5 * k + field)) v = s.writePulsePlain k field v := by
    rw [State.writePulseId, if_pos (by omega), quotient, remainder]
  rw [s.writePlain_of_pulse v (by omega), found]

theorem hasOwnStep_pulse {k field : Nat} (plain : 2 ≤ field) (place : field < 5) :
    hasOwnStep (46 + (5 * k + field)) = false := by
  simp [hasOwnStep]
  omega

theorem hasOwnStep_unnamed {id : Nat} (unnamed : id = 0 ∨ 65 < id) : hasOwnStep id = false := by
  rcases unnamed with rfl | high
  · rfl
  · simp [hasOwnStep]
    omega

section

variable {s : State} {r : Request} {id : Nat} {v : BitVec 64} {lo hi : Int} {store : Int → State}

theorem exec_writeSetting (item : s.currentItem = some (r, .writeSetting id v)) (dt : Nat) (shared : hasOwnStep id = false)
    {p : State × ItemResult} (writes : (s.runBy dt).writePlain id v = p) :
    exec (.writeSetting dt) s = .next (p.1.finishItem r p.2) := by
  subst writes
  exact congrArg Host.Outcome.next (State.carryOut_runBy item dt (if_neg (Bool.eq_false_iff.mp shared)))

/-- A numeric tuning value is stored at its value or at the nearer limit. -/
theorem State.number_stored (item : s.currentItem = some (r, .writeSetting id v)) (dt : Nat) (shared : hasOwnStep id = false)
    (writes : (s.runBy dt).writePlain id v = writeNumber lo hi v.toInt store) (named : (id != 0 && decide (id ≤ 65)) = true)
    (sets : ∀ x, lo ≤ x → (store x).settings = (s.runBy dt).settings.set (id - 1) x) :
    let kept := max lo (min hi v.toInt)
    exec (.writeSetting dt) s = .next ((store kept).finishItem r
        (if kept = v.toInt then { status := .ok, content := [] } else { status := .clamped, content := signedBytes 8 kept })) ∧
      (s.runBy dt).Stored (store kept) id kept :=
  ⟨exec_writeSetting item dt shared writes, State.stored_of_set (sets _ (le_max_left _ _)) named⟩

theorem sets_of_natural {settings : List Int} {i : Nat} (natural : 0 ≤ lo)
    (sets : ∀ n : Nat, (store n).settings = settings.set i n) (x : Int) (least : lo ≤ x) :
    (store x).settings = settings.set i x := by
  have cast : ((x.toNat : Nat) : Int) = x := Int.toNat_of_nonneg (by omega)
  rw [← cast]
  exact sets x.toNat

/-- A structural value is stored where it is legal, and refused with nothing stored where it is not. -/
theorem State.choice_stored (item : s.currentItem = some (r, .writeSetting id v)) (dt : Nat) (shared : hasOwnStep id = false)
    {legal : Prop} [Decidable legal] {t : State} {x : Int}
    (writes : (s.runBy dt).writePlain id v = if legal then accept t else refuse (s.runBy dt) .badValue) (named : (id != 0 && decide (id ≤ 65)) = true) (sets : legal → t.settings = (s.runBy dt).settings.set (id - 1) x) :
    (legal → exec (.writeSetting dt) s = .next (t.finishItem r { status := .ok, content := [] }) ∧
        (s.runBy dt).Stored t id x) ∧
      (¬legal → exec (.writeSetting dt) s = .next ((s.runBy dt).finishItem r { status := .badValue, content := [] })) :=
  ⟨fun fits => ⟨exec_writeSetting item dt shared (writes.trans (if_pos fits)), State.stored_of_set (sets fits) named⟩,
    fun odd => exec_writeSetting item dt shared (writes.trans (if_neg odd))⟩

end

end Sys2Proof.Machine

section

open Sys2Proof Sys2Proof.Machine

/-- Settles O56. -/
theorem settingsAreStoredClampedOrRefused : Obligations.SettingsAreStoredClampedOrRefused := by
  intro s dt r id v item u stored lines exch servo south mon rep heldOff ok refused clamped numbers
  refine ⟨fun x mem at_ => ?_, fun own => ?_, fun own => ?_, fun own => ?_, fun own => ?_, fun own => ?_, fun k line four => ?_, fun none_ => ?_⟩
  · simp only [numbers, List.mem_cons, List.not_mem_nil, or_false] at mem
    rcases mem with rfl | rfl | rfl | rfl | rfl | rfl | rfl | rfl | rfl | rfl | rfl | rfl | rfl | rfl | rfl | rfl | rfl | rfl | rfl
    all_goals subst at_
    iterate 2
      exact State.number_stored item dt rfl rfl rfl (sets_of_natural (by dsimp only; decide) fun n => rfl)
    · exact State.number_stored item dt rfl rfl rfl fun x _ => rfl
    iterate 4
      exact State.number_stored item dt rfl rfl rfl (sets_of_natural (by dsimp only; decide) fun n => rfl)
    · exact State.number_stored item dt rfl rfl rfl fun x _ => rfl
    iterate 5
      exact State.number_stored item dt rfl rfl rfl (sets_of_natural (by dsimp only; decide) fun n => rfl)
    · exact State.number_stored item dt rfl rfl rfl fun x _ => rfl
    iterate 4
      exact State.number_stored item dt rfl rfl rfl (sets_of_natural (by dsimp only; decide) fun n => rfl)
    · exact State.number_stored item dt rfl rfl rfl (sets_of_natural (by dsimp only; decide) fun n => State.settings_fill _ _)
  · intro on t
    have value (flag : v.toNat ≤ 1) : flagValue (v.toNat == 1) = v.toNat := by
      unfold flagValue
      split
      · simp_all
      · simp_all
        omega
    have bit : (v.toNat == 1) = on := by
      rw [Bool.eq_iff_iff, beq_iff_eq, beq_iff_eq]
      exact BitVec.toNat_inj (y := 1#64)
    have written : (u.writePlain id v = if v.toNat ≤ 1 then accept t else refuse u .badValue) ∧
        (v.toNat ≤ 1 → t.settings = u.settings.set (id - 1) v.toNat) := by
      simp only [t, ← bit]
      rcases own with rfl | rfl <;> exact ⟨rfl, fun flag => value flag ▸ rfl⟩
    obtain ⟨stores, refuses⟩ := State.choice_stored item dt (by rcases own with rfl | rfl <;> rfl) written.1
      (by rcases own with rfl | rfl <;> rfl) written.2
    exact ⟨stores, fun high => refuses (Nat.not_le.mpr high)⟩
  · intro t
    have written : (u.writePlain id v = if v.toNat ≤ 255 then accept t else refuse u .badValue) ∧
        t.settings = u.settings.set (id - 1) v.toNat := by
      rcases own with rfl | rfl <;> exact ⟨rfl, rfl⟩
    obtain ⟨stores, refuses⟩ := State.choice_stored item dt (by rcases own with rfl | rfl <;> rfl) written.1
      (by rcases own with rfl | rfl <;> rfl) fun _ => written.2
    exact ⟨stores, fun high => refuses (Nat.not_le.mpr high)⟩
  · intro a group t
    have written : (u.writePlain id v = if a.getLsbD 40 = group then accept t else refuse u .badValue) ∧
        t.settings = u.settings.set (id - 1) a.toNat := by
      rcases own with rfl | rfl <;> exact ⟨rfl, rfl⟩
    exact State.choice_stored item dt (by rcases own with rfl | rfl <;> rfl) written.1
      (by rcases own with rfl | rfl <;> rfl) fun _ => written.2
  · intro otherType legal type t
    have written : (u.writePlain id v = if legal then accept t else refuse u .badValue) ∧
        (legal → t.settings = u.settings.set (id - 1) v.toNat) := by
      have whole (fits : legal) : v.toNat = type.toNat := by
        obtain ⟨-, high, -, -⟩ := fits
        rw [BitVec.toNat_setWidth, Nat.mod_eq_of_lt (by omega)]
      rcases own with rfl | rfl
      · have row : u.writePlain 3 v = writeType u u.lines.managementType v fun t => lines fun l => { l with timingType := t } := rfl
        exact ⟨row.trans (writeType_eq _ _ _ _), fun fits => whole fits ▸ rfl⟩
      · have row : u.writePlain 4 v = writeType u u.lines.timingType v fun t => lines fun l => { l with managementType := t } := rfl
        exact ⟨row.trans (writeType_eq _ _ _ _), fun fits => whole fits ▸ rfl⟩
    exact State.choice_stored item dt (by rcases own with rfl | rfl <;> rfl) written.1
      (by rcases own with rfl | rfl <;> rfl) written.2
  · intro tagged tag
    subst own
    have written : u.writePlain 43 v = writeTag u v tagged := rfl
    refine ⟨fun absent => ⟨?_, ?_⟩, fun present => ⟨?_, ?_⟩, fun top odd => ?_⟩
    · exact exec_writeSetting item dt rfl (written.trans (if_pos absent))
    · exact State.stored_of_set rfl rfl
    · have bottom : v.getLsbD 63 = false := by
        rw [BitVec.getLsbD, Nat.testBit_lt_two_pow (by omega)]
      exact exec_writeSetting item dt rfl (written.trans ((if_neg (Bool.eq_false_iff.mp bottom)).trans (if_pos present)))
    · rw [← tagValue_tagFrom present]
      exact State.stored_of_set rfl rfl
    · exact exec_writeSetting item dt rfl (written.trans ((if_neg (Bool.eq_false_iff.mp top)).trans (if_neg (Nat.not_lt.mpr odd))))
  · intro pulse
    have length : u.rep.pulseLines.length = 4 := (List.length_map _).trans four
    have named (f : Nat) (place : f < 5) : (46 + (5 * k + f) != 0 && decide (46 + (5 * k + f) ≤ 65)) = true := by simp; omega
    have index (f : Nat) : 46 + (5 * k + f) - 1 = 45 + (5 * k + f) := by omega
    have phase (n : Nat) : (pulse fun p => { p with phase := n }).settings = u.settings.set (46 + (5 * k + 2) - 1) n := by
      rw [index]
      exact State.settings_modifyPulse line length (by decide) fun p j low => by interval_cases j <;> rfl
    have width (n : Nat) : (pulse fun p => { p with width := n }).settings = u.settings.set (46 + (5 * k + 3) - 1) n := by
      rw [index]
      exact State.settings_modifyPulse line length (by decide) fun p j low => by interval_cases j <;> rfl
    have subscriptions (m : BitVec 8) :
        (pulse fun p => { p with subscriptions := m }).settings = u.settings.set (46 + (5 * k + 4) - 1) m.toNat := by
      rw [index]
      exact State.settings_modifyPulse line length (by decide) fun p j low => by interval_cases j <;> rfl
    refine ⟨fun own => ?_, fun own => ?_, fun own => ?_⟩
    · obtain rfl : id = 46 + (5 * k + 2) := by omega
      have row : u.writePlain (46 + (5 * k + 2)) v =
          writeNumber 0 999999999 v.toInt fun x => pulse fun p => { p with phase := x.toNat } := State.writePlain_pulse u v line (by decide)
      exact State.number_stored item dt (hasOwnStep_pulse (by decide) (by decide)) row (named 2 (by decide))
        (sets_of_natural (Int.le_refl 0) phase)
    · obtain rfl : id = 46 + (5 * k + 3) := by omega
      have row : u.writePlain (46 + (5 * k + 3)) v =
          writeNumber 0 999999999 v.toInt fun x => pulse fun p => { p with width := x.toNat } := State.writePlain_pulse u v line (by decide)
      exact State.number_stored item dt (hasOwnStep_pulse (by decide) (by decide)) row (named 3 (by decide))
        (sets_of_natural (Int.le_refl 0) width)
    · intro mask
      obtain rfl : id = 46 + (5 * k + 4) := by omega
      have row : u.writePlain (46 + (5 * k + 4)) v = accept (pulse fun p => { p with subscriptions := mask }) :=
        State.writePlain_pulse u v line (by decide)
      exact ⟨exec_writeSetting item dt (hasOwnStep_pulse (by decide) (by decide)) row,
        State.stored_of_set (subscriptions mask) (named 4 (by decide))⟩
  · exact exec_writeSetting item dt (hasOwnStep_unnamed none_) (State.writePlain_unnamed _ v none_)

end
end

section
/-! The READ items that clear nothing (R39, R133, R152, R166, R168, R169, R178). -/

namespace Sys2Proof.Machine

/-! ### How a READ is answered (R168) -/

section

variable {s : State} {r : Request} {i : ReqItem} {content : List Byte} {t : State} {x : ReadResult}

theorem State.fits_iff (s : State) (r : Request) (content : List Byte) : s.fits r content = true ↔
    (if r.tag = none then 14 else 18) + 6 + (s.agent.results.map fun x => 3 + x.content.length).sum +
      (3 + content.length) + 3 * (r.responseItems - s.agent.results.length - 1) + 4 ≤ 9216 := by
  have start : ownStart r.tag = if r.tag = none then 14 else 18 := by
    unfold ownStart
    cases r.tag <;> rfl
  simp only [State.fits, responseLength, decide_eq_true_eq, List.map_append, List.map_cons, List.map_nil, List.sum_append,
    List.sum_cons, List.sum_nil, start]
  omega

theorem State.carryRead_runBy (item : s.currentItem = some (r, i)) (dt : Nat) {read : State → ReqItem → Option ReadResult}
    (own : read (s.runBy dt) i = some x) :
    (s.runBy dt).carryRead read = ((s.runBy dt).readOutcome r x).1.finishItem r ((s.runBy dt).readOutcome r x).2 := by
  have current : (s.runBy dt).currentItem = some (r, i) := by simpa using item
  rw [State.carryRead, current]
  dsimp only
  rw [own]

theorem State.readOutcome_answers (before : s.agent.overflowed = false) (room : s.fits r content = true) :
    s.readOutcome r (some (content, t)) = (t, { status := .ok, content := content }) :=
  (if_neg (Bool.eq_false_iff.mp before)).trans (if_pos room)

theorem State.readOutcome_refuses (before : s.agent.overflowed = false) (full : s.fits r content = false) :
    s.readOutcome r (some (content, t)) = s.refuseRead :=
  (if_neg (Bool.eq_false_iff.mp before)).trans (if_neg (Bool.eq_false_iff.mp full))

theorem State.readOutcome_beyond (before : s.agent.overflowed = false) : s.readOutcome r none = refuse s .badIndex :=
  if_neg (Bool.eq_false_iff.mp before)

theorem State.readOutcome_after (after : s.agent.overflowed = true) : s.readOutcome r x = refuse s .badValue := if_pos after

end

/-! ### The bytes of values (R178) -/

theorem optional8_eq (x : Option Int) : optional8 x =
    match x with
    | some v => 1 :: signedBytes 8 v
    | none => 0 :: signedBytes 8 0 := by
  cases x <;> rfl

theorem optionalReading_eq (x : Option (BitVec 32)) : optionalReading x = optional8 (x.map fun t => (t.toNat : Int)) := by
  cases x <;> rfl

theorem Ref.position_eq (r : Ref) : r.position = [Ref.north, .pulse, .none].idxOf r := by cases r <;> rfl

theorem PulseMode.position_eq (m : PulseMode) : m.position = [PulseMode.off, .second, .alarm].idxOf m := by cases m <;> rfl

theorem linePosition_eq (line : Line) : linePosition line = [Line.north, .south].idxOf line := by cases line <;> rfl

theorem Level.position_eq (c : Level) : c.position = [Level.inStep, .watch, .drifting].idxOf c := by cases c <;> rfl

theorem EntryLine.code_eq (line : EntryLine) : line.code = [EntryLine.north, .south, .either].idxOf line := by
  cases line <;> rfl

theorem RackState.position_eq (x : RackState) :
    x.code.toNat = [RackState.quiet, .unjudged, .inStep, .watch, .drifting].idxOf x := by cases x <;> rfl

theorem ServerState.position_eq (x : ServerState) :
    x.code.toNat = [ServerState.unseen, .settling, .tracking, .stray, .silent].idxOf x := by cases x <;> rfl

theorem flagByte_two (a b : Bool) :
    flagByte [a, b] = BitVec.ofNat 8 ((if a then 1 else 0) + if b then 2 else 0) := by
  cases a <;> cases b <;> decide

theorem beBytes_one (n : Nat) : beBytes 1 n = [BitVec.ofNat 8 n] := rfl

/-! ### The settings (R169) -/

theorem State.settingsPulse_eq (s : State) : s.settingsPulse = (List.range 4).flatMap fun k =>
    [((s.rep.pulseLine k).mode.position : Int), flagValue (!(s.rep.pulseLine k).activeHigh), (s.rep.pulseLine k).phase,
      (s.rep.pulseLine k).width, (s.rep.pulseLine k).subscriptions.toNat] := rfl

theorem State.settings_runBy (s : State) (dt : Nat) : (s.runBy dt).settings = s.settings := by
  have pulse (k : Nat) : (s.runBy dt).rep.pulseLine k = (s.rep.pulseLine k).advance (s.clock.gain (min dt s.slack)) :=
    List.getD_map s.rep.pulseLines PulseLine.initial fun p => p.advance (s.clock.gain (min dt s.slack))
  have pulses : (s.runBy dt).settingsPulse = s.settingsPulse := by
    rw [State.settingsPulse_eq, State.settingsPulse_eq]
    simp only [pulse]
    rfl
  rw [State.settings, pulses]
  rfl

theorem State.settingBytes_eq (s : State) (ids : List Nat) : s.settingBytes ids =
    (ids.mapM s.settingValue).map fun values => values.flatMap (signedBytes 8) := by
  simp only [State.settingBytes, List.flatMap_def]

/-! ### The tables -/

/-- The bytes of a range of a table, read without a change of the state. -/
theorem tableRange_read {α : Type} (l : List α) (first count : Nat) (f : α → List Byte) (s : State) :
    (tableRange l first count).map (fun m => ((m.map f).flatten, s)) =
      (if first + count ≤ l.length then some (((l.drop first).take count).flatMap f) else none).map fun b => (b, s) := by
  unfold tableRange
  split
  · rw [List.flatMap_def]
    rfl
  · rfl

end Sys2Proof.Machine

section

open Sys2Proof Sys2Proof.Machine

/-- Settles O54. -/
theorem readsThatClearNothing : Obligations.ReadsThatClearNothing := by
  refine ⟨State.fits_iff, fun s dt r => ?_⟩
  intro u value flag maybe reading truth present term classEntry rackEntry stream place choice low middle tag high line settings setting answered
  have answer {c : Instr} {content : Option (List Byte)}
      (carried : exec c s = .next ((u.readOutcome r (content.map fun b => (b, u))).1.finishItem r
        (u.readOutcome r (content.map fun b => (b, u))).2)) : answered c content := by
    refine ⟨fun b some_ before room => ?_, fun none_ before => ?_, fun b some_ before full => ?_, fun after => ?_⟩
    · subst some_
      rw [carried, Option.map_some, State.readOutcome_answers (s := u) before room]
    · subst none_
      rw [carried, Option.map_none, State.readOutcome_beyond (s := u) before]
      rfl
    · subst some_
      rw [carried, Option.map_some, State.readOutcome_refuses (s := u) before full]
      rfl
    · rw [carried, State.readOutcome_after (s := u) after]
      rfl
  have pulses : s.settingsPulse = (List.range 4).flatMap line := by
    rw [State.settingsPulse_eq]
    simp only [PulseMode.position_eq]
    rfl
  have middles : s.settingsMiddle = middle := by
    simp only [State.settingsMiddle, Ref.position_eq]
    rfl
  have highs : s.settingsHigh = high := by
    simp only [State.settingsHigh, linePosition_eq, tagValue]
    rfl
  have values : s.settings = settings := by
    rw [State.settings, pulses, middles, highs]
    rfl
  have value_of : ∀ id, s.settingValue id = setting id := fun id => by
    change (if id = 0 then none else s.settings[id - 1]?) = _
    rw [values]
  have flags (b : Bool) : flagByte [b] = flag b := flagByte_one b
  have maybes (x : Option Int) : optional8 x = maybe x := optional8_eq x
  have readings (x : Option (BitVec 32)) : optionalReading x = reading x := by rw [optionalReading_eq, maybes]
  have presents (width : Nat) (x : Option Nat) : optField width x = present width x := by cases x <;> rfl
  have terms : termBytes = term := funext fun x => by cases x <;> rfl
  have classes : ClassEntry.bytes = classEntry := funext fun e => by
    simp only [ClassEntry.bytes, flags, presents, terms, beBytes_one, EntryLine.code_eq, flagByte_two, ← List.flatMap_def]
    rfl
  have racks : Rack.readBytes = rackEntry := funext fun q => by
    simp only [Rack.readBytes, RackConfig.bytes, flags, maybes, readings, RackState.position_eq, Level.position_eq, ← List.flatMap_def]
    simp only [rackEntry, List.flatMap_cons, List.flatMap_nil, List.append_nil, List.append_assoc]
    rfl
  have streams : StreamState.readBytes = stream := funext fun x => by
    simp only [StreamState.readBytes, stream]
    cases x.lastDate <;> rfl
  have places : placeBytes = place := funext fun x => by cases x <;> rfl
  refine ⟨value_of, fun ids item => answer ?_, fun shadow first count item => answer ?_, fun first count item => answer ?_,
    fun first count item => answer ?_, fun item => answer ?_⟩
  · have read : u.readSettings ids = ((ids.mapM setting).map fun values => values.flatMap value).map fun b => (b, u) := by
      rw [State.readSettings, State.settingBytes_eq, State.settingValue_congr (s.settings_runBy dt), funext value_of]
    exact congrArg Host.Outcome.next (State.carryRead_runBy item dt (congrArg some read))
  · have read : u.readClass shadow first count = _ := tableRange_read (s.cls.entries (s.cls.bankOf shadow)) first count ClassEntry.bytes u
    rw [classes] at read
    exact congrArg Host.Outcome.next (State.carryRead_runBy item dt (congrArg some read))
  · have read : u.readRack first count = _ := tableRange_read s.mon.racks first count Rack.readBytes u
    rw [racks] at read
    exact congrArg Host.Outcome.next (State.carryRead_runBy item dt (congrArg some read))
  · have read : u.readStream first count = _ := tableRange_read s.dater.streams first count StreamState.readBytes u
    rw [streams] at read
    exact congrArg Host.Outcome.next (State.carryRead_runBy item dt (congrArg some read))
  · have read : u.readManagers = (some (s.agent.managers.flatMap place)).map fun b => (b, u) := by
      rw [State.readManagers, places, ← List.flatMap_def]
      rfl
    exact congrArg Host.Outcome.next (State.carryRead_runBy item dt (congrArg some read))

end
end

section
/-! The READ items that clear what they return (R39, R69, R87, R106, R117, R133, R152, R168, R173, R178). -/

namespace Sys2Proof.Machine

theorem sum_item_lengths (l : List ItemResult) :
    (l.map fun x => 3 + x.content.length).sum = 3 * l.length + (l.map fun x => x.content.length).sum := by
  induction l with
  | nil => rfl
  | cons x l ih =>
    simp only [List.map_cons, List.sum_cons, List.length_cons, ih]
    omega

/-- The frame of a response: the contents it has, and 3 bytes for each item it has or is to have. -/
theorem State.fits_iff_frame (s : State) (r : Request) (content : List Byte) : s.fits r content = true ↔
    (if r.tag = none then 14 else 18) + 6 + ((s.agent.results.map fun x => x.content.length).sum + content.length) +
      3 * max r.responseItems (s.agent.results.length + 1) + 4 ≤ 9216 := by
  rw [State.fits_iff, sum_item_lengths]
  omega

theorem countsBytes_eq (l : List Nat) : countsBytes l = l.flatMap fun n : Nat => signedBytes 8 n := (List.flatMap_def ..).symm

theorem listBytes_eq {α : Type} (f : α → List Byte) (l : List α) :
    listBytes f l = beBytes 2 (l.map f).length ++ (l.map f).flatten := by
  rw [listBytes, List.length_map]

theorem tableRange_inside {α : Type} {l : List α} {first count : Nat} (inside : first + count ≤ l.length) :
    tableRange l first count = some ((l.drop first).take count) := if_pos inside

theorem tableRange_beyond {α : Type} {l : List α} {first count : Nat} (beyond : l.length < first + count) :
    tableRange l first count = none := if_neg (Nat.not_le.mpr beyond)

theorem modifyRange_const {α : Type} {l : List α} {first count : Nat} (inside : first + count ≤ l.length) (x : α) :
    modifyRange l first count (fun _ => x) = l.take first ++ List.replicate count x ++ l.drop (first + count) := by
  have length : ((l.drop first).take count).length = count := by
    rw [List.length_take, List.length_drop]
    omega
  rw [modifyRange, List.map_const', length]

theorem livenessBytes_eq (live : Bool) : livenessBytes live = signedBytes 8 (if (!live) = true then 1 else 0) := by
  cases live <;> rfl

theorem StepOutcome.position_eq (x : StepOutcome) : x.position = [StepOutcome.step, .hold, .steer].idxOf x := by
  cases x <;> rfl

theorem ServoState.position_eq (x : ServoState) : x.code.toNat = [ServoState.free, .acquire, .locked, .holdover].idxOf x := by
  cases x <;> rfl

/-- The age of a date record, where there is one. -/
def State.ageBytes (s : State) : Option DateRecord → List Byte :=
  Machine.optional 8 fun r => beBytes 8 (Config.runTimeCode (s.clock.osc - r.createdAt)).toNat

theorem State.oldestAge_eq (s : State) : s.oldestAge = s.ageBytes s.dater.queue.head? := rfl

end Sys2Proof.Machine

section

open Sys2Proof Sys2Proof.Machine

/-- Settles O55. -/
theorem readsThatClearWhatTheyReturn : Obligations.ReadsThatClearWhatTheyReturn := by
  refine ⟨State.fits_iff_frame, fun s dt r => ?_⟩
  intro u value flag maybe reading truth fine counted servers reference record window runTime v selection status originEntry refused
    answered beyond
  have answer {c : Instr} {t : State} {b : List Byte}
      (carried : exec c s = .next ((u.readOutcome r (some (b, t))).1.finishItem r (u.readOutcome r (some (b, t))).2)) :
      answered c t b := by
    refine ⟨fun before room => ?_, fun before full => ?_, fun after => ?_⟩
    · rw [carried, State.readOutcome_answers (s := u) before room]
    · rw [carried, State.readOutcome_refuses (s := u) before full]
      rfl
    · rw [carried, State.readOutcome_after (s := u) after]
      rfl
  have outside {c : Instr} (carried : exec c s = .next ((u.readOutcome r none).1.finishItem r (u.readOutcome r none).2)) :
      beyond c := by
    change exec c s = refused u _
    by_cases after : s.agent.overflowed = true
    · rw [carried, State.readOutcome_after (s := u) after, if_pos after]
      rfl
    · rw [carried, State.readOutcome_beyond (s := u) (Bool.eq_false_iff.mpr after), if_neg after]
      rfl
  have maybes (x : Option Int) : optional8 x = maybe x := optional8_eq x
  have readings (x : Option (BitVec 32)) : optionalReading x = reading x := by rw [optionalReading_eq, maybes]
  have fines (x : Option Int) : optional 12 fine12 x = fine x := by cases x <;> rfl
  have references (x : Ref) : value8 x.position = reference x := by rw [Ref.position_eq]; rfl
  have windows (w : List Sample) : listBytes Sample.bytes w = window w := listBytes_eq _ _
  have records : s.exch.record.statusBytes = record := by
    simp only [record]
    cases s.exch.record <;> rfl
  have origins : OriginEntry.readBytes = originEntry := funext fun e => by
    simp only [OriginEntry.readBytes, flagByte_one, maybes, readings, ServerState.position_eq]
    rfl
  have statuses : ∀ block, u.blockStatus block = status block := by
    intro block
    rcases block with _ | _ | _ | _ | _ | _ | _ | _ | n
    case zero => rfl
    case succ.zero =>
      change u.cls.statusBytes = _
      rw [Classifier.statusBytes, Bank.number_eq]
      rfl
    case succ.succ.zero =>
      change u.exch.statusBytes = _
      simp only [Exchange.statusBytes, livenessBytes_eq, readings, windows]
      exact records ▸ rfl
    case succ.succ.succ.zero =>
      change u.servoFigures ++ u.servoItems = _
      simp only [State.servoFigures, State.servoItems, fines, maybes, readings, references, ServoState.position_eq,
        funext StepOutcome.position_eq, ← List.append_assoc]
      rfl
    case succ.succ.succ.succ.zero =>
      change u.southStatus = _
      simp only [State.southStatus, listBytes_eq, maybes]
      rfl
    case succ.succ.succ.succ.succ.zero =>
      change u.daterStatus = _
      have age (q : Option DateRecord) : u.ageBytes q =
          match q with
          | some q => 1 :: runTime (u.clock.osc - q.createdAt)
          | none => 0 :: value 0 := by cases q <;> rfl
      rw [State.daterStatus, State.oldestAge_eq, age, Dater.openDates, Int.natCast_add]
      rfl
    case succ.succ.succ.succ.succ.succ.zero =>
      change u.mon.statusBytes = _
      simp only [Monitor.statusBytes, countsBytes_eq, ← List.flatMap_def, Monitor.memberCounts, List.flatMap_map]
      rfl
    case succ.succ.succ.succ.succ.succ.succ.zero =>
      exact countsBytes_eq _
    case succ.succ.succ.succ.succ.succ.succ.succ => rfl
  refine ⟨fun first count item => ⟨fun inside => answer ?_, fun high => outside ?_⟩,
    fun first count item => ⟨fun inside => answer ?_, fun high => outside ?_⟩, fun block item => ?_, fun block item => answer ?_⟩
  · have read : u.readMatch first count = some (((s.cls.matchCounts.drop first).take count).flatMap (fun n : Nat => signedBytes 8 n),
        { u with cls := { s.cls with
          matchCounts := s.cls.matchCounts.take first ++ List.replicate count 0 ++ s.cls.matchCounts.drop (first + count) } }) := by
      have cleared : modifyRange s.cls.matchCounts first count (fun _ => 0) = _ := modifyRange_const inside 0
      rw [← cleared, List.flatMap_def]
      exact congrArg (Option.map _) (tableRange_inside inside)
    exact congrArg Host.Outcome.next (State.carryRead_runBy item dt (congrArg some read))
  · have read : u.readMatch first count = none := congrArg (Option.map _) (tableRange_beyond high)
    exact congrArg Host.Outcome.next (State.carryRead_runBy item dt (congrArg some read))
  · have read : u.readOrigin first count = some (((s.mon.origins.drop first).take count).flatMap originEntry,
        { u with mon := { s.mon with
          origins := s.mon.origins.take first ++
            ((s.mon.origins.drop first).take count).map (fun e => { e with queryCount := 0, storageCount := 0 }) ++
            s.mon.origins.drop (first + count) } }) := by
      rw [← origins, List.flatMap_def]
      exact congrArg (Option.map _) (tableRange_inside inside)
    exact congrArg Host.Outcome.next (State.carryRead_runBy item dt (congrArg some read))
  · have read : u.readOrigin first count = none := congrArg (Option.map _) (tableRange_beyond high)
    exact congrArg Host.Outcome.next (State.carryRead_runBy item dt (congrArg some read))
  · intro bytesOf four zeroed done
    have counts (block : Nat) : u.readCounts block = some (bytesOf (u.countGroup block), u.clearGroup block) := by
      rw [State.readCounts, countsBytes_eq]
    have group : done (u.countGroup block) (u.clearGroup block) :=
      answer (congrArg Host.Outcome.next (State.carryRead_runBy item dt (congrArg some (counts block))))
    refine ⟨?_, ?_, ?_, ?_, ?_, ?_⟩ <;> exact fun is => by subst is; exact group
  · have clears : u.clearStatus block = if block = 3 then { u with servo := { s.servo with stepCount := 0 } }
        else if block = 7 then
          { u with agent := { s.agent with malformed := 0, disallowed := 0, queueFull := 0, responseDropped := 0 } }
        else u := by
      rcases block with _ | _ | _ | _ | _ | _ | _ | _ | n <;> rfl
    have read : u.readStatus block = some (status block, u.clearStatus block) := by rw [State.readStatus, statuses]
    rw [← clears]
    exact congrArg Host.Outcome.next (State.carryRead_runBy item dt (congrArg some read))

end
end

section
/-! The items of a request, read at the places of their layouts (R177 to R179). -/

namespace Sys2Proof.Machine

/-! ### Bytes and numbers at their places -/

/-- The byte at a place, 0 past the end. -/
def byteOf (b : List Byte) (k : Nat) : Nat := ((b[k]?).map BitVec.toNat).getD 0

/-- The number that the bytes at a place spell. -/
def numOf (b : List Byte) (k width : Nat) : Nat := beNat ((b.drop k).take width)

theorem numOf_one (b : List Byte) (k : Nat) : numOf b k 1 = byteOf b k := by
  unfold numOf byteOf
  by_cases inside : k < b.length
  · rw [List.getElem?_eq_getElem inside, List.drop_eq_getElem_cons inside, List.take_succ_cons, List.take_zero]
    exact Nat.zero_add _
  · simp [List.drop_eq_nil_of_le (Nat.not_lt.mp inside), List.getElem?_eq_none (Nat.not_lt.mp inside), beNat]

@[simp] theorem byteOf_drop (b : List Byte) (n k : Nat) : byteOf (b.drop n) k = byteOf b (n + k) := by
  simp [byteOf, List.getElem?_drop]

@[simp] theorem numOf_drop (b : List Byte) (n k width : Nat) : numOf (b.drop n) k width = numOf b (n + k) width := by
  simp [numOf, List.drop_drop]

section

variable {b : List Byte} {k width : Nat}

theorem natAt_num (inside : k + width ≤ b.length) : natAt b k width = some (numOf b k width) := natAt_of_le inside

theorem natAt_byte (inside : k < b.length) : natAt b k 1 = some (byteOf b k) := by
  rw [natAt_of_le inside, ← numOf_one]
  rfl

theorem intAt_signed (inside : k + 8 ≤ b.length) : intAt b k 8 = some (signedOf (numOf b k 8)) := intAt_of_le inside

theorem valueAt_num (inside : k + 8 ≤ b.length) : valueAt b k = some (BitVec.ofNat 64 (numOf b k 8)) := by
  rw [valueAt, natAt_num inside]
  rfl

theorem flagAt_byte (inside : k < b.length) : flagAt b k = if byteOf b k ≤ 1 then some (byteOf b k == 1) else none := by
  rw [flagAt, natAt_byte inside]
  simp only [Option.bind_eq_bind, Option.bind_some]
  by_cases zero : byteOf b k = 0
  · simp [zero]
  · by_cases one : byteOf b k = 1
    · simp [one]
    · simp [zero, one]
      omega

/-- An optional number behind its presence byte. -/
def optionalOf (b : List Byte) (k width : Nat) : Option Nat := if byteOf b k = 1 then some (numOf b (k + 1) width) else none

/-- A byte-term place. -/
def termOf (b : List Byte) (k : Nat) : Option ByteTerm :=
  if byteOf b k = 1 then
    some { offset := byteOf b (k + 1), value := BitVec.ofNat 8 (byteOf b (k + 2)), mask := BitVec.ofNat 8 (byteOf b (k + 3)) }
  else none

theorem optionalOf_drop (b : List Byte) (n k width : Nat) : optionalOf (b.drop n) k width = optionalOf b (n + k) width := by
  simp [optionalOf, Nat.add_assoc]

theorem termOf_drop (b : List Byte) (n k : Nat) : termOf (b.drop n) k = termOf b (n + k) := by
  simp [termOf, Nat.add_assoc]

theorem optNatAt_places (inside : k + 1 + width ≤ b.length) :
    optNatAt b k width = if byteOf b k ≤ 1 then some (optionalOf b k width) else none := by
  rw [optNatAt, flagAt_byte (by omega), natAt_num inside]
  split
  · simp [optionalOf]
  · rfl

theorem termAt_places (inside : k + 4 ≤ b.length) :
    termAt b k = if byteOf b k ≤ 1 then some (termOf b k) else none := by
  rw [termAt, flagAt_byte (by omega), natAt_byte (by omega), natAt_byte (by omega), natAt_byte (by omega)]
  split
  · simp [termOf]
  · rfl

theorem rangeAt_places (inside : k + 3 ≤ b.length) : rangeAt b k =
    if 1 ≤ byteOf b (k + 2) ∧ byteOf b (k + 2) ≤ 16 then some (numOf b k 2, byteOf b (k + 2)) else none := by
  rw [rangeAt, natAt_num (by omega), natAt_byte (by omega)]
  simp only [Option.bind_eq_bind, Option.bind_some, guard, Option.pure_def]
  split <;> rfl

end

/-! ### Entries -/

/-- A class-table entry behind its target and index. -/
def classEntryOf (b : List Byte) : ClassEntry where
  enabled := byteOf b 3 == 1
  line := if byteOf b 4 = 0 then .north else if byteOf b 4 = 1 then .south else .either
  typeValue := (optionalOf b 5 2).map (BitVec.ofNat 16)
  source := (optionalOf b 8 6).map (BitVec.ofNat 48)
  terms := [termOf b 15, termOf b 19, termOf b 23, termOf b 27]
  date := byteOf b 31 % 2 == 1
  sample := byteOf b 31 / 2 % 2 == 1
  stampOffset := optionalOf b 32 2
  issueOffset := optionalOf b 35 1
  datingOffset := signedOf (numOf b 37 8)
  newStream := byteOf b 45 == 1

/-- A rack entry behind its target and index. -/
def rackConfigOf (b : List Byte) : RackConfig where
  enabled := byteOf b 3 == 1
  watchOn := signedOf (numOf b 4 8)
  watchOff := signedOf (numOf b 12 8)
  driftOn := signedOf (numOf b 20 8)
  driftOff := signedOf (numOf b 28 8)
  rateOn := signedOf (numOf b 36 8)
  spreadLimit := signedOf (numOf b 44 8)
  strayLimit := signedOf (numOf b 52 8)
  confirm := signedOf (numOf b 60 8)
  nominalDelay := signedOf (numOf b 68 8)
  drillOffset := signedOf (numOf b 76 8)
  storageSamples := byteOf b 84 == 1

theorem bind_ite_none {α β : Type} (p : Prop) [Decidable p] (a : α) (f : α → Option β) :
    (if p then some a else none).bind f = if p then f a else none := by
  split <;> rfl

theorem ite_ite_none {α : Type} (p q : Prop) [Decidable p] [Decidable q] (x : Option α) :
    (if p then if q then x else none else none) = if p ∧ q then x else none := by
  by_cases hp : p <;> simp [hp]

theorem parseClassEntry_places {b : List Byte} (length : b.length = 46) : parseClassEntry (b.drop 3) =
    if (∀ k ∈ ([3, 5, 8, 15, 19, 23, 27, 32, 35, 45] : List Nat), byteOf b k ≤ 1) ∧ byteOf b 31 < 4 then
      some (byteOf b 4, classEntryOf b) else none := by
  have inside (k : Nat) (low : k ≤ 43) : k ≤ (b.drop 3).length := by rw [List.length_drop]; omega
  have sample (small : byteOf b 31 < 4) : decide (2 ≤ byteOf b 31) = (byteOf b 31 / 2 % 2 == 1) := by
    rw [Bool.eq_iff_iff, decide_eq_true_iff, beq_iff_eq]
    omega
  unfold parseClassEntry
  rw [flagAt_byte (inside 1 (by decide)), natAt_byte (inside 2 (by decide)), optNatAt_places (inside 5 (by decide)),
    optNatAt_places (inside 12 (by decide)), termAt_places (inside 16 (by decide)), termAt_places (inside 20 (by decide)),
    termAt_places (inside 24 (by decide)), termAt_places (inside 28 (by decide)), natAt_byte (inside 29 (by decide)),
    optNatAt_places (inside 32 (by decide)), optNatAt_places (inside 34 (by decide)), intAt_signed (inside 42 (by decide)),
    flagAt_byte (inside 43 (by decide))]
  simp only [Option.bind_eq_bind, Option.bind_some, bind_ite_none, ite_ite_none, guard, Option.pure_def, Option.failure_eq_none,
    byteOf_drop, numOf_drop, optionalOf_drop, termOf_drop, Nat.reduceAdd]
  refine if_ctx_congr ?_ (fun fits => ?_) fun _ => rfl
  · simp only [List.forall_mem_cons, List.not_mem_nil, false_implies, implies_true, and_true, and_assoc]
    tauto
  · rw [classEntryOf, ← sample fits.2]
    rfl

theorem parseRackConfig_places {b : List Byte} (length : b.length = 85) : parseRackConfig (b.drop 3) =
    if ∀ k ∈ ([3, 84] : List Nat), byteOf b k ≤ 1 then some (rackConfigOf b) else none := by
  have inside (k : Nat) (low : k ≤ 82) : k ≤ (b.drop 3).length := by rw [List.length_drop]; omega
  unfold parseRackConfig
  rw [flagAt_byte (inside 1 (by decide)), intAt_signed (inside 9 (by decide)), intAt_signed (inside 17 (by decide)),
    intAt_signed (inside 25 (by decide)), intAt_signed (inside 33 (by decide)), intAt_signed (inside 41 (by decide)),
    intAt_signed (inside 49 (by decide)), intAt_signed (inside 57 (by decide)), intAt_signed (inside 65 (by decide)),
    intAt_signed (inside 73 (by decide)), intAt_signed (inside 81 (by decide)), flagAt_byte (inside 82 (by decide))]
  simp only [Option.bind_eq_bind, Option.bind_some, bind_ite_none, ite_ite_none, Option.pure_def, byteOf_drop, numOf_drop,
    Nat.reduceAdd]
  refine if_ctx_congr ?_ (fun _ => rfl) fun _ => rfl
  simp only [List.forall_mem_cons, List.not_mem_nil, false_implies, implies_true, and_true]

/-! ### Setting ids -/

theorem parseIds_places (l : List Byte) : parseIds l =
    if l.length % 2 = 0 then some ((List.range (l.length / 2)).map fun k => numOf l (2 * k) 2) else none := by
  induction l using parseIds.induct with
  | case1 => rfl
  | case2 x => rfl
  | case3 x y rest ih =>
    have next (k : Nat) : numOf (x :: y :: rest) (2 * (k + 1)) 2 = numOf rest (2 * k) 2 := by
      rw [numOf, Nat.mul_add]
      rfl
    have half : (rest.length + 2) / 2 = rest.length / 2 + 1 := by omega
    rw [parseIds, ih, List.length_cons, List.length_cons, Nat.add_assoc, Nat.add_mod_right, half, List.range_succ_eq_map]
    split
    · simp only [Option.map_some, List.map_cons, List.map_map, Function.comp_def, Nat.succ_eq_add_one, next]
      rfl
    · rfl

/-! ### Contents -/

/-- A content of exactly some length, read where its bytes suit. -/
theorem ofLength_if {α : Type} {b : List Byte} {length : Nat} {x : Option α} {p : Prop} [Decidable p] {a : α}
    (read : b.length = length → x = if p then some a else none) :
    ofLength b length x = if b.length = length ∧ p then some a else none := by
  unfold ofLength
  by_cases same : b.length = length
  · simp [same, read same]
  · simp [same]

theorem rangeItem_places {b : List Byte} (item : Nat → Nat → ReqItem) :
    ofLength b 4 ((rangeAt b 1).map fun r => item r.1 r.2) =
      if b.length = 4 ∧ 1 ≤ byteOf b 3 ∧ byteOf b 3 ≤ 16 then some (item (numOf b 1 2) (byteOf b 3)) else none :=
  ofLength_if fun length => by
    rw [rangeAt_places (by omega)]
    split <;> rfl

/-- The content of a READ item, read at the places of its layout. -/
def readOf (b : List Byte) : Option ReqItem :=
  if byteOf b 0 = 0 ∧ 3 ≤ b.length ∧ b.length ≤ 33 ∧ b.length % 2 = 1 then
    some (.readSettings ((List.range ((b.length - 1) / 2)).map fun k => numOf b (1 + 2 * k) 2))
  else if byteOf b 0 = 1 ∧ b.length = 5 ∧ (∀ k ∈ ([1] : List Nat), byteOf b k ≤ 1) ∧ 1 ≤ byteOf b 4 ∧ byteOf b 4 ≤ 16 then
    some (.readClass (byteOf b 1 == 1) (numOf b 2 2) (byteOf b 4))
  else if byteOf b 0 = 2 ∧ b.length = 4 ∧ 1 ≤ byteOf b 3 ∧ byteOf b 3 ≤ 16 then some (.readOrigin (numOf b 1 2) (byteOf b 3))
  else if byteOf b 0 = 3 ∧ b.length = 4 ∧ 1 ≤ byteOf b 3 ∧ byteOf b 3 ≤ 16 then some (.readRack (numOf b 1 2) (byteOf b 3))
  else if byteOf b 0 = 4 ∧ b.length = 1 then some .readManagers
  else if byteOf b 0 = 5 ∧ b.length = 4 ∧ 1 ≤ byteOf b 3 ∧ byteOf b 3 ≤ 16 then some (.readMatch (numOf b 1 2) (byteOf b 3))
  else if byteOf b 0 = 6 ∧ b.length = 4 ∧ 1 ≤ byteOf b 3 ∧ byteOf b 3 ≤ 16 then some (.readStream (numOf b 1 2) (byteOf b 3))
  else if byteOf b 0 = 7 ∧ b.length = 2 ∧ byteOf b 1 ∈ [0, 2, 4, 5, 6, 8] then some (.readCounts (byteOf b 1))
  else if byteOf b 0 = 8 ∧ b.length = 2 ∧ 1 ≤ byteOf b 1 ∧ byteOf b 1 ≤ 7 then some (.readStatus (byteOf b 1))
  else none

theorem idsItem_places {b : List Byte} (some_ : b ≠ []) :
    (if 3 ≤ b.length ∧ b.length ≤ 33 then (parseIds (b.drop 1)).map ReqItem.readSettings else none) =
      if 3 ≤ b.length ∧ b.length ≤ 33 ∧ b.length % 2 = 1 then
        some (.readSettings ((List.range ((b.length - 1) / 2)).map fun k => numOf b (1 + 2 * k) 2))
      else none := by
  have long := List.length_pos_iff.mpr some_
  have odd : (b.length - 1) % 2 = 0 ↔ b.length % 2 = 1 := by omega
  simp only [parseIds_places, List.length_drop, odd, numOf_drop, apply_ite (Option.map ReqItem.readSettings), Option.map_some,
    Option.map_none, ite_ite_none, and_assoc]

theorem classItem_places (b : List Byte) :
    ofLength b 5 (do
      let bank ← flagAt b 1
      let r ← rangeAt b 2
      return ReqItem.readClass bank r.1 r.2) =
      if b.length = 5 ∧ byteOf b 1 ≤ 1 ∧ 1 ≤ byteOf b 4 ∧ byteOf b 4 ≤ 16 then
        some (.readClass (byteOf b 1 == 1) (numOf b 2 2) (byteOf b 4))
      else none :=
  ofLength_if fun length => by
    rw [flagAt_byte (by omega), rangeAt_places (by omega)]
    simp only [Option.bind_eq_bind, bind_ite_none, ite_ite_none, Option.pure_def]

/-- A block of a READ of counts or of a status. -/
theorem blockItem_places (b : List Byte) (allowed : Nat → Prop) [DecidablePred allowed] (item : Nat → ReqItem) :
    ofLength b 2 (do
      let block ← natAt b 1 1
      guard (allowed block)
      return item block) =
      if b.length = 2 ∧ allowed (byteOf b 1) then some (item (byteOf b 1)) else none :=
  ofLength_if fun length => by
    rw [natAt_byte (by omega)]
    simp only [Option.bind_eq_bind, Option.bind_some, guard, Option.pure_def, Option.failure_eq_none, bind_ite_none]

theorem parseRead_places (b : List Byte) : parseRead b = readOf b := by
  by_cases empty : b = []
  · subst empty
    rfl
  have first : natAt b 0 1 = some (byteOf b 0) := natAt_byte (List.length_pos_iff.mpr empty)
  unfold parseRead readOf
  rw [first]
  simp only [Option.bind_eq_bind, Option.bind_some]
  generalize byteOf b 0 = selector
  rcases selector with _ | _ | _ | _ | _ | _ | _ | _ | _ | n
  case zero =>
    refine (idsItem_places empty).trans ?_
    simp
  case succ.zero =>
    refine (classItem_places b).trans ?_
    simp
  case succ.succ.zero => simp [rangeItem_places]
  case succ.succ.succ.zero => simp [rangeItem_places]
  case succ.succ.succ.succ.zero => simp [ofLength]
  case succ.succ.succ.succ.succ.zero => simp [rangeItem_places]
  case succ.succ.succ.succ.succ.succ.zero => simp [rangeItem_places]
  case succ.succ.succ.succ.succ.succ.succ.zero =>
    refine (blockItem_places b (· ∈ [0, 2, 4, 5, 6, 8]) .readCounts).trans ?_
    simp
  case succ.succ.succ.succ.succ.succ.succ.succ.zero =>
    refine (blockItem_places b (fun n => 1 ≤ n ∧ n ≤ 7) .readStatus).trans ?_
    simp
  case succ.succ.succ.succ.succ.succ.succ.succ.succ => simp

/-- The content of a WRITE item, read at the places of its layout. -/
def writeOf (b : List Byte) : Option ReqItem :=
  if byteOf b 0 = 0 ∧ b.length = 11 then some (.writeSetting (numOf b 1 2) (BitVec.ofNat 64 (numOf b 3 8)))
  else if byteOf b 0 = 1 ∧ b.length = 46 ∧ (∀ k ∈ ([3, 5, 8, 15, 19, 23, 27, 32, 35, 45] : List Nat), byteOf b k ≤ 1) ∧
      byteOf b 31 < 4 then
    some (.writeClass (numOf b 1 2) (byteOf b 4) (classEntryOf b))
  else if byteOf b 0 = 2 ∧ b.length = 11 ∧ (∀ k ∈ ([3] : List Nat), byteOf b k ≤ 1) then
    some (.writeOrigin (numOf b 1 2) (byteOf b 3 == 1) (BitVec.ofNat 48 (numOf b 4 6)) (byteOf b 10))
  else if byteOf b 0 = 3 ∧ b.length = 85 ∧ (∀ k ∈ ([3, 84] : List Nat), byteOf b k ≤ 1) then
    some (.writeRack (numOf b 1 2) (rackConfigOf b))
  else if byteOf b 0 = 4 ∧ b.length = 11 then some (.writeManager (numOf b 1 2) (BitVec.ofNat 64 (numOf b 3 8)))
  else none

theorem valueItem_places {b : List Byte} (item : BitVec 64 → ReqItem) :
    ofLength b 11 ((valueAt b 3).map item) =
      if b.length = 11 then some (item (BitVec.ofNat 64 (numOf b 3 8))) else none :=
  (ofLength_if (p := True) fun length => by rw [valueAt_num (by omega)]; rfl).trans (if_congr (iff_of_eq (and_true _)) rfl rfl)

theorem originItem_places (b : List Byte) (index : Nat) :
    ofLength b 11 (do
      let enabled ← flagAt b 3
      let source ← natAt b 4 6
      let rack ← natAt b 10 1
      return ReqItem.writeOrigin index enabled (BitVec.ofNat 48 source) rack) =
      if b.length = 11 ∧ byteOf b 3 ≤ 1 then
        some (.writeOrigin index (byteOf b 3 == 1) (BitVec.ofNat 48 (numOf b 4 6)) (byteOf b 10))
      else none :=
  ofLength_if fun length => by
    rw [flagAt_byte (by omega), natAt_num (by omega), natAt_byte (by omega)]
    simp only [Option.bind_eq_bind, Option.bind_some, bind_ite_none, Option.pure_def]

theorem classEntryItem_places (b : List Byte) (index : Nat) :
    ofLength b 46 ((parseClassEntry (b.drop 3)).map fun e => ReqItem.writeClass index e.1 e.2) =
      if b.length = 46 ∧ (∀ k ∈ ([3, 5, 8, 15, 19, 23, 27, 32, 35, 45] : List Nat), byteOf b k ≤ 1) ∧ byteOf b 31 < 4 then
        some (.writeClass index (byteOf b 4) (classEntryOf b))
      else none :=
  ofLength_if fun length => by
    rw [parseClassEntry_places length]
    split <;> rfl

theorem rackItem_places (b : List Byte) (index : Nat) :
    ofLength b 85 ((parseRackConfig (b.drop 3)).map (ReqItem.writeRack index)) =
      if b.length = 85 ∧ (∀ k ∈ ([3, 84] : List Nat), byteOf b k ≤ 1) then some (.writeRack index (rackConfigOf b)) else none :=
  ofLength_if fun length => by
    rw [parseRackConfig_places length]
    split <;> rfl

theorem parseWrite_places (b : List Byte) : parseWrite b = writeOf b := by
  by_cases short : b.length < 3
  · have unread : natAt b 1 2 = none := natAt_of_lt (by decide) (by omega)
    have other (n : Nat) (long : 3 ≤ n) : b.length ≠ n := by omega
    unfold parseWrite writeOf
    rw [unread]
    simp [other]
  unfold parseWrite writeOf
  rw [natAt_byte (by omega), natAt_num (by omega)]
  simp only [Option.bind_eq_bind, Option.bind_some]
  generalize byteOf b 0 = target
  rcases target with _ | _ | _ | _ | _ | n
  case zero => simp [valueItem_places]
  case succ.zero =>
    refine (classEntryItem_places b _).trans ?_
    simp
  case succ.succ.zero =>
    refine (originItem_places b _).trans ?_
    simp
  case succ.succ.succ.zero =>
    refine (rackItem_places b _).trans ?_
    simp
  case succ.succ.succ.succ.zero => simp [valueItem_places]
  case succ.succ.succ.succ.succ => simp

/-- An operand of one byte, by its place in a list of meanings. -/
def operandOf (b : List Byte) (least : Nat) (items : List ReqItem) : Option ReqItem :=
  if b.length = 1 ∧ least ≤ byteOf b 0 then items[byteOf b 0 - least]? else none

/-- What an item of a command asks for, read at the places of its layout. -/
def itemOf (command : Nat) (b : List Byte) : Option ReqItem :=
  if command = 1 then readOf b
  else if command = 2 then writeOf b
  else if command = 5 then
    if byteOf b 0 = 3 ∧ b.length = 9 then some (.servoSetRate (signedOf (numOf b 1 8)))
    else operandOf b 0 [.servoAuto, .servoHeld, .servoAlign]
  else if command = 6 then
    if b.length = 12 then
      some (.setTime { seconds := numOf b 0 6, nanos := numOf b 6 4, fraction := numOf b 10 2 }) else none
  else if command = 7 then operandOf b 0 [.captureRead, .captureNow]
  else if command = 8 then operandOf b 1 [.clear true false, .clear false true, .clear true true]
  else if command = 10 then operandOf b 0 [.bypassOff, .bypassOn]
  else if command = 11 then operandOf b 0 [.resetWarm, .resetFull]
  else none

/-- A list of meanings numbered from a least operand. -/
def numbered (least : Nat) (items : List ReqItem) : List (Nat × ReqItem) := (items.zipIdx least).map fun x => (x.2, x.1)

theorem find_numbered (n least : Nat) (items : List ReqItem) :
    ((numbered least items).find? (·.1 == n)).map (·.2) = if least ≤ n then items[n - least]? else none := by
  induction items generalizing least with
  | nil => simp [numbered]
  | cons x items ih =>
    have rest : numbered least (x :: items) = (least, x) :: numbered (least + 1) items := rfl
    rw [rest, List.find?_cons]
    by_cases here : least = n
    · subst here
      simp
    · have off : (least == n) = false := by simp [here]
      rw [off]
      dsimp only
      rw [ih]
      by_cases below : least + 1 ≤ n
      · have next : n - least = n - (least + 1) + 1 := by omega
        rw [if_pos below, if_pos (by omega), next, List.getElem?_cons_succ]
      · rw [if_neg below, if_neg (by omega)]

theorem parseOperand_places (b : List Byte) (least : Nat) (items : List ReqItem) :
    parseOperand b (numbered least items) = operandOf b least items := by
  unfold parseOperand operandOf ofLength
  by_cases one : b.length = 1
  · rw [natAt_byte (by omega), Option.bind_some, find_numbered, if_pos one]
    simp [one]
  · rw [if_neg one, if_neg fun both => one both.1]

theorem parseServo_places (b : List Byte) : parseServo b =
    if byteOf b 0 = 3 ∧ b.length = 9 then some (.servoSetRate (signedOf (numOf b 1 8)))
    else operandOf b 0 [.servoAuto, .servoHeld, .servoAlign] := by
  by_cases empty : b = []
  · subst empty
    rfl
  have rate : ofLength b 9 ((intAt b 1 8).map ReqItem.servoSetRate) =
      if b.length = 9 then some (.servoSetRate (signedOf (numOf b 1 8))) else none :=
    (ofLength_if (p := True) fun length => by rw [intAt_signed (by omega)]; rfl).trans (if_congr (iff_of_eq (and_true _)) rfl rfl)
  unfold parseServo operandOf
  rw [natAt_byte (List.length_pos_iff.mpr empty), rate]
  simp only [Option.bind_eq_bind, Option.bind_some]
  generalize byteOf b 0 = operand
  rcases operand with _ | _ | _ | _ | n
  case succ.succ.succ.zero => simp
  case succ.succ.succ.succ => simp
  all_goals simp [ofLength]

theorem parseItem_places (command : Nat) (b : List Byte) : parseItem command b = itemOf command b := by
  have time : ofLength b 12 ((stampAt b 0).map ReqItem.setTime) = if b.length = 12 then
      some (.setTime { seconds := numOf b 0 6, nanos := numOf b 6 4, fraction := numOf b 10 2 }) else none :=
    (ofLength_if (p := True) fun length => by rw [stampAt_of_le (by omega)]; rfl).trans (if_congr (iff_of_eq (and_true _)) rfl rfl)
  rcases command with _ | _ | _ | _ | _ | _ | _ | _ | _ | _ | _ | _ | n
  case succ.zero => exact parseRead_places b
  case succ.succ.zero => exact parseWrite_places b
  case succ.succ.succ.succ.succ.zero => exact parseServo_places b
  case succ.succ.succ.succ.succ.succ.zero => exact time
  case succ.succ.succ.succ.succ.succ.succ.zero => exact parseOperand_places b 0 [.captureRead, .captureNow]
  case succ.succ.succ.succ.succ.succ.succ.succ.zero =>
    exact parseOperand_places b 1 [.clear true false, .clear false true, .clear true true]
  case succ.succ.succ.succ.succ.succ.succ.succ.succ.succ.zero => exact parseOperand_places b 0 [.bypassOff, .bypassOn]
  case succ.succ.succ.succ.succ.succ.succ.succ.succ.succ.succ.zero => exact parseOperand_places b 0 [.resetWarm, .resetFull]
  case succ.succ.succ.succ.succ.succ.succ.succ.succ.succ.succ.succ => simp [parseItem, itemOf]
  all_goals rfl

/-! ### Requests -/

theorem natAt_lt {b : List Byte} {k width n : Nat} (read : natAt b k width = some n) : n < 256 ^ width := by
  simp only [natAt, Option.map_eq_some_iff, bytesAt_eq_some] at read
  obtain ⟨f, ⟨-, length⟩, rfl⟩ := read
  exact length ▸ beNat_lt f

/-- Items are read where their lengths and contents stand one after the other. -/
theorem parseItems_eq_some {n : Nat} {bytes : List Byte} {contents : List (List Byte)} :
    parseItems n bytes = some contents ↔ contents.length = n ∧ (∀ c ∈ contents, c.length < 2 ^ 16) ∧
      ∃ padding, bytes = (contents.flatMap fun c => beBytes 2 c.length ++ c) ++ padding := by
  induction n generalizing bytes contents with
  | zero =>
    rw [parseItems]
    constructor
    · rintro ⟨⟩
      exact ⟨rfl, by simp, bytes, rfl⟩
    · rintro ⟨none_, -, -⟩
      rw [List.length_eq_zero_iff.mp none_]
  | succ n ih =>
    simp only [parseItems, Option.bind_eq_bind, Option.bind_eq_some_iff, Option.pure_def, Option.some.injEq]
    constructor
    · rintro ⟨length, width, content, taken, rest, others, rfl⟩
      obtain ⟨count, short, padding, remains⟩ := ih.mp others
      have small := natAt_lt width
      have front := (natAt_eq_some small).mp width
      obtain ⟨middle, long⟩ := bytesAt_eq_some.mp taken
      refine ⟨by rw [List.length_cons, count], List.forall_mem_cons.mpr ⟨long ▸ small, short⟩, padding, ?_⟩
      have whole : bytes = bytes.take 2 ++ ((bytes.drop 2).take length ++ bytes.drop (2 + length)) := by
        rw [← List.drop_drop, List.take_append_drop, List.take_append_drop]
      rw [List.drop_zero] at front
      rw [whole, front, middle, remains, List.flatMap_cons, long]
      simp only [List.append_assoc]
    · rintro ⟨count, short, padding, rfl⟩
      cases contents with
      | nil => cases count
      | cons c rest =>
        obtain ⟨small, others⟩ := List.forall_mem_cons.mp short
        have length : (beBytes 2 c.length).length = 2 := beBytes_length _ _
        have after : (((c :: rest).flatMap fun c => beBytes 2 c.length ++ c) ++ padding) =
            beBytes 2 c.length ++ (c ++ ((rest.flatMap fun c => beBytes 2 c.length ++ c) ++ padding)) := by
          simp only [List.flatMap_cons, List.append_assoc]
        rw [after]
        refine ⟨c.length, (natAt_eq_some small).mpr ?_, c, bytesAt_eq_some.mpr ⟨?_, rfl⟩, rest, ih.mpr ⟨?_, others, padding, ?_⟩, rfl⟩
        · rw [List.drop_zero, List.take_left' length]
        · rw [List.drop_left' length, List.take_left' rfl]
        · exact Nat.succ.inj count
        · rw [← List.drop_drop, List.drop_left' length, List.drop_left' rfl]

section

variable (r : Request)

theorem Request.command_eq : r.command = byteOf r.body 4 := numOf_one r.body 4

theorem Request.count_eq : r.count = byteOf r.body 5 := numOf_one r.body 5

theorem Request.bare_iff : r.bare = true ↔ r.command = 3 ∨ r.command = 4 ∨ r.command = 9 := by
  simp [Request.bare, or_assoc]

theorem Request.known_iff : r.known = true ↔ 1 ≤ r.command ∧ r.command ≤ 11 := by
  simp [Request.known]

theorem Request.responseItems_eq :
    r.responseItems = if r.command = 3 ∨ r.command = 4 ∨ r.command = 9 then 1 else r.count :=
  if_congr r.bare_iff rfl rfl

theorem Request.countSuits_iff : r.countSuits = true ↔
    if r.command = 3 ∨ r.command = 4 ∨ r.command = 9 then r.count = 0
    else if r.command ≤ 2 then 1 ≤ r.count ∧ r.count ≤ 16
    else r.count = 1 := by
  unfold Request.countSuits
  by_cases bare : r.command = 3 ∨ r.command = 4 ∨ r.command = 9
  · rw [if_pos (r.bare_iff.mpr bare), if_pos bare, beq_iff_eq]
  · rw [if_neg (mt r.bare_iff.mp bare), if_neg bare]
    split
    · rw [Bool.and_eq_true, decide_eq_true_iff, decide_eq_true_iff]
    · exact beq_iff_eq

theorem Request.itemAt_eq (n : Nat) : r.itemAt n =
    if r.command = 3 then some .copy
    else if r.command = 4 then some .swap
    else if r.command = 9 then some .summary
    else r.contents.bind fun contents => contents[n]?.bind (itemOf r.command) := by
  unfold Request.itemAt
  by_cases bare : r.command = 3 ∨ r.command = 4 ∨ r.command = 9
  · rw [if_pos (r.bare_iff.mpr bare)]
    rcases bare with is | is | is <;> simp [is, bareItem]
  · obtain ⟨copy, swap, summary⟩ : r.command ≠ 3 ∧ r.command ≠ 4 ∧ r.command ≠ 9 := by simpa using bare
    rw [if_neg (mt r.bare_iff.mp bare), if_neg copy, if_neg swap, if_neg summary]
    cases r.contents with
    | none => rfl
    | some contents =>
      rw [Option.bind_some, ← funext (parseItem_places r.command)]
      dsimp only
      cases contents[n]? <;> rfl

end

end Sys2Proof.Machine
end

section
/-! Requests: taken, refused for their form, and answered (R165, R168, R170, R179, R180). -/

namespace Sys2Proof.Machine

/-! ### The item in handling (R167, R168) -/

section

variable {s : State} {r : Request} {i : ReqItem}

theorem State.headRequest_eq_some :
    s.headRequest = some r ↔ s.phase = .running ∧ s.agent.hold = none ∧ s.agent.queue.head? = some r := by
  simp [State.headRequest, State.handles, and_assoc]

theorem State.currentItem_eq_some : s.currentItem = some (r, i) ↔
    s.headRequest = some r ∧ r.itemized = true ∧ r.itemAt s.agent.results.length = some i := by
  unfold State.currentItem
  cases head : s.headRequest with
  | none => simp
  | some q =>
    dsimp only
    by_cases itemized : q.itemized = true
    · rw [if_pos itemized, Option.map_eq_some_iff]
      constructor
      · rintro ⟨j, at_, same⟩
        obtain ⟨rfl, rfl⟩ := Prod.mk.inj same
        exact ⟨rfl, itemized, at_⟩
      · rintro ⟨same, -, at_⟩
        obtain rfl := Option.some.inj same
        exact ⟨i, at_, rfl⟩
    · rw [if_neg itemized]
      refine ⟨fun h => (by cases h), ?_⟩
      rintro ⟨same, yes, -⟩
      obtain rfl := Option.some.inj same
      exact absurd yes itemized

theorem Request.itemized_iff (r : Request) : r.itemized = true ↔
    (1 ≤ r.command ∧ r.command ≤ 11) ∧ r.countSuits = true ∧ r.contents.isSome = true := by
  rw [Request.itemized, Bool.and_eq_true, Bool.and_eq_true, r.known_iff, and_assoc]

end

/-! ### The taking of a request (R165, R174) -/

theorem append_and_high (x y m : Byte) : (x ++ y) &&& (m ++ BitVec.allOnes 8) = (x &&& m) ++ y := by
  ext i inside
  simp only [BitVec.getElem_and, BitVec.getElem_append]
  split
  · rw [BitVec.getElem_allOnes, Bool.and_true]
  · rfl

/-- A tag is copied without its drop flag. -/
theorem tagOf_eq_some {bytes : List Byte} {tag : BitVec 16} : tagOf bytes = some tag ↔
    ∃ x y : Byte, (bytes.drop 12).take 4 = [0x81, 0x00, x, y] ∧ tag = (x &&& 0xEF#8) ++ y := by
  have spell (x y : Byte) : BitVec.ofNat 16 (beNat [x, y]) &&& 0xEFFF#16 = (x &&& 0xEF#8) ++ y := by
    have pair : BitVec.ofNat 16 (beNat [x, y]) = x ++ y := by
      apply BitVec.eq_of_toNat_eq
      have high := x.isLt
      have low := y.isLt
      rw [BitVec.toNat_append, BitVec.toNat_ofNat, ← Nat.shiftLeft_add_eq_or_of_lt low, Nat.shiftLeft_eq]
      simp only [beNat, List.foldl_cons, List.foldl_nil]
      omega
    have mask : 0xEFFF#16 = 0xEF#8 ++ BitVec.allOnes 8 := by decide
    rw [pair, mask]
    exact append_and_high x y 0xEF#8
  have parts : (bytes.drop 12).take 4 = (bytes.drop 12).take 2 ++ (bytes.drop 14).take 2 := by
    rw [← List.drop_drop (i := 2) (j := 12), ← List.take_add]
  simp only [tagOf, Option.ite_none_right_eq_some, hasTag_iff, Option.map_eq_some_iff, natAt, bytesAt_eq_some]
  constructor
  · rintro ⟨marked, n, ⟨f, ⟨rfl, two⟩, rfl⟩, rfl⟩
    obtain ⟨x, y, is⟩ := List.length_eq_two.mp two
    refine ⟨x, y, ?_, ?_⟩
    · rw [parts, marked, is]
      rfl
    · rw [is, spell]
  · rintro ⟨x, y, is, rfl⟩
    have marked : (bytes.drop 12).take 2 = [0x81, 0x00] := by
      have front := congrArg (List.take 2) is
      rwa [List.take_take] at front
    have word : (bytes.drop 14).take 2 = [x, y] := by
      have back := congrArg (List.drop 2) is
      rwa [List.drop_take, List.drop_drop] at back
    exact ⟨marked, beNat [x, y], ⟨[x, y], ⟨word, rfl⟩, rfl⟩, spell x y⟩

section

variable {bytes : List Byte} {source : Address}

theorem Agent.allows_iff (a : Agent) (line : Line) (source : Address) : a.allows line source = true ↔
    (line = .north ∨ a.southManagement = true) ∧ ((∀ x ∈ a.managers, x = none) ∨ some source ∈ a.managers) := by
  simp [Agent.allows]

theorem Agent.take_unreadable {a : Agent} {line : Line} (unreadable : requestReadable (payloadOf bytes) = false) :
    a.take line bytes = { a with malformed := count16 a.malformed } := by
  unfold Agent.take
  cases sourceOf bytes with
  | none => rfl
  | some source => simp [unreadable]

theorem Agent.take_group (a : Agent) (line : Line) (from_ : sourceOf bytes = some source) (group : source.getLsbD 40 = true) :
    a.take line bytes = { a with malformed := count16 a.malformed } := by
  have isGroup : isGroup source = true := group
  rw [Agent.take, from_]
  simp [isGroup]

/-- A readable request from one station meets the manager list and then the queue. -/
theorem Agent.take_readable (a : Agent) (line : Line) (from_ : sourceOf bytes = some source)
    (readable : requestReadable (payloadOf bytes) = true) (single : source.getLsbD 40 = false) : a.take line bytes =
      if a.allows line source = true then
        if a.queue.length < 4 then
          { a with queue := a.queue ++ [{ line := line, source := source, tag := tagOf bytes, body := payloadOf bytes }] }
        else { a with queueFull := count16 a.queueFull }
      else { a with disallowed := count16 a.disallowed } := by
  have isSingle : isGroup source = false := single
  rw [Agent.take, from_]
  simp [readable, isSingle]

end

/-! ### Requests and items refused for their form (R168, R179) -/

section

variable {s : State} {r : Request}

theorem State.answerBadCommand_eq (head : s.headRequest = some r) (unknown : ¬(1 ≤ r.command ∧ r.command ≤ 11)) :
    s.answerBadCommand = s.respond r .badCommand [] := by
  rw [State.answerBadCommand, head]
  exact if_neg (mt r.known_iff.mp unknown)

theorem State.answerBadItems_whole (head : s.headRequest = some r) (known : 1 ≤ r.command ∧ r.command ≤ 11)
    (unsuited : r.countSuits = false ∨ r.contents = none) :
    s.answerBadItems = s.respond r .badValue (List.replicate r.responseItems .badValue) := by
  have whole : ¬r.itemized = true := fun itemized => by
    obtain ⟨-, suits, lies⟩ := r.itemized_iff.mp itemized
    rcases unsuited with odd | none_
    · exact Bool.false_ne_true (odd.symm.trans suits)
    · rw [none_] at lies
      cases lies
  rw [State.answerBadItems, head]
  exact (if_pos (r.known_iff.mpr known)).trans (if_neg whole)

theorem State.answerBadItems_one (head : s.headRequest = some r) (itemized : r.itemized = true)
    (refused : r.itemAt s.agent.results.length = none) : s.answerBadItems = s.finishItem r .badValue := by
  have known := (r.itemized_iff.mp itemized).1
  rw [State.answerBadItems, head]
  refine (if_pos (r.known_iff.mpr known)).trans ((if_pos itemized).trans ?_)
  rw [refused]

end

/-! ### The status of a request (R168) -/

theorem Status.refuses_iff (x : Status) : x.refuses = true ↔ x ≠ .ok ∧ x ≠ .clamped := by
  simp [Status.refuses]

section

variable {results : List ItemResult}

theorem requestStatus_first {before after : List ItemResult} {y : ItemResult}
    (clean : ∀ z ∈ before, z.status = .ok ∨ z.status = .clamped) (refuses : y.status ≠ .ok ∧ y.status ≠ .clamped) :
    requestStatus (before ++ y :: after) = y.status := by
  have found : (before ++ y :: after).find? (·.status.refuses) = some y := by
    have none_ : before.find? (·.status.refuses) = none := List.find?_eq_none.mpr fun z mem refused => by
      obtain ⟨good, fits⟩ := z.status.refuses_iff.mp refused
      exact (clean z mem).elim good fits
    rw [List.find?_append, none_, Option.none_or, List.find?_cons, y.status.refuses_iff.mpr refuses]
  rw [requestStatus, found]

theorem requestStatus_clean (clean : ∀ z ∈ results, z.status = .ok ∨ z.status = .clamped) :
    requestStatus results = if ∃ z ∈ results, z.status = .clamped then .clamped else .ok := by
  have found : results.find? (·.status.refuses) = none := List.find?_eq_none.mpr fun z mem refused => by
    obtain ⟨good, fits⟩ := z.status.refuses_iff.mp refused
    exact (clean z mem).elim good fits
  rw [requestStatus, found]
  refine if_congr ?_ rfl rfl
  simp only [List.any_eq_true, beq_iff_eq]

end

end Sys2Proof.Machine

section

open Sys2Proof Sys2Proof.Machine

/-- Settles O53. -/
theorem requestsAreAnswered : Obligations.RequestsAreAnswered := by
  refine ⟨?_, fun bytes tag => tagOf_eq_some, fun s line bytes => ?_, fun s dt r rest running free queue => ?_, fun s r x => ?_,
    fun s r status results => ?_, fun s r status results => ?_⟩
  · intro byte num signed flags ranged optional term classEntry rackEntry read write operand item r suits
    refine ⟨r.responseItems_eq, r.command_eq, r.count_eq, r.countSuits_iff, fun contents => parseItems_eq_some,
      fun n => r.itemAt_eq n, fun s i => ?_⟩
    rw [State.currentItem_eq_some, State.headRequest_eq_some, r.itemized_iff, r.countSuits_iff]
    exact ⟨fun ⟨⟨a, b, c⟩, ⟨⟨d, e⟩, f, g⟩, h⟩ => ⟨a, b, c, d, e, f, g, h⟩, fun ⟨a, b, c, d, e, f, g, h⟩ => ⟨⟨a, b, c⟩, ⟨⟨d, e⟩, f, g⟩, h⟩⟩
  · intro body readable counted malformed
    have readable_iff : requestReadable body = true ↔ readable := by
      simp [requestReadable, readable, and_assoc]
    refine ⟨fun unread => ?_, fun source from_ => ?_⟩
    · rw [State.takeRequest_eq, Agent.take_unreadable (Bool.eq_false_iff.mpr (mt readable_iff.mp unread))]
      rfl
    · intro listed allowed
      have allows : s.agent.allows line source = true ↔ allowed := s.agent.allows_iff line source
      have made (clear : readable) (single : source.getLsbD 40 = false) := s.agent.take_readable line from_ (readable_iff.mpr clear) single
      refine ⟨fun group => ?_, fun clear single refused => ?_, fun clear single listed full => ?_, fun clear single listed room => ?_⟩
      · rw [State.takeRequest_eq, s.agent.take_group line from_ group]
        rfl
      · rw [State.takeRequest_eq, made clear single, if_neg (mt allows.mp refused)]
        rfl
      · rw [State.takeRequest_eq, made clear single, if_pos (allows.mpr listed), if_neg (Nat.not_lt.mpr full)]
        rfl
      · rw [State.takeRequest_eq, made clear single, if_pos (allows.mpr listed), if_pos room]
        rfl
  · intro u
    have head : u.headRequest = some r := State.headRequest_eq_some.mpr ⟨running, free, by rw [show u.agent.queue = _ from queue]; rfl⟩
    refine ⟨fun unknown => ?_, fun low high unsuited => ?_, fun low high suits lies refused => ?_⟩
    · exact congrArg Host.Outcome.next (State.answerBadCommand_eq head unknown)
    · rw [← r.responseItems_eq]
      exact congrArg Host.Outcome.next (State.answerBadItems_whole head ⟨low, high⟩ unsuited)
    · exact congrArg Host.Outcome.next
        (State.answerBadItems_one head (r.itemized_iff.mpr ⟨⟨low, high⟩, suits, lies⟩) refused)
  · intro results
    refine ⟨fun more => if_neg more, fun last => ⟨requestStatus results, if_pos last, fun good => ?_, fun clean clamped => ?_, ?_⟩⟩
    · rw [requestStatus_clean fun z mem => .inl (good z mem), if_neg]
      rintro ⟨z, mem, clamped⟩
      rw [good z mem] at clamped
      cases clamped
    · rw [requestStatus_clean clean, if_pos clamped]
    · intro before y after is clean notOk notClamped
      rw [is, requestStatus_first clean ⟨notOk, notClamped⟩]
  · intro code header answer
    refine ⟨rfl, ownStart_eq _, ?_⟩
    have made : answer.bytes = ownHeader r.source s.agent.address r.tag s.lines.managementType ++ responsePayload r status results := rfl
    have coded : Status.code = code := funext Status.code_eq
    rw [made, ownHeader_eq, responsePayload_eq, coded]
    simp only [header, List.append_assoc] <;> rfl
  · intro ended
    have place : s.hasPlace r.line = true ↔ (s.lineAt r.line).origin.length < 8 := s.hasPlace_iff r.line
    refine ⟨fun room => ?_, fun full => ?_⟩
    · have offered : s.offerResponse r.line (s.response r status results) = s.join r.line (s.response r status results) :=
        if_pos (place.mpr room)
      rw [State.respond, offered]
      have agent : (s.join r.line (s.response r status results)).agent = s.agent := by simp
      exact congrArg (State.setAgent _) (congrArg Agent.endHandling agent)
    · have offered : s.offerResponse r.line (s.response r status results) =
          s.setAgent { s.agent with responseDropped := count16 s.agent.responseDropped } :=
        if_neg (mt place.mp (Nat.not_lt.mpr full))
      rw [State.respond, offered]
      rfl

end
end
